-- ==== Sys2Proof/Word.lean ====
section
/-! DEFINITION. The word types of the part: a byte of the line, a 32-bit value of a management request. -/

namespace Sys2Proof

/-- One byte of the lighting line (R1). -/
abbrev Byte := BitVec 8

/-- The 32-bit number in which GET and SET carry every field (R168). -/
abbrev Word := BitVec 32

end Sys2Proof
end

