-- ==== Sys2Proof/Syntax.lean ====
section
/-! DEFINITION. The commands of the part, one constructor for each row of spec/opcode_table.json. -/

namespace Sys2Proof

/-- The two ports of the part: control side and field side (00_scope 0.2). -/
inductive Port
  | c
  | f
  deriving DecidableEq, Repr

/-- What every management request carries before its operands: the time passed since the previous
command (log 1), the source of the frame and the tag (R145). -/
structure ReqHead where
  dt : Nat
  src : Byte
  tag : Byte
  deriving DecidableEq, Repr

/-- The structural fields of a sensor (R52). -/
inductive SensorStructural
  | used
  | source
  deriving DecidableEq, Repr

/-- The structural fields of a portal (R74). -/
inductive PortalStructural
  | used
  | bore
  | mainSensor
  | reserveSensor
  deriving DecidableEq, Repr

/-- The structural fields of a zone (R92). -/
inductive ZoneStructural
  | used
  | portal
  | position
  | stageList
  | reserveGroup
  deriving DecidableEq, Repr

/-- The structural fields of a group (R94). -/
inductive GroupStructural
  | used
  | groupAddress
  deriving DecidableEq, Repr

/-- The structural fields of a driver (R131). -/
inductive DriverStructural
  | used
  | lineAddress
  | group
  deriving DecidableEq, Repr

/-- The owner fields of the DEVICE table (R150). -/
inductive OwnerField
  | control
  | maintenance
  deriving DecidableEq, Repr

/-- The commands. `dt` is the time, in units of 1/72 microsecond, since the previous command (log 1); the
running out of a timer needs none, since it comes at the moment the timer gives. A request row carries the
source and tag of the MREQ frame and the bytes after its request code, or, where the row is a SET of one
kind of field, the row, the field and the value. -/
inductive Instr
  -- supply and pins (R169)
  | powerOn (addr : BitVec 4) (rate : BitVec 2)
  | powerLoss
  | resetAssert
  | pinReset (addr : BitVec 4) (rate : BitVec 2)
  -- port reception (R6 to R12)
  | receiveByte (dt : Nat) (port : Port) (b : Byte)
  | closeExpiry (port : Port)
  | freeExpiry (port : Port)
  -- daylight (R61, R66 to R69)
  | ageTimerExpiry (sensor : Fin 8)
  | pulseEdge (dt : Nat) (input : Fin 4)
  | gateExpiry (input : Fin 4)
  -- regulation (R79, R86, R115)
  | passTimerExpiry (portal : Fin 4)
  | holdTimerExpiry (portal : Fin 4)
  | rampTimerExpiry (portal : Fin 4)
  -- transmitters and poller (R42 to R47, R134)
  | fPick (dt : Nat)
  | fSendComplete (dt : Nat)
  | replyWindowExpiry
  | pollTimerExpiry
  | cPick (dt : Nat)
  | cSendComplete (dt : Nat)
  -- statistics (R96, R165)
  | oneSecondExpiry
  -- management requests (R144 to R159)
  | get (h : ReqHead) (operands : List Byte)
  | set (h : ReqHead) (operands : List Byte)
  | setAcceptField (h : ReqHead) (row field : Byte) (value : Word)
  | setSensorStructural (h : ReqHead) (row : Byte) (field : SensorStructural) (value : Word)
  | setPulseEnable (h : ReqHead) (row : Byte) (value : Word)
  | setPortalStructural (h : ReqHead) (row : Byte) (field : PortalStructural) (value : Word)
  | setZoneStructural (h : ReqHead) (row : Byte) (field : ZoneStructural) (value : Word)
  | setZoneRatio (h : ReqHead) (row : Byte) (value : Word)
  | setGroupStructural (h : ReqHead) (row : Byte) (field : GroupStructural) (value : Word)
  | setBurnHours (h : ReqHead) (row : Byte) (value : Word)
  | setGroupOwner (h : ReqHead) (row : Byte) (value : Word)
  | setDriverStructural (h : ReqHead) (row : Byte) (field : DriverStructural) (value : Word)
  | setOwnerAddress (h : ReqHead) (field : OwnerField) (value : Word)
  | activate (h : ReqHead)
  | deactivate (h : ReqHead)
  | standby (h : ReqHead) (operands : List Byte)
  | resume (h : ReqHead) (operands : List Byte)
  | force (h : ReqHead) (operands : List Byte)
  | release (h : ReqHead) (operands : List Byte)
  | rescan (h : ReqHead)
  | clearFlags (h : ReqHead) (operands : List Byte)
  | readCounter (h : ReqHead) (operands : List Byte)
  | restart (h : ReqHead)
  | unknownRequest (dt : Nat) (src : Byte) (payload : List Byte)
  deriving DecidableEq, Repr

end Sys2Proof
end

