-- ==== Sys2Proof/Decode.lean ====
section
/-! DEFINITION. Commands spelled by the bits of spec/opcode_table.json. No row of that table gives bits. -/

namespace Sys2Proof

/-- The command a word spells by the table's bits: no row of the table gives any, so none is spelled. -/
def decodeTableWord (_nbits _w : Nat) : Option Instr := none

end Sys2Proof
end

