-- ==== Sys2Proof/Config.lean ====
section
/-! DEFINITION. What the implementation fixes, and the values the manual leaves open: free values with no body. -/

namespace Sys2Proof

/-- Family code of the DEVICE table (Table 9-6). -/
def Config.familyCode : Nat := 740

/-- Revision of the DEVICE table (Table 9-6). -/
def Config.revision : Nat := 1

/-- Free value (log 8): whether GET of a running timer's remaining time, of `t` time units that are no
whole number of milliseconds, reads the next millisecond up instead of the one below. -/
opaque Config.remainingRoundsUp (t : Nat) : Bool

/-- Free value (log 9): the luminance, before the clamp of R69, of a period-mode gate of count `n` and
scale `s` whose two edge times differ by 0 modulo 2^48; R68 divides by that difference. -/
opaque Config.zeroPeriodLuminance (n s : Nat) : Nat

/-- Free value (log 10): whether field 5 of row 0 of the FLAGS table, where Table 11-8 has no flag, names
a field (and then reads 0) or names none (BAD_FIELD). -/
opaque Config.deviceFlag5IsAField : Bool

end Sys2Proof
end

