-- ==== Sys2Proof/Machine/State.lean ====
section
/-! DEFINITION. The state of the part as plain data, its value right after reset, and the reasons a step can stop. -/

namespace Sys2Proof.Machine

/-- No command of this part stops the machine (log 25): every command has its effect, is answered with a result
code, or does not come about, so there is no fault to name. -/
inductive Fault : Type
  deriving DecidableEq, Repr

/-- Why a step has no meaning. -/
inductive Refusal
  /-- Raised by an arm of `exec` whose command has no meaning yet; no arm does. Safe. -/
  | notModelled (mnemonic : String)
  deriving DecidableEq, Repr

/-- A moment or a length of time, in units of 1/72 microsecond (log 1). -/
abbrev Time := Nat

/-! ### Frames and receivers -/

/-- A frame once judged good, or composed by the part; its length field is the length of its payload (R1, R8)
and its check is computed when it is sent (R2). -/
structure Frame where
  dest : Byte
  src : Byte
  cls : BitVec 4
  payload : List Byte
  deriving DecidableEq, Repr

/-- Receiver states (Table 1-5). -/
inductive RxState
  | unsync
  | ready
  | assembling
  | closing
  deriving DecidableEq, Repr

/-- A receiver's gap timer (R6): stopped, or running since the end of the last byte, with its close expiry
still to come or already taken. -/
inductive GapTimer
  | stopped
  | running (lastEnd : Time) (closeTaken : Bool)
  deriving DecidableEq, Repr

/-- A port receiver (R7). `counted` tells that UNSYNC was entered by an abandoned frame or by a trailing byte
and no free expiry has come since, so that bytes do not set the fragment mark. `lostUntil` is the model's own: a byte that ends no
later than this moment is of a frame begun while the part was sending, which is lost without a count (R12, R43, log 11). -/
structure Receiver where
  state : RxState
  buffer : List Byte
  check : BitVec 16
  fragment : Bool
  counted : Bool
  lostUntil : Option Time
  gap : GapTimer
  deriving DecidableEq, Repr

/-! ### Queues and transmitters -/

/-- Kind of an own LEVEL (Table 3-1). -/
inductive LevelKind
  | autoManual
  | fire
  deriving DecidableEq, Repr

/-- Origin of an own POLL (R135). -/
inductive PollOrigin
  | round
  | scan
  deriving DecidableEq, Repr

/-- An entry of the F queue (R34). -/
inductive FEntry
  | passThrough (f : Frame)
  | level (group : Fin 48) (level : Nat) (kind : LevelKind)
  | poll (driver : Fin 160) (origin : PollOrigin)
  deriving DecidableEq, Repr

/-- What an entry of the C queue is (R39); a response says whether it is RESTART's (R42, R158). -/
inductive CKind
  | response (ofRestart : Bool)
  | alert
  | passThrough
  deriving DecidableEq, Repr

/-- An entry of the C queue (R39). -/
structure CEntry where
  kind : CKind
  frame : Frame
  deriving DecidableEq, Repr

/-- The C-port transmitter (R42). -/
inductive CTx
  | idle (guardEnd : Time)
  | sending (e : CEntry)
  deriving DecidableEq, Repr

/-- The driver and origin of an own POLL on the segment (R135). -/
structure OwnPoll where
  driver : Fin 160
  origin : PollOrigin
  deriving DecidableEq, Repr

/-- Scope of a reply window (R44). -/
inductive WindowScope
  | individual
  | group
  deriving DecidableEq, Repr

/-- The window record (R44). -/
structure Window where
  polled : Byte
  scope : WindowScope
  owner : Option (Fin 160)
  origin : Option PollOrigin
  deriving DecidableEq, Repr

/-- The F-port transmitter (Fig. 3-1), with the frame it sends, or its window record and the moment the window
timer runs out. -/
inductive FTx
  | idle
  | sending (f : Frame) (own : Option OwnPoll)
  | awaitReply (w : Window) (ends : Time)
  deriving DecidableEq, Repr

/-! ### Acceptance table -/

/-- The ports field of an acceptance entry (Table 2-1). -/
inductive PortSelector
  | c
  | f
  | both
  deriving DecidableEq, Repr

/-- The action of an acceptance entry (Table 2-3). -/
inductive Action
  | sample
  | traffic
  | pass
  | drop
  deriving DecidableEq, Repr

/-- An acceptance entry (Table 2-1). -/
structure AcceptEntry where
  enable : Bool
  ports : PortSelector
  mask : Word
  value : Word
  action : Action
  sensor : Fin 8
  forward : Bool
  hits : Word
  deriving DecidableEq, Repr

/-! ### Sensors and pulse inputs -/

/-- Source of a sensor (Table 4-1). -/
inductive Source
  | line
  | pulse (input : Fin 4)
  deriving DecidableEq, Repr

/-- Sensor states (Table 4-3). -/
inductive SensorState
  | unused
  | wait
  | valid
  | stale
  | fault
  deriving DecidableEq, Repr

/-- Origin of a sample (R54). -/
inductive Origin
  | entry (i : Fin 16)
  | pulse (input : Fin 4)
  deriving DecidableEq, Repr

/-- A sample (R54). -/
structure Sample where
  luminance : Nat
  saturated : Bool
  origin : Origin
  deriving DecidableEq, Repr

/-- A sensor record (Table 4-1); the age timer is the moment it runs out. -/
structure Sensor where
  used : Bool
  source : Source
  staleTimeout : Nat
  state : SensorState
  history : List Sample
  rejects : Nat
  probation : List Sample
  good : Nat
  ageTimer : Option Time
  deriving DecidableEq, Repr

/-- A running gate: the moment it ends and its own length in ms (R65). -/
structure Gate where
  ends : Time
  length : Nat
  deriving DecidableEq, Repr

/-- A reference edge time cleared by the age expiry of a sensor the input feeds, and the moment of that expiry (R61). -/
structure ClearedReference where
  moment : Time
  reference : Option (BitVec 48)
  deriving DecidableEq, Repr

/-- A pulse input record (Table 4-6), its running gate, and the moment of the last edge it took (R169, log 23). `cleared` is the
model's own: the reference an age expiry has cleared since the last gate end, which a gate that ends at that same moment still
makes its sample from (R62 (1), log 42). -/
structure PulseInput where
  enable : Bool
  gateLength : Nat
  scale : Nat
  count : Nat
  lastEdge : Option (BitVec 48)
  reference : Option (BitVec 48)
  lastSample : Option Sample
  gate : Option Gate
  cleared : Option ClearedReference
  lastTaken : Option Time
  deriving DecidableEq, Repr

/-! ### Portals, zones, groups, drivers -/

/-- Portal states (Table 5-3). -/
inductive PortalState
  | unused
  | standby
  | fallback
  | hold
  | tracking
  deriving DecidableEq, Repr

/-- Kind of an override (R122). -/
inductive OverrideKind
  | manual
  | fire
  deriving DecidableEq, Repr

/-- Scope of a zone's override (R122). -/
inductive OverrideScope
  | zone
  | portal
  deriving DecidableEq, Repr

/-- A zone's override (R122). -/
structure ZoneOverride where
  kind : OverrideKind
  level : Nat
  scope : OverrideScope
  deriving DecidableEq, Repr

/-- A portal's override field (R122). -/
structure PortalOverride where
  kind : OverrideKind
  level : Nat
  deriving DecidableEq, Repr

/-- A portal record (Tables 5-1 and 5-2); each timer is the moment it runs out. -/
structure Portal where
  used : Bool
  bore : Fin 2
  mainSensor : Fin 8
  reserveSensor : Option (Fin 8)
  tolerance : Nat
  fallbackLuminance : Nat
  holdTime : Nat
  ceiling : Nat
  interior : Nat
  passPeriod : Nat
  rampPeriod : Nat
  riseStep : Nat
  fallStep : Nat
  deadband : Nat
  refreshInterval : Nat
  initialSpeed : Fin 8
  initialTraffic : Fin 4
  state : PortalState
  speed : Fin 8
  traffic : Fin 4
  la : Option Nat
  lastGoodLa : Option Nat
  lth : Option Nat
  holdTimer : Option Time
  passTimer : Option Time
  rampTimer : Option Time
  disagree : Bool
  override : Option PortalOverride
  deriving DecidableEq, Repr

/-- A zone record (Table 6-1, R122, R171). Stage n of the on set is `onStages[n - 1]`. -/
structure Zone where
  used : Bool
  portal : Fin 4
  position : Nat
  stages : List (Fin 48)
  reserve : Option (Fin 48)
  ratio : Nat
  hysteresis : Nat
  lz : Option Nat
  onStages : Vector Bool 4
  onReserve : Bool
  dCmd : Nat
  dTarget : Option Nat
  deficit : Bool
  deficitAmount : Nat
  override : Option ZoneOverride
  reserveEligible : Bool
  deriving DecidableEq, Repr

/-- Who commands a group (R95). -/
inductive Owner
  | part
  | line
  deriving DecidableEq, Repr

/-- A group record (Table 6-2, R118). The refresh age is the time since `refreshFrom` (R119). -/
structure Group where
  used : Bool
  address : Byte
  rated : Nat
  dmin : Nat
  owner : Owner
  depreciation : Nat
  mfFloor : Nat
  sent : Nat
  pendingMark : Bool
  due : Bool
  refreshFrom : Time
  burnMinutes : Nat
  burnSub : Nat
  burnKnown : Bool
  mf : Option Nat
  sg : Option Nat
  deriving DecidableEq, Repr

/-- Driver states (Table 8-2). -/
inductive DriverState
  | unused
  | unknown
  | ok
  | degraded
  | failed
  | absent
  deriving DecidableEq, Repr

/-- A driver record (Table 8-1). -/
structure Driver where
  used : Bool
  address : Byte
  group : Fin 48
  state : DriverState
  misses : Nat
  lastCondition : Option Byte
  lastLevel : Option (BitVec 16)
  deriving DecidableEq, Repr

/-- A rescan (R136 to R139): none, waiting for the window of its POLL, or waiting for the poll timer after a
skipped POLL. -/
inductive Rescan
  | none
  | awaitWindow
  | awaitTimer
  deriving DecidableEq, Repr

/-! ### Counters and management -/

/-- Portal scope of a counter (R164). -/
inductive CounterScope
  | portal (p : Fin 4)
  | all
  deriving DecidableEq, Repr

/-- A statistics counter (R164). -/
structure Counter where
  value : Word
  sticky : Bool
  select : Fin 16
  scope : CounterScope
  deriving DecidableEq, Repr

/-- The writable fields of the DEVICE table (Table 9-6). -/
structure Device where
  controlOwner : Byte
  maintenanceOwner : Byte
  rollover : Bool
  pollInterval : Nat
  replyWindow : Nat
  missLimit : Nat
  deviceAlert : Bool
  portalAlert : Vector Bool 4
  deriving DecidableEq, Repr

/-- Device modes (R152). -/
inductive Mode
  | transparent
  | running
  deriving DecidableEq, Repr

/-- An occupied request slot (R144): the request, the moment it was placed, its number among the requests placed
(log 34), and its response while that waits for room in the C queue (R41). -/
structure Slot where
  request : Frame
  moment : Time
  number : Nat
  response : Option CEntry
  deriving DecidableEq, Repr

/-! ### The whole part -/

/-- The state of the part. -/
structure State where
  -- pins and supply (R169)
  supply : Bool
  resetLow : Bool
  relayDriven : Bool
  addrPins : BitVec 4
  ratePins : BitVec 2
  /-- time since power-on or pin reset (log 1) -/
  now : Time
  -- ports
  cRx : Receiver
  fRx : Receiver
  cTx : CTx
  fTx : FTx
  fQueue : List FEntry
  cQueue : List CEntry
  -- tables
  accept : Vector AcceptEntry 16
  sensors : Vector Sensor 8
  pulses : Vector PulseInput 4
  portals : Vector Portal 4
  kTable : Vector Nat 128
  zones : Vector Zone 32
  groups : Vector Group 48
  drivers : Vector Driver 160
  counters : Vector Counter 8
  -- flags: bit n is the flag at that bit of Table 11-8
  deviceFlags : BitVec 5
  portalFlags : Vector (BitVec 6) 4
  -- management engine
  device : Device
  mode : Mode
  restartPending : Bool
  slot0 : Option Slot
  slot1 : Option Slot
  placed : Nat
  -- poller
  pollTimer : Option Time
  cursor : Fin 160
  rescan : Rescan
  rescanPosition : Nat
  /-- the SCAN POLL on the segment is one of an abandoned rescan (log 19) -/
  scanOrphan : Bool
  -- statistics: the moment the one-second timer runs out
  secondTimer : Time
  /-- commands waiting, first in first out -/
  pending : List Instr
  deriving DecidableEq, Repr

/-! ### Reset values -/

/-- A receiver at power-on (R20): UNSYNC, empty, gap timer started. -/
def Receiver.reset : Receiver :=
  { state := .unsync, buffer := [], check := 0xFFFF#16, fragment := false, counted := false, lostUntil := none,
    gap := .running 0 false }

/-- Table 2-5. -/
def AcceptEntry.reset : AcceptEntry :=
  { enable := false, ports := .both, mask := 0, value := 0, action := .pass, sensor := 0, forward := true, hits := 0 }

/-- Table 4-1. -/
def Sensor.reset : Sensor :=
  { used := false, source := .line, staleTimeout := 10, state := .unused, history := [], rejects := 0, probation := [],
    good := 0, ageTimer := none }

/-- Table 4-6. -/
def PulseInput.reset : PulseInput :=
  { enable := false, gateLength := 250, scale := 100, count := 0, lastEdge := none, reference := none, lastSample := none,
    gate := none, cleared := none, lastTaken := none }

/-- Table 5-1, R77, R91. -/
def Portal.reset : Portal :=
  { used := false, bore := 0, mainSensor := 0, reserveSensor := none, tolerance := 150, fallbackLuminance := 20000,
    holdTime := 120, ceiling := 40000, interior := 50, passPeriod := 2, rampPeriod := 500, riseStep := 100, fallStep := 5,
    deadband := 2, refreshInterval := 30, initialSpeed := 7, initialTraffic := 3, state := .unused, speed := 7, traffic := 3,
    la := none, lastGoodLa := none, lth := none, holdTimer := none, passTimer := none, rampTimer := none, disagree := false,
    override := none }

/-- Table 6-1, R129, R171. -/
def Zone.reset : Zone :=
  { used := false, portal := 0, position := 1, stages := [], reserve := none, ratio := 1000, hysteresis := 100, lz := none,
    onStages := Vector.replicate 4 false, onReserve := false, dCmd := 0, dTarget := none, deficit := false,
    deficitAmount := 0, override := none, reserveEligible := false }

/-- Table 6-2, R119, R129. -/
def Group.reset : Group :=
  { used := false, address := 200, rated := 1000, dmin := 10, owner := .part, depreciation := 0, mfFloor := 800, sent := 0,
    pendingMark := false, due := false, refreshFrom := 0, burnMinutes := 0, burnSub := 0, burnKnown := false, mf := none,
    sg := none }

/-- Table 8-1. -/
def Driver.reset : Driver :=
  { used := false, address := 1, group := 0, state := .unused, misses := 0, lastCondition := none, lastLevel := none }

/-- R167. -/
def Counter.reset : Counter := { value := 0, sticky := false, select := 0, scope := .all }

/-- Table 9-6. -/
def Device.reset : Device :=
  { controlOwner := 0, maintenanceOwner := 0, rollover := true, pollInterval := 250, replyWindow := 30, missLimit := 3,
    deviceAlert := true, portalAlert := Vector.replicate 4 true }

/-- The part at the moment the power-on values are set, with the address and rate pins as read then
(R20, R33, R51, R71, R91, R113, R129, R142, R159, R161, R167, R169). The guard time of the C-port runs for 4
byte-times of 6250 time units and the one-second timer for 72,000,000. -/
def State.powerOn (addr : BitVec 4) (rate : BitVec 2) : State :=
  { supply := true, resetLow := false, relayDriven := true, addrPins := addr, ratePins := rate, now := 0,
    cRx := Receiver.reset, fRx := Receiver.reset, cTx := .idle 25000, fTx := .idle, fQueue := [], cQueue := [],
    accept := Vector.replicate 16 AcceptEntry.reset, sensors := Vector.replicate 8 Sensor.reset,
    pulses := Vector.replicate 4 PulseInput.reset, portals := Vector.replicate 4 Portal.reset,
    kTable := Vector.replicate 128 2000, zones := Vector.replicate 32 Zone.reset, groups := Vector.replicate 48 Group.reset,
    drivers := Vector.replicate 160 Driver.reset, counters := Vector.replicate 8 Counter.reset, deviceFlags := 0,
    portalFlags := Vector.replicate 4 0, device := Device.reset, mode := .transparent, restartPending := false,
    slot0 := none, slot1 := none, placed := 0, pollTimer := none, cursor := 0, rescan := .none, rescanPosition := 0,
    scanOrphan := false, secondTimer := 72000000, pending := [] }

/-- The part right after reset; the levels at the address and rate pins are the model's choice (log 5). -/
def State.reset : State := State.powerOn 0 0

end Sys2Proof.Machine
end

