-- ==== Sys2Proof/Machine/Ops.lean ====
section
/-! DEFINITION. Shared operations: arithmetic, time, table updates and the look-ups one block makes in another's records. -/

namespace Sys2Proof.Machine

/-! ### Arithmetic -/

/-- The quotient rounded up (0.6.2); callers divide by 0 nowhere. -/
def ceilDiv (a b : Nat) : Nat := (a + (b - 1)) / b

/-- High byte of a 16-bit number (11.1). -/
def hiByte (n : Nat) : Byte := BitVec.ofNat 8 (n / 256)

/-- Low byte of a 16-bit number (11.1). -/
def loByte (n : Nat) : Byte := BitVec.ofNat 8 n

/-- Two bytes, high byte first, as a number (11.1). -/
def joinBytes (hi lo : Byte) : Nat := hi.toNat * 256 + lo.toNat

/-- A 32-bit value as four bytes, high byte first (11.1). -/
def wordBytes (w : Word) : List Byte :=
  [w.extractLsb' 24 8, w.extractLsb' 16 8, w.extractLsb' 8 8, w.extractLsb' 0 8]

/-- Four bytes, high byte first, as a 32-bit value (11.1). -/
def wordOfBytes (a b c d : Byte) : Word := a ++ b ++ c ++ d

/-! ### Tables -/

/-- Replaces record `i` of a table by `f` of it. -/
def updAt {α : Type} {n : Nat} (v : Vector α n) (i : Fin n) (f : α → α) : Vector α n := v.set i (f v[i])

/-- Replaces every record of a table by `f` of its index and itself. -/
def updAll {α : Type} {n : Nat} (v : Vector α n) (f : Fin n → α → α) : Vector α n := Vector.ofFn fun i => f i v[i]

/-! ### Time (log 1) -/

/-- Time units in a microsecond. -/
def usTicks : Nat := 72

/-- Time units in a millisecond. -/
def msTicks : Nat := 72000

/-- Time units in a second. -/
def secTicks : Nat := 72000000

/-- A byte-time (1.2.1, Tables 1-4 and 11-14): ten bit times at 115.2, 19.2, 38.4 or 76.8 kbit/s. -/
def State.byteTime (s : State) (port : Port) : Time :=
  match port with
  | .c => 6250
  | .f =>
    match s.ratePins.toNat with
    | 1 => 18750
    | 2 => 9375
    | _ => 37500

/-- Time passes before a command that is no running out of a timer. -/
def State.elapse (s : State) (dt : Time) : State := { s with now := s.now + dt }

/-- A timer runs out at `t`: the clock stands at `t`, or later where the expiry is taken late. -/
def State.reach (s : State) (t : Time) : State := { s with now := max s.now t }

/-- The microsecond clock, 48 bits (R66). -/
def State.microClock (s : State) : BitVec 48 := BitVec.ofNat 48 (s.now / usTicks)

/-- A group's refresh age in time units; it holds at 65,535 s (R119). -/
def State.refreshAge (s : State) (g : Fin 48) : Time := min (65535 * secTicks) (s.now - s.groups[g].refreshFrom)

/-! ### Identity -/

/-- The part takes line bytes and events only while it is supplied and out of reset (R169). -/
def State.live (s : State) : Bool := s.supply && !s.resetLow

/-- The own address (R5). -/
def State.ownAddress (s : State) : Byte := BitVec.ofNat 8 (184 + s.addrPins.toNat)

/-- The F-DIR pin: driven while the F-port transmitter is in SENDING (Table 11-13). -/
def State.fDir (s : State) : Bool :=
  match s.fTx with
  | .sending _ _ => true
  | _ => false

/-- Does the F-port transmitter hold the segment (R12)? -/
def State.fSending (s : State) : Bool := s.fDir

/-! ### Look-ups across blocks -/

/-- The portals of a sensor: every used portal that names it as main or reserve (4.1.1). -/
def State.sensorPortals (s : State) (i : Fin 8) : List (Fin 4) :=
  (List.finRange 4).filter fun p =>
    s.portals[p].used && (s.portals[p].mainSensor == i || s.portals[p].reserveSensor == some i)

/-- The groups that stand in a zone: its stage list, then its reserve (6.1). -/
def Zone.standing (z : Zone) : List (Fin 48) := z.stages ++ z.reserve.toList

/-- The used zones in which a group stands, lowest index first (6.1). -/
def State.zonesOfGroup (s : State) (g : Fin 48) : List (Fin 32) :=
  (List.finRange 32).filter fun z => s.zones[z].used && s.zones[z].standing.contains g

/-- The portal of the used zone in which a group stands (R133, R36); the first zone where there are several, which no
RUNNING part has (R150, log 29). -/
def State.portalOfGroup (s : State) (g : Fin 48) : Option (Fin 4) :=
  (s.zonesOfGroup g).head?.map fun z => s.zones[z].portal

/-- FALLBACK, HOLD and TRACKING are the regulating states (Table 5-3). -/
def PortalState.regulating (p : PortalState) : Bool :=
  match p with
  | .fallback | .hold | .tracking => true
  | .unused | .standby => false

/-- Is the portal used and regulating (R15, R78)? -/
def State.regulating (s : State) (p : Fin 4) : Bool := s.portals[p].used && s.portals[p].state.regulating

/-- The used zones of a portal in order of position, from position 1 inward (R84, R115). -/
def State.portalZones (s : State) (p : Fin 4) : List (Fin 32) :=
  (List.range 8).flatMap fun k =>
    (List.finRange 32).filter fun z => s.zones[z].used && s.zones[z].portal == p && s.zones[z].position == k + 1

/-- A stage or the reserve of a zone (6.1); stage n of the manual is `stage (n - 1)`. -/
inductive Place
  | stage (n : Fin 4)
  | reserve
  deriving DecidableEq, Repr

/-- The zone's stages with their groups, in list order, the reserve last (6.1). -/
def Zone.places (z : Zone) : List (Place × Fin 48) :=
  ((List.finRange 4).filterMap fun n => (z.stages[n.val]?).map fun g => (Place.stage n, g))
    ++ z.reserve.toList.map fun g => (Place.reserve, g)

/-- Is the stage in the on set? -/
def Zone.isOn (z : Zone) (p : Place) : Bool :=
  match p with
  | .stage n => z.onStages[n]
  | .reserve => z.onReserve

/-- Puts a stage in the on set or takes it out. -/
def Zone.setOn (z : Zone) (p : Place) (b : Bool) : Zone :=
  match p with
  | .stage n => { z with onStages := z.onStages.set n b }
  | .reserve => { z with onReserve := b }

/-- Do two zones have the same on set? -/
def Zone.sameOnSet (y z : Zone) : Bool := y.onStages == z.onStages && y.onReserve == z.onReserve

/-- The level of a group of a zone with commanded level `d` (R116). -/
def Group.levelAt (g : Group) (on : Bool) (d : Nat) : Nat := if on && decide (g.dmin ≤ d) then d else 0

/-- The units of a driver's state toward available output (Table 6-3). -/
def DriverState.units (d : DriverState) : Nat :=
  match d with
  | .unknown | .ok => 2
  | .degraded => 1
  | .failed | .absent | .unused => 0

/-- Is the reserve eligible on account of a driver in this state (R101, Table 8-2)? -/
def DriverState.ailing (d : DriverState) : Bool :=
  match d with
  | .degraded | .failed | .absent => true
  | .unused | .unknown | .ok => false

/-- The used driver records whose group field names the group (R99). -/
def State.listed (s : State) (g : Fin 48) : List (Fin 160) :=
  (List.finRange 160).filter fun d => s.drivers[d].used && s.drivers[d].group == g

end Sys2Proof.Machine
end

