-- ==== Sys2Proof/Machine/Checks.lean ====
section
/-! DEFINITION. The consistency checks of ACTIVATE and RESUME, and the law of the tables in RUNNING (R150, R153, R154). -/

namespace Sys2Proof.Machine

/-- A failed check: its number and the row reported (Table 9-7). -/
structure Failure where
  check : Nat
  row : Nat
  deriving DecidableEq, Repr

/-! ### Which records a check looks at

The scope is none for ACTIVATE (R153) and a portal for its RESUME (R154). -/

/-- The used portals examined. -/
def State.examinesPortal (s : State) (scope : Option (Fin 4)) (p : Fin 4) : Bool :=
  s.portals[p].used && scope.all (· == p)

/-- The used zones examined. -/
def State.examinesZone (s : State) (scope : Option (Fin 4)) (z : Fin 32) : Bool :=
  s.zones[z].used && scope.all (· == s.zones[z].portal)

/-- The used groups examined: those in the slots of the zones examined, or all of them. -/
def State.examinesGroup (s : State) (scope : Option (Fin 4)) (g : Fin 48) : Bool :=
  s.groups[g].used && scope.all fun p => (s.zonesOfGroup g).any fun z => s.zones[z].portal == p

/-- The used drivers examined: those of the groups examined, or all of them. -/
def State.examinesDriver (s : State) (scope : Option (Fin 4)) (d : Fin 160) : Bool :=
  s.drivers[d].used && scope.all fun p => (s.zonesOfGroup s.drivers[d].group).any fun z => s.zones[z].portal == p

/-- Does the portal name the sensor? -/
def Portal.names (r : Portal) (i : Fin 8) : Bool := r.mainSensor == i || r.reserveSensor == some i

/-- The used sensors examined: the portal's two, or all of them. -/
def State.examinesSensor (s : State) (scope : Option (Fin 4)) (i : Fin 8) : Bool :=
  s.sensors[i].used && scope.all fun p => s.portals[p].names i

/-! ### Reporting (R153, log 12) -/

/-- The first record of a check that fails, in index order, with the row it reports. -/
def firstRow {n : Nat} (check : Nat) (examined : Fin n → Bool) (fails : Fin n → Option Nat) : Option Failure :=
  ((List.finRange n).findSome? fun i => if examined i then fails i else none).map fun row => { check := check, row := row }

/-- A record that fails with another reports the higher index of the pair; the other is the lowest that fails with it (log 12). -/
def pairRow {n : Nat} (i : Fin n) (clashes : Fin n → Bool) : Option Nat :=
  ((List.finRange n).find? fun j => j != i && clashes j).map fun j => max i.val j.val

/-- A record that fails on its own reports itself. -/
def ownRow {n : Nat} (i : Fin n) (bad : Bool) : Option Nat := if bad then some i.val else none

/-! ### The nine checks (Table 9-7) -/

/-- Check 1: at least one portal is used. The row none is carried as 255 (11.3). -/
def State.check1 (s : State) : Option Failure :=
  if (List.finRange 4).any fun p => s.portals[p].used then none else some { check := 1, row := 255 }

/-- Check 2: the portal's sensors, zones and limits. -/
def State.check2 (s : State) (scope : Option (Fin 4)) : Option Failure :=
  firstRow 2 (s.examinesPortal scope) fun p =>
    let r := s.portals[p]
    ownRow p <| !(s.sensors[r.mainSensor].used
      && (r.reserveSensor.all fun i => s.sensors[i].used)
      && ((List.finRange 32).any fun z => s.zones[z].used && s.zones[z].portal == p)
      && decide (r.interior ≤ r.ceiling))

/-- Does a used zone of the portal stand at the position? -/
def State.hasPosition (s : State) (p : Fin 4) (k : Nat) : Bool :=
  (List.finRange 32).any fun z => s.zones[z].used && s.zones[z].portal == p && s.zones[z].position == k

/-- The lowest position from 1 at which no used zone of the portal stands. -/
def State.firstGap (s : State) (p : Fin 4) : Nat := ((List.range 8).map (· + 1)).find? (fun k => !s.hasPosition p k) |>.getD 9

/-- Does the zone stand at the position after the portal's first gap (R153, log 12)? -/
def State.afterGap (s : State) (i : Fin 32) : Bool :=
  let p := s.zones[i].portal
  let k := s.zones[i].position
  let gap := s.firstGap p
  decide (gap < k) && !((List.range 8).any fun m => decide (gap < m + 1 ∧ m + 1 < k) && s.hasPosition p (m + 1))

/-- Check 3: used portal, unique positions, no gap. -/
def State.check3 (s : State) (scope : Option (Fin 4)) : Option Failure :=
  firstRow 3 (s.examinesZone scope) fun i =>
    let z := s.zones[i]
    let clash := pairRow i fun j => s.zones[j].used && s.zones[j].portal == z.portal && s.zones[j].position == z.position
    (ownRow i !s.portals[z.portal].used).or (clash.or (ownRow i (s.afterGap i)))

/-- Check 4: ratios do not increase with position; the pair is two zones at neighbouring positions. -/
def State.check4 (s : State) (scope : Option (Fin 4)) : Option Failure :=
  firstRow 4 (s.examinesZone scope) fun i =>
    let z := s.zones[i]
    pairRow i fun j =>
      let y := s.zones[j]
      y.used && y.portal == z.portal
        && ((y.position + 1 == z.position && decide (y.ratio < z.ratio))
          || (z.position + 1 == y.position && decide (z.ratio < y.ratio)))

/-- Check 5: a non-empty stage list, and used groups in every slot, the reserve's included (log 13). -/
def State.check5 (s : State) (scope : Option (Fin 4)) : Option Failure :=
  firstRow 5 (s.examinesZone scope) fun i =>
    let z := s.zones[i]
    ownRow i (z.stages.isEmpty || !(z.standing.all fun g => s.groups[g].used))

/-- The number of slots of used zones that name a group. -/
def State.slotCount (s : State) (g : Fin 48) : Nat :=
  ((List.finRange 32).map fun z => if s.zones[z].used then s.zones[z].standing.count g else 0).sum

/-- Check 6: each used group stands in exactly one slot. -/
def State.check6 (s : State) (scope : Option (Fin 4)) : Option Failure :=
  firstRow 6 (s.examinesGroup scope) fun g => ownRow g (s.slotCount g != 1)

/-- Check 7: group addresses are unique. -/
def State.check7 (s : State) (scope : Option (Fin 4)) : Option Failure :=
  firstRow 7 (s.examinesGroup scope) fun g =>
    pairRow g fun j => s.groups[j].used && s.groups[j].address == s.groups[g].address

/-- Check 8: a used group, and unique line addresses. A driver that fails on both counts is reported for its group, itself the row:
the model's choice (log 12). -/
def State.check8 (s : State) (scope : Option (Fin 4)) : Option Failure :=
  firstRow 8 (s.examinesDriver scope) fun d =>
    (ownRow d !s.groups[s.drivers[d].group].used).or <|
      pairRow d fun j => s.drivers[j].used && s.drivers[j].address == s.drivers[d].address

/-- The number of roles, main or reserve, in which used portals name a sensor. -/
def State.roleCount (s : State) (i : Fin 8) : Nat :=
  ((List.finRange 4).map fun p =>
    let r := s.portals[p]
    if r.used then (if r.mainSensor = i then 1 else 0) + (if r.reserveSensor = some i then 1 else 0) else 0).sum

/-- Check 9: exactly one role; the input of a pulse-fed sensor enabled and shared with no other used sensor. -/
def State.check9 (s : State) (scope : Option (Fin 4)) : Option Failure :=
  firstRow 9 (s.examinesSensor scope) fun i =>
    (ownRow i (s.roleCount i != 1)).or <|
      match s.sensors[i].source with
      | .line => none
      | .pulse n =>
        (ownRow i !s.pulses[n].enable).or (pairRow i fun j => s.sensors[j].used && s.sensors[j].source == .pulse n)

/-- The consistency check (R153), or its part for one portal (R154): the first failure, in the order of Table 9-7. -/
def State.consistency (s : State) (scope : Option (Fin 4)) : Option Failure :=
  [s.check1, s.check2 scope, s.check3 scope, s.check4 scope, s.check5 scope, s.check6 scope, s.check7 scope, s.check8 scope,
    s.check9 scope].findSome? id

/-- The law of the tables in RUNNING: checks 6 and 8 over the whole tables (R150). -/
def State.lawBroken (s : State) : Option Failure := (s.check6 none).or (s.check8 none)

end Sys2Proof.Machine
end

