-- ==== Sys2Proof/Machine/Frames.lean ====
section
/-! DEFINITION. Frames as bytes: the check, the header, and the frames the part composes. -/

namespace Sys2Proof.Machine

/-! ### The check (R2) -/

/-- One bit into the check register, generator polynomial 0x1021 (R2). -/
def crcBit (c : BitVec 16) (b : Bool) : BitVec 16 := (c <<< 1) ^^^ (if c.msb != b then 0x1021#16 else 0#16)

/-- One byte into the check register, most significant bit first (R2). -/
def crcByte (c : BitVec 16) (b : Byte) : BitVec 16 :=
  [7, 6, 5, 4, 3, 2, 1, 0].foldl (fun c k => crcBit c (b.getLsbD k)) c

/-- The check of a run of bytes, from 0xFFFF (R2). -/
def crc (bytes : List Byte) : BitVec 16 := bytes.foldl crcByte 0xFFFF#16

/-! ### Layout (Table 11-1) -/

/-- The number of payload bytes a header's third byte announces; 13 to 15 are taken as 12 (R1). -/
def expectedPayload (b : Byte) : Nat := min (b.toNat % 16) 12

/-- The number of bytes after which the frame that begins so is complete: 5 + P once the third byte is in (R1). -/
def frameLength (buffer : List Byte) : Option Nat := (buffer[2]?).map fun b => 5 + expectedPayload b

/-- Header and payload in transmission order (Table 11-1). -/
def Frame.body (f : Frame) : List Byte := [f.dest, f.src, f.cls ++ BitVec.ofNat 4 f.payload.length] ++ f.payload

/-- The frame as sent, its check computed over it (R2, R8). -/
def Frame.bytes (f : Frame) : List Byte :=
  let c := crc f.body
  f.body ++ [c.extractLsb' 8 8, c.extractLsb' 0 8]

/-- The frame a complete assembly buffer holds: its length is that of the payload taken (R8). -/
def Frame.ofBuffer (buffer : List Byte) : Frame :=
  match buffer with
  | d :: sr :: c :: rest => { dest := d, src := sr, cls := c.extractLsb' 4 4, payload := rest.take (expectedPayload c) }
  | _ => { dest := 0, src := 0, cls := 0, payload := [] }

/-- The two received check bytes, the last two of a complete buffer (R2). -/
def receivedCheck (buffer : List Byte) : BitVec 16 :=
  match buffer.reverse with
  | lo :: hi :: _ => hi ++ lo
  | _ => 0

/-! ### Classes (Table 1-2) -/

/-- Class LEVEL. -/
def clsLevel : BitVec 4 := 0
/-- Class POLL. -/
def clsPoll : BitVec 4 := 1
/-- Class STATUS. -/
def clsStatus : BitVec 4 := 2
/-- Class MREQ. -/
def clsMreq : BitVec 4 := 5
/-- Class MRSP. -/
def clsMrsp : BitVec 4 := 6
/-- Class ALERT. -/
def clsAlert : BitVec 4 := 7

/-- The LEVEL frame of an own LEVEL entry at its pick (R35). -/
def State.levelFrame (s : State) (g : Fin 48) (level : Nat) : Frame :=
  { dest := s.groups[g].address, src := s.ownAddress, cls := clsLevel, payload := [hiByte level, loByte level] }

/-- The POLL frame of an own POLL entry at its pick (R35). -/
def State.pollFrame (s : State) (d : Fin 160) : Frame :=
  { dest := s.drivers[d].address, src := s.ownAddress, cls := clsPoll, payload := [] }

end Sys2Proof.Machine
end

