-- ==== Sys2Proof/Machine/Flags.lean ====
section
/-! DEFINITION. Event flags, ALERT frames and statistics counters (Chapter 10). -/

namespace Sys2Proof.Machine

/-! ### Names -/

/-- Flags of the device set (Table 10-1). -/
inductive DeviceFlag
  | checkErr
  | qDrop
  | mgmtOvr
  | rescanDone
  | cntOvf
  deriving DecidableEq, Repr

/-- Flags of a portal set (Table 10-1). -/
inductive PortalFlag
  | sensorLost
  | fallbackEntered
  | disagree
  | sensorFault
  | deficit
  | driver
  deriving DecidableEq, Repr

/-- Bit positions of the device set (Table 11-8). -/
def DeviceFlag.bit (f : DeviceFlag) : Nat :=
  match f with
  | .checkErr => 0
  | .qDrop => 1
  | .mgmtOvr => 2
  | .rescanDone => 3
  | .cntOvf => 4

/-- Bit positions of a portal set (Table 11-8). -/
def PortalFlag.bit (f : PortalFlag) : Nat :=
  match f with
  | .sensorLost => 0
  | .fallbackEntered => 1
  | .disagree => 2
  | .sensorFault => 3
  | .deficit => 4
  | .driver => 5

/-- ALERT event code of a device flag (Table 11-7). -/
def DeviceFlag.event (f : DeviceFlag) : Byte :=
  match f with
  | .checkErr => 1
  | .qDrop => 2
  | .mgmtOvr => 3
  | .rescanDone => 4
  | .cntOvf => 5

/-- ALERT event code of a portal flag (Table 11-7). -/
def PortalFlag.event (f : PortalFlag) : Byte :=
  match f with
  | .sensorLost => 16
  | .fallbackEntered => 17
  | .disagree => 18
  | .sensorFault => 19
  | .deficit => 20
  | .driver => 23

/-- ALERT event code DEFICIT_END (Table 11-7). -/
def evDeficitEnd : Byte := 21

/-- ALERT event code TRACKING (Table 11-7). -/
def evTracking : Byte := 22

/-! ### Counting and alerting

Counting can wrap a counter, which latches CNT_OVF and offers an ALERT; an ALERT can be dropped, which counts. So the
two are defined together, over the three pieces of state they touch. -/

/-- The part of the state that counting and alerting write. -/
structure Report where
  counters : Vector Counter 8
  deviceFlags : BitVec 5
  cQueue : List CEntry

/-- What of the configuration they read. -/
structure ReportCfg where
  own : Byte
  controlOwner : Byte
  deviceAlert : Bool

/-- The configuration read by counting and alerting. -/
def State.reportCfg (s : State) : ReportCfg :=
  { own := s.ownAddress, controlOwner := s.device.controlOwner, deviceAlert := s.device.deviceAlert }

/-- The report part of the state. -/
def State.report (s : State) : Report := { counters := s.counters, deviceFlags := s.deviceFlags, cQueue := s.cQueue }

/-- The state with its report part replaced. -/
def State.withReport (s : State) (r : Report) : State :=
  { s with counters := r.counters, deviceFlags := r.deviceFlags, cQueue := r.cQueue }

/-- An ALERT frame (R162, Table 11-3): to the control owner, or to 255 when that is 0. -/
def ReportCfg.alertFrame (c : ReportCfg) (event object : Byte) (value : Nat) : Frame :=
  { dest := if c.controlOwner = 0 then 255 else c.controlOwner, src := c.own, cls := clsAlert,
    payload := [event, object, hiByte value, loByte value] }

/-- Adds to one counter (R166): beyond 4,294,967,295 the value wraps and the sticky mark is set. -/
def Counter.add (c : Counter) (n : Nat) : Counter :=
  { c with value := BitVec.ofNat 32 (c.value.toNat + n), sticky := c.sticky || decide (2 ^ 32 ≤ c.value.toNat + n) }

/-- Does adding wrap the counter (R166)? -/
def Counter.wraps (c : Counter) (n : Nat) : Bool := decide (2 ^ 32 ≤ c.value.toNat + n)

/-- Latches a device flag (R160). -/
def Report.latch (r : Report) (f : DeviceFlag) : Report :=
  { r with deviceFlags := r.deviceFlags ||| BitVec.ofNat 5 (2 ^ f.bit) }

/-- A dropped ALERT reaches one counter (R40); a wrap latches CNT_OVF and offers its ALERT, which the full queue drops again,
counted by `again` (R166). -/
def Report.dropRound (cfg : ReportCfg) (again : Report → Report) (r : Report) (i : Fin 8) : Report :=
  if r.counters[i].select = 11 then
    let r' := { r with counters := updAt r.counters i (·.add 1) }
    if r.counters[i].wraps 1 then
      let r'' := r'.latch .cntOvf
      if cfg.deviceAlert then again r'' else r''
    else r'
  else r

/-- Counts an ALERT dropped at a full C queue under code 11 (R40, R166). Each counter can wrap once in such a chain, so a fuel of 9
is never used up (log 27). -/
@[irreducible] def Report.countDropped (cfg : ReportCfg) (fuel : Nat) : Report → Report :=
  Nat.repeat (fun again r => (List.finRange 8).foldl (Report.dropRound cfg again) r) fuel id

/-- Offers an ALERT to the C queue when its enable is yes (R162, R163): added with fewer than 16 entries, else dropped and
counted under code 11 (R40). -/
@[irreducible] def Report.offerAlert (cfg : ReportCfg) (enable : Bool) (event object : Byte) (value : Nat) (r : Report) : Report :=
  if enable then
    if r.cQueue.length < 16 then
      { r with cQueue := r.cQueue ++ [{ kind := .alert, frame := cfg.alertFrame event object value }] }
    else Report.countDropped cfg 9 r
  else r

/-- Adds `amount` of its scope to every counter whose select code is `code` (R165), counter 0 first (log 27); a wrap latches
CNT_OVF and offers its ALERT (R166). -/
@[irreducible] def Report.count (cfg : ReportCfg) (code : Fin 16) (amount : CounterScope → Nat) (r : Report) : Report :=
  (List.finRange 8).foldl (init := r) fun r i =>
    if r.counters[i].select = code then
      let n := amount r.counters[i].scope
      let r' := { r with counters := updAt r.counters i (·.add n) }
      if r.counters[i].wraps n then
        (r'.latch .cntOvf).offerAlert cfg cfg.deviceAlert (DeviceFlag.event .cntOvf) (BitVec.ofNat 8 i.val) code.val
      else r'
    else r

/-- An unscoped event adds `n` whatever the counter's scope (R165). -/
def unscoped (n : Nat) : CounterScope → Nat := fun _ => n

/-- A scoped event of the given portals adds 1 to a counter of scope ALL or of one of them (R165, R55). -/
def scopedTo (ps : List (Fin 4)) : CounterScope → Nat := fun sc =>
  match sc with
  | .all => 1
  | .portal p => if ps.contains p then 1 else 0

/-- Counts an event on the state (R165). -/
def State.count (s : State) (code : Fin 16) (amount : CounterScope → Nat) : State :=
  s.withReport (s.report.count s.reportCfg code amount)

/-- Offers an ALERT on the state (R162). -/
def State.offerAlert (s : State) (enable : Bool) (event object : Byte) (value : Nat) : State :=
  s.withReport (s.report.offerAlert s.reportCfg enable event object value)

/-- A device event latches its flag and then offers its ALERT (R160, R162). -/
def State.deviceEvent (s : State) (f : DeviceFlag) (object : Byte) (value : Nat) : State :=
  s.withReport ((s.report.latch f).offerAlert s.reportCfg s.device.deviceAlert f.event object value)

/-- An ALERT of a portal event, under that portal's enable (R163). -/
def State.portalAlert (s : State) (p : Fin 4) (event object : Byte) (value : Nat) : State :=
  s.offerAlert s.device.portalAlert[p] event object value

/-- Latches a portal flag (R160). -/
def State.latchPortal (s : State) (p : Fin 4) (f : PortalFlag) : State :=
  { s with portalFlags := updAt s.portalFlags p (· ||| BitVec.ofNat 6 (2 ^ f.bit)) }

/-- A portal event latches its flag and then offers its ALERT (R160, R162). -/
def State.portalEvent (s : State) (p : Fin 4) (f : PortalFlag) (object : Byte) (value : Nat) : State :=
  (s.latchPortal p f).portalAlert p f.event object value

end Sys2Proof.Machine
end

