-- ==== Sys2Proof/Machine/Queues.lean ====
section
/-! DEFINITION. The two transmit queues: offers, answers and picks (Chapter 3). Each list stands in order of age, oldest first
(log 36). -/

namespace Sys2Proof.Machine

/-! ### Priorities and picks -/

/-- Class priority of an F queue entry (Table 3-1). -/
def FEntry.priority (e : FEntry) : Nat :=
  match e with
  | .level _ _ .fire => 1
  | .passThrough _ => 2
  | .level _ _ .autoManual => 3
  | .poll _ _ => 4

/-- Class priority of a C queue entry (R39). -/
def CEntry.priority (e : CEntry) : Nat :=
  match e.kind with
  | .response _ => 1
  | .alert => 2
  | .passThrough => 3

/-- Takes the first entry of the lowest priority number out of a queue kept oldest first (R35, R39): the entry and the rest. -/
def pickLowest {α : Type} (prio : α → Nat) (q : List α) : Option (α × List α) :=
  match q with
  | [] => none
  | e :: rest =>
    match pickLowest prio rest with
    | none => some (e, rest)
    | some (e', rest') => if prio e ≤ prio e' then some (e, rest) else some (e', e :: rest')

/-! ### Own LEVEL offers (R36, R118) -/

/-- Is the entry the own LEVEL of the group? -/
def FEntry.isLevelOf (g : Fin 48) (e : FEntry) : Bool :=
  match e with
  | .level g' _ _ => g' == g
  | _ => false

/-- An offer folded into the group's entry (R36 (1)): its level becomes the offered one, FIRE raises it, AUTO/MANUAL does not
lower it. -/
def FEntry.fold (g : Fin 48) (level : Nat) (kind : LevelKind) (e : FEntry) : FEntry :=
  match e with
  | .level g' l k => if g' = g then .level g level (if k = .fire then .fire else kind) else .level g' l k
  | e => e

/-- What an accepted own LEVEL offer does to its group (R36, R118). -/
def Group.accepted (g : Group) (now : Time) (level : Nat) : Group :=
  { g with sent := level, refreshFrom := now, due := false, pendingMark := true }

/-- An own LEVEL offer (R36): folded into the group's entry, added as a new entry, or refused at 32 entries with a count under
code 15; the group's sent level, refresh age and due mark follow the answer (R118). -/
def State.offerLevel (s : State) (g : Fin 48) (level : Nat) (kind : LevelKind) : State :=
  if s.groups[g].pendingMark then
    { s with fQueue := s.fQueue.map (FEntry.fold g level kind), groups := updAt s.groups g (·.accepted s.now level) }
  else if s.fQueue.length < 32 then
    { s with fQueue := s.fQueue ++ [.level g level kind], groups := updAt s.groups g (·.accepted s.now level) }
  else
    { s with groups := updAt s.groups g fun r => { r with due := true } }.count 15
      (scopedTo (s.portalOfGroup g).toList)

/-! ### Pass-through and POLL offers -/

/-- A frame forwarded from the C-port (R37): object 1 of the Q_DROP ALERT is the F queue, its value the frame's class. -/
def State.offerPassF (s : State) (f : Frame) : State :=
  if s.fQueue.length < 32 then { s with fQueue := s.fQueue ++ [.passThrough f] }
  else (s.count 4 (unscoped 1)).deviceEvent .qDrop 1 f.cls.toNat

/-- A frame forwarded from the F-port (R40). -/
def State.offerPassC (s : State) (f : Frame) : State :=
  if s.cQueue.length < 16 then { s with cQueue := s.cQueue ++ [{ kind := .passThrough, frame := f }] }
  else (s.count 4 (unscoped 1)).deviceEvent .qDrop 0 f.cls.toNat

/-- An own POLL offer (R38): added, or skipped at 32 entries with no other effect. -/
def State.offerPoll (s : State) (d : Fin 160) (origin : PollOrigin) : State :=
  if s.fQueue.length < 32 then { s with fQueue := s.fQueue ++ [.poll d origin] } else s

/-! ### Removal at DEACTIVATE and RESTART -/

/-- Is the entry one of the part's own (R48)? -/
def FEntry.own (e : FEntry) : Bool :=
  match e with
  | .passThrough _ => false
  | .level _ _ _ | .poll _ _ => true

/-- Every own LEVEL and own POLL entry leaves the F queue, and the pending marks of the groups concerned are cleared (R48). -/
def State.removeOwnEntries (s : State) : State :=
  { s with
    fQueue := s.fQueue.filter fun e => !e.own
    groups := updAll s.groups fun g r => if s.fQueue.any (·.isLevelOf g) then { r with pendingMark := false } else r }

/-- Both queues are emptied and every pending mark is cleared (R49). -/
def State.emptyQueues (s : State) : State :=
  { s with fQueue := [], cQueue := [], groups := updAll s.groups fun _ r => { r with pendingMark := false } }

/-! ### Responses (R41) -/

/-- The two request slots. -/
inductive SlotIndex
  | zero
  | one
  deriving DecidableEq, Repr

/-- What a request slot holds. -/
def State.slotAt (s : State) (k : SlotIndex) : Option Slot :=
  match k with
  | .zero => s.slot0
  | .one => s.slot1

/-- Writes a request slot. -/
def State.setSlot (s : State) (k : SlotIndex) (v : Option Slot) : State :=
  match k with
  | .zero => { s with slot0 := v }
  | .one => { s with slot1 := v }

/-- A composed response is offered (R41, R145): added with fewer than 16 entries and its slot freed, else it waits in its slot. -/
def State.offerResponse (s : State) (k : SlotIndex) (e : CEntry) : State :=
  if s.cQueue.length < 16 then { s with cQueue := s.cQueue ++ [e] }.setSlot k none
  else s.setSlot k ((s.slotAt k).map fun r => { r with response := some e })

/-- The slot of the response waiting longest, by the age of its request (R41). -/
def State.oldestWaiting (s : State) : Option (SlotIndex × CEntry) :=
  match s.slot0.bind (·.response), s.slot1.bind (·.response) with
  | none, none => none
  | some e, none => some (.zero, e)
  | none, some e => some (.one, e)
  | some e0, some e1 =>
    if (s.slot0.map (·.number)).getD 0 < (s.slot1.map (·.number)).getD 0 then some (.zero, e0) else some (.one, e1)

/-- The place a pick frees goes to a waiting response, and its slot is freed (R41). -/
def State.placeWaiting (s : State) : State :=
  match s.oldestWaiting with
  | none => s
  | some (k, e) => { s with cQueue := s.cQueue ++ [e] }.setSlot k none

end Sys2Proof.Machine
end

