-- ==== Sys2Proof/Machine/Drivers.lean ====
section
/-! DEFINITION. Driver presence: STATUS into a record, misses, the round robin and the rescan (Chapter 8). -/

namespace Sys2Proof.Machine

/-! ### Driver states -/

/-- The state a condition code gives (R132). -/
def stateOfCondition (c : Byte) : DriverState :=
  match c.toNat with
  | 0 => .ok
  | 1 => .degraded
  | _ => .failed

/-- Value code of a driver state (Table 11-9). -/
def DriverState.code (d : DriverState) : Nat :=
  match d with
  | .unused => 0
  | .unknown => 1
  | .ok => 2
  | .degraded => 3
  | .failed => 4
  | .absent => 5

/-- Replaces the record of one driver. -/
def State.mapDriver (s : State) (d : Fin 160) (f : Driver → Driver) : State := { s with drivers := updAt s.drivers d f }

/-- The flag and ALERT of a change of a driver's state from `old` to `new` (R133). -/
def State.driverChanged (s : State) (d : Fin 160) (old new : DriverState) : State :=
  match s.portalOfGroup s.drivers[d].group with
  | none => s
  | some p =>
    if old = new then s
    else if new.ailing then s.portalEvent p .driver (BitVec.ofNat 8 d.val) new.code
    else if old.ailing && new == .ok then s.portalAlert p PortalFlag.driver.event (BitVec.ofNat 8 d.val) new.code
    else s

/-! ### Snooping -/

/-- The used driver record that lists a line address (R16); the lowest index where several do, which no RUNNING part has
(R150, log 29). -/
def State.driverAt (s : State) (a : Byte) : Option (Fin 160) :=
  (List.finRange 160).find? fun d => s.drivers[d].used && s.drivers[d].address == a

/-- The comparison of a reported level with the sent level of the driver's group (R120). -/
def State.resync (s : State) (d : Fin 160) (level : Nat) : State :=
  let g := s.drivers[d].group
  let r := s.groups[g]
  let portal := ((s.zonesOfGroup g).map fun z => s.zones[z].portal).find? fun p => s.regulating p
  match portal with
  | none => s
  | some p =>
    if r.used && r.owner == .part && !r.pendingMark
        && (decide (1000 < level) || decide (s.portals[p].deadband < (level - r.sent) + (r.sent - level))) then
      { s with groups := updAt s.groups g fun r => { r with due := true } }
    else s

/-- A STATUS snooped into a used driver record (R132): first the comparison of R120, then the record, then flag and ALERT. -/
def State.snoop (s : State) (d : Fin 160) (condition : Byte) (level : BitVec 16) : State :=
  let old := s.drivers[d].state
  let new := stateOfCondition condition
  ((s.resync d level.toNat).mapDriver d fun r =>
    { r with lastCondition := some condition, lastLevel := some level, misses := 0, state := new }).driverChanged d old new

/-! ### Misses -/

/-- A driver enters ABSENT unless it is there already (R135, R138). -/
def State.enterAbsent (s : State) (d : Fin 160) : State :=
  let old := s.drivers[d].state
  (s.mapDriver d fun r => { r with misses := s.device.missLimit, state := .absent }).driverChanged d old .absent

/-- A miss charged to a driver (R135 for a ROUND POLL, R138 for a SCAN POLL); a miss of a record made unused is dropped. -/
def State.chargeMiss (s : State) (d : Fin 160) (origin : PollOrigin) : State :=
  if s.drivers[d].used then
    let counted := (s.mapDriver d fun r => { r with misses := r.misses + 1 }).count 6 (unscoped 1)
    match origin with
    | .scan => counted.enterAbsent d
    | .round => if s.device.missLimit ≤ s.drivers[d].misses + 1 then counted.enterAbsent d else counted
  else s

/-! ### The rescan -/

/-- The next used driver at or above an index (R137). -/
def State.nextUsed (s : State) (start : Nat) : Option (Fin 160) :=
  (List.finRange 160).find? fun d => s.drivers[d].used && decide (start ≤ d.val)

/-- The number of used drivers in ABSENT (Table 10-2). -/
def State.absentCount (s : State) : Nat :=
  ((List.finRange 160).filter fun d => s.drivers[d].used && s.drivers[d].state == .absent).length

/-- The rescan ends (R139). -/
def State.rescanEnd (s : State) : State :=
  { s with rescan := .none, rescanPosition := 160 }.deviceEvent .rescanDone 0 s.absentCount

/-- The rescan takes the next used driver at or above its position (R137): its SCAN POLL is offered, or skipped at a full queue,
and then the position moves past it; with no driver left the rescan ends (R139, log 18). -/
def State.rescanOffer (s : State) : State :=
  match s.nextUsed s.rescanPosition with
  | none => s.rescanEnd
  | some d =>
    if s.fQueue.length < 32 then { s.offerPoll d .scan with rescan := .awaitWindow }
    else
      let skipped := { s with rescanPosition := d.val + 1, rescan := .awaitTimer }
      if (s.nextUsed (d.val + 1)).isSome then skipped else skipped.rescanEnd

/-- A rescan starts at D0 (R136). -/
def State.rescanStart (s : State) : State := { s with rescanPosition := 0, rescan := .awaitWindow }.rescanOffer

/-- The window of a SCAN POLL to `d` has ended (R137, R138): the rescan moves on. A window left by an abandoned rescan moves
nothing (log 19). -/
def State.scanWindowEnded (s : State) (d : Fin 160) : State :=
  if s.scanOrphan then { s with scanOrphan := false }
  else if s.rescan = .awaitWindow then { s with rescanPosition := d.val + 1 }.rescanOffer
  else s

/-- Does the F-port transmitter hold a SCAN POLL or its window? -/
def FTx.holdsScan (t : FTx) : Bool :=
  match t with
  | .idle => false
  | .sending _ own => (own.map (·.origin)) == some .scan
  | .awaitReply w _ => w.origin == some .scan

/-- The POLL on the segment, or its window, charges no one any more, as RESTART leaves it (R49, log 41). -/
def FTx.disowned (t : FTx) : FTx :=
  match t with
  | .idle => .idle
  | .sending f _ => .sending f none
  | .awaitReply w ends => .awaitReply { w with owner := none, origin := none } ends

/-- A rescan in progress is abandoned (R141): no flag, no ALERT, the position stays. -/
def State.abandonRescan (s : State) : State :=
  { s with rescan := .none, scanOrphan := s.fTx.holdsScan, pollTimer := none }

/-! ### The round robin -/

/-- The used driver the cursor finds: from the cursor upward, wrapping from D159 to D0 (R134). -/
def State.roundNext (s : State) : Option (Fin 160) :=
  match s.nextUsed s.cursor.val with
  | some d => some d
  | none => s.nextUsed 0

/-- The running out of the poll timer (R134, R137): with no rescan, a ROUND POLL to the next used driver; with a skipped rescan,
its next POLL. -/
def State.pollExpiry (s : State) : State :=
  match s.pollTimer with
  | none => s
  | some e =>
    let s := s.reach e
    let t := { s with pollTimer := some (s.now + s.device.pollInterval * msTicks) }
    match t.rescan with
    | .awaitWindow => t
    | .awaitTimer => t.rescanOffer
    | .none =>
      match t.roundNext with
      | none => t
      | some d => { t.offerPoll d .round with cursor := d + 1 }

/-- Every used driver enters UNKNOWN with miss count 0 (R142, R141). -/
def State.driversUnknown (s : State) : State :=
  { s with drivers := updAll s.drivers fun _ r => if r.used then { r with state := .unknown, misses := 0 } else r }

end Sys2Proof.Machine
end

