-- ==== Sys2Proof/Machine/Operands.lean ====
section
/-! DEFINITION. Management requests as bytes: tables, fields, results, and the shape and addressing tests (Chapters 9 and 11). -/

namespace Sys2Proof.Machine

/-! ### Results -/

/-- Results of a request (Table 9-2). -/
inductive Result
  | ok
  | unknownRequest
  | badTable
  | badRow
  | badField
  | badValue
  | wrongState
  | busy
  | denied
  | checkFailed
  deriving DecidableEq, Repr

/-- Result codes (Table 11-6). -/
def Result.code (r : Result) : Byte :=
  match r with
  | .ok => 0
  | .unknownRequest => 1
  | .badTable => 2
  | .badRow => 3
  | .badField => 4
  | .badValue => 5
  | .wrongState => 6
  | .busy => 7
  | .denied => 8
  | .checkFailed => 9

/-- What a response carries after the tag: the result and its data (Table 11-3). -/
structure Reply where
  result : Result
  data : List Byte
  deriving DecidableEq, Repr

/-- A reply without data. -/
def Reply.bare (r : Result) : Reply := { result := r, data := [] }

/-! ### Fields of each table (Table 11-10) -/

/-- Fields of the DEVICE table. -/
inductive DeviceField
  | familyCode
  | revision
  | ownAddress
  | mode
  | restartPending
  | controlOwner
  | maintenanceOwner
  | rollover
  | pollInterval
  | replyWindow
  | missLimit
  | deviceAlert
  | portalAlert (p : Fin 4)
  | cursor
  | rescanInProgress
  | rescanPosition
  deriving DecidableEq, Repr

/-- Fields of the ACCEPT table. -/
inductive AcceptField
  | enable
  | ports
  | mask
  | value
  | action
  | sensor
  | forward
  | hits
  deriving DecidableEq, Repr

/-- Fields of the SENSOR table; places count from 0 here. -/
inductive SensorField
  | used
  | source
  | staleTimeout
  | state
  | rejects
  | good
  | historyCount
  | median
  | history (k : Fin 5)
  | probation (k : Fin 2)
  | ageTimer
  deriving DecidableEq, Repr

/-- Fields of the PULSE table. -/
inductive PulseField
  | enable
  | gateLength
  | scale
  | count
  | lastEdgePresent
  | lastEdge
  | referencePresent
  | reference
  | lastSample
  deriving DecidableEq, Repr

/-- Fields of the PORTAL table. -/
inductive PortalField
  | used
  | bore
  | mainSensor
  | reserveSensor
  | tolerance
  | fallbackLuminance
  | holdTime
  | ceiling
  | interior
  | passPeriod
  | rampPeriod
  | riseStep
  | fallStep
  | deadband
  | refreshInterval
  | initialSpeed
  | initialTraffic
  | state
  | speed
  | traffic
  | la
  | lastGoodLa
  | lth
  | holdTimer
  | disagree
  | override
  deriving DecidableEq, Repr

/-- Fields of the ZONE table. -/
inductive ZoneField
  | used
  | portal
  | position
  | stageList
  | reserve
  | ratio
  | hysteresis
  | lz
  | onSet
  | dCmd
  | dTarget
  | deficit
  | deficitAmount
  | override
  | reserveEligible
  deriving DecidableEq, Repr

/-- Fields of the GROUP table. -/
inductive GroupField
  | used
  | groupAddress
  | rated
  | dmin
  | owner
  | depreciation
  | mfFloor
  | burnHours
  | sent
  | pendingMark
  | due
  | refreshAge
  | burnMinutes
  | burnSub
  | burnKnown
  | mf
  | sg
  deriving DecidableEq, Repr

/-- Fields of the DRIVER table. -/
inductive DriverField
  | used
  | lineAddress
  | group
  | state
  | misses
  | lastCondition
  | lastLevel
  deriving DecidableEq, Repr

/-- Fields of the COUNTER table. -/
inductive CounterField
  | select
  | scope
  | value
  | sticky
  deriving DecidableEq, Repr

/-- Fields of the FLAGS table. -/
inductive FlagsField
  | bit (n : Fin 6)
  | all
  deriving DecidableEq, Repr

/-- A flag set: row 0 and rows 1 to 4 of the FLAGS table (Table 9-4). -/
inductive FlagSet
  | device
  | portal (p : Fin 4)
  deriving DecidableEq, Repr

/-- One field of one row, found by its identifiers. -/
inductive Target
  | device (f : DeviceField)
  | accept (row : Fin 16) (f : AcceptField)
  | sensor (row : Fin 8) (f : SensorField)
  | pulse (row : Fin 4) (f : PulseField)
  | portal (row : Fin 4) (f : PortalField)
  | kTable (row : Fin 128)
  | zone (row : Fin 32) (f : ZoneField)
  | group (row : Fin 48) (f : GroupField)
  | driver (row : Fin 160) (f : DriverField)
  | counter (row : Fin 8) (f : CounterField)
  | flags (row : FlagSet) (f : FlagsField)
  deriving DecidableEq, Repr

/-! ### Identifiers (Table 11-10) -/

/-- DEVICE field identifiers. -/
def DeviceField.ofId (n : Nat) : Option DeviceField :=
  match n with
  | 0 => some .familyCode
  | 1 => some .revision
  | 2 => some .ownAddress
  | 3 => some .mode
  | 4 => some .restartPending
  | 5 => some .controlOwner
  | 6 => some .maintenanceOwner
  | 7 => some .rollover
  | 8 => some .pollInterval
  | 9 => some .replyWindow
  | 10 => some .missLimit
  | 11 => some .deviceAlert
  | 12 => some (.portalAlert 0)
  | 13 => some (.portalAlert 1)
  | 14 => some (.portalAlert 2)
  | 15 => some (.portalAlert 3)
  | 16 => some .cursor
  | 17 => some .rescanInProgress
  | 18 => some .rescanPosition
  | _ => none

/-- ACCEPT field identifiers. -/
def AcceptField.ofId (n : Nat) : Option AcceptField :=
  match n with
  | 0 => some .enable
  | 1 => some .ports
  | 2 => some .mask
  | 3 => some .value
  | 4 => some .action
  | 5 => some .sensor
  | 6 => some .forward
  | 7 => some .hits
  | _ => none

/-- SENSOR field identifiers. -/
def SensorField.ofId (n : Nat) : Option SensorField :=
  match n with
  | 0 => some .used
  | 1 => some .source
  | 2 => some .staleTimeout
  | 3 => some .state
  | 4 => some .rejects
  | 5 => some .good
  | 6 => some .historyCount
  | 7 => some .median
  | 8 => some (.history 0)
  | 9 => some (.history 1)
  | 10 => some (.history 2)
  | 11 => some (.history 3)
  | 12 => some (.history 4)
  | 13 => some (.probation 0)
  | 14 => some (.probation 1)
  | 15 => some .ageTimer
  | _ => none

/-- PULSE field identifiers. -/
def PulseField.ofId (n : Nat) : Option PulseField :=
  match n with
  | 0 => some .enable
  | 1 => some .gateLength
  | 2 => some .scale
  | 3 => some .count
  | 4 => some .lastEdgePresent
  | 5 => some .lastEdge
  | 6 => some .referencePresent
  | 7 => some .reference
  | 8 => some .lastSample
  | _ => none

/-- PORTAL field identifiers. -/
def PortalField.ofId (n : Nat) : Option PortalField :=
  match n with
  | 0 => some .used
  | 1 => some .bore
  | 2 => some .mainSensor
  | 3 => some .reserveSensor
  | 4 => some .tolerance
  | 5 => some .fallbackLuminance
  | 6 => some .holdTime
  | 7 => some .ceiling
  | 8 => some .interior
  | 9 => some .passPeriod
  | 10 => some .rampPeriod
  | 11 => some .riseStep
  | 12 => some .fallStep
  | 13 => some .deadband
  | 14 => some .refreshInterval
  | 15 => some .initialSpeed
  | 16 => some .initialTraffic
  | 17 => some .state
  | 18 => some .speed
  | 19 => some .traffic
  | 20 => some .la
  | 21 => some .lastGoodLa
  | 22 => some .lth
  | 23 => some .holdTimer
  | 24 => some .disagree
  | 25 => some .override
  | _ => none

/-- ZONE field identifiers. -/
def ZoneField.ofId (n : Nat) : Option ZoneField :=
  match n with
  | 0 => some .used
  | 1 => some .portal
  | 2 => some .position
  | 3 => some .stageList
  | 4 => some .reserve
  | 5 => some .ratio
  | 6 => some .hysteresis
  | 7 => some .lz
  | 8 => some .onSet
  | 9 => some .dCmd
  | 10 => some .dTarget
  | 11 => some .deficit
  | 12 => some .deficitAmount
  | 13 => some .override
  | 14 => some .reserveEligible
  | _ => none

/-- GROUP field identifiers. -/
def GroupField.ofId (n : Nat) : Option GroupField :=
  match n with
  | 0 => some .used
  | 1 => some .groupAddress
  | 2 => some .rated
  | 3 => some .dmin
  | 4 => some .owner
  | 5 => some .depreciation
  | 6 => some .mfFloor
  | 7 => some .burnHours
  | 8 => some .sent
  | 9 => some .pendingMark
  | 10 => some .due
  | 11 => some .refreshAge
  | 12 => some .burnMinutes
  | 13 => some .burnSub
  | 14 => some .burnKnown
  | 15 => some .mf
  | 16 => some .sg
  | _ => none

/-- DRIVER field identifiers. -/
def DriverField.ofId (n : Nat) : Option DriverField :=
  match n with
  | 0 => some .used
  | 1 => some .lineAddress
  | 2 => some .group
  | 3 => some .state
  | 4 => some .misses
  | 5 => some .lastCondition
  | 6 => some .lastLevel
  | _ => none

/-- COUNTER field identifiers. -/
def CounterField.ofId (n : Nat) : Option CounterField :=
  match n with
  | 0 => some .select
  | 1 => some .scope
  | 2 => some .value
  | 3 => some .sticky
  | _ => none

/-- FLAGS field identifiers; whether row 0 has a field 5 is left open (log 10). -/
def FlagsField.ofId (set : FlagSet) (n : Nat) : Option FlagsField :=
  match n with
  | 0 => some (.bit 0)
  | 1 => some (.bit 1)
  | 2 => some (.bit 2)
  | 3 => some (.bit 3)
  | 4 => some (.bit 4)
  | 5 =>
    match set with
    | .device => if Config.deviceFlag5IsAField then some (.bit 5) else none
    | .portal _ => some (.bit 5)
  | 8 => some .all
  | _ => none

/-- The row a byte names in a table of `n` rows. -/
def rowOf (n : Nat) (b : Byte) : Option (Fin n) := if h : b.toNat < n then some ⟨b.toNat, h⟩ else none

/-- The flag set a byte names (R157). -/
def FlagSet.ofByte (b : Byte) : Option FlagSet :=
  match b.toNat with
  | 0 => some .device
  | 1 => some (.portal 0)
  | 2 => some (.portal 1)
  | 3 => some (.portal 2)
  | 4 => some (.portal 3)
  | _ => none

/-- Row, then field (R146 (4)). -/
def locate {ρ φ : Type} (row : Option ρ) (field : ρ → Option φ) (mk : ρ → φ → Target) : Except Result Target :=
  match row with
  | none => .error .badRow
  | some r =>
    match field r with
    | none => .error .badField
    | some f => .ok (mk r f)

/-- The addressing of GET and SET: table, row, field (R146 (4), Tables 9-4 and 11-10). -/
def Target.resolve (table row field : Byte) : Except Result Target :=
  let f := field.toNat
  match table.toNat with
  | 0 => locate (rowOf 1 row) (fun _ => DeviceField.ofId f) fun _ f => .device f
  | 1 => locate (rowOf 16 row) (fun _ => AcceptField.ofId f) .accept
  | 2 => locate (rowOf 8 row) (fun _ => SensorField.ofId f) .sensor
  | 3 => locate (rowOf 4 row) (fun _ => PulseField.ofId f) .pulse
  | 4 => locate (rowOf 4 row) (fun _ => PortalField.ofId f) .portal
  | 5 => locate (rowOf 128 row) (fun _ => if f = 0 then some () else none) fun r _ => .kTable r
  | 6 => locate (rowOf 32 row) (fun _ => ZoneField.ofId f) .zone
  | 7 => locate (rowOf 48 row) (fun _ => GroupField.ofId f) .group
  | 8 => locate (rowOf 160 row) (fun _ => DriverField.ofId f) .driver
  | 9 => locate (rowOf 8 row) (fun _ => CounterField.ofId f) .counter
  | 10 => locate (FlagSet.ofByte row) (fun r => FlagsField.ofId r f) .flags
  | _ => .error .badTable

/-! ### Requests -/

/-- What FORCE and RELEASE name (R123, R127). -/
inductive Reach
  | zone (z : Fin 32)
  | portal (p : Fin 4)
  deriving DecidableEq, Repr

/-- A request whose shape and addressing are good. -/
inductive Request
  | get (t : Target)
  | set (t : Target) (v : Word)
  | activate
  | deactivate
  | standby (p : Fin 4)
  | resume (p : Fin 4)
  | force (r : Reach) (kind : Byte) (level : Nat)
  | release (r : Reach)
  | rescan
  | clearFlags (set : FlagSet) (mask : Byte)
  | readCounter (i : Fin 8) (clear : Byte)
  | restart
  deriving DecidableEq, Repr

/-- Scope, then index (R146 (4)). -/
def Reach.resolve (scope index : Byte) : Except Result Reach :=
  match scope.toNat with
  | 0 =>
    match rowOf 32 index with
    | some z => .ok (.zone z)
    | none => .error .badRow
  | 1 =>
    match rowOf 4 index with
    | some p => .ok (.portal p)
    | none => .error .badRow
  | _ => .error .badValue

/-- A portal operand (R156). -/
def onPortal (b : Byte) (mk : Fin 4 → Request) : Except Result Request :=
  match rowOf 4 b with
  | some p => .ok (mk p)
  | none => .error .badRow

/-- The request of a code and its operand bytes (Tables 11-4 and 11-5): unknown code, missing operands, addressing, in that
order (R146 (2) to (4)). Bytes after the layout are not read. -/
def Request.ofOperands (code : Byte) (operands : List Byte) : Except Result Request :=
  match code.toNat, operands with
  | 1, t :: r :: f :: _ => (Target.resolve t r f).map .get
  | 2, t :: r :: f :: a :: b :: c :: d :: _ => (Target.resolve t r f).map fun x => .set x (wordOfBytes a b c d)
  | 3, _ => .ok .activate
  | 4, _ => .ok .deactivate
  | 5, p :: _ => onPortal p .standby
  | 6, p :: _ => onPortal p .resume
  | 7, s :: i :: k :: hi :: lo :: _ => (Reach.resolve s i).map fun x => .force x k (joinBytes hi lo)
  | 8, s :: i :: _ => (Reach.resolve s i).map .release
  | 9, _ => .ok .rescan
  | 10, n :: m :: _ =>
    match FlagSet.ofByte n with
    | some x => .ok (.clearFlags x m)
    | none => .error .badRow
  | 11, i :: c :: _ =>
    match rowOf 8 i with
    | some x => .ok (.readCounter x c)
    | none => .error .badRow
  | 12, _ => .ok .restart
  | n, _ => if 1 ≤ n ∧ n ≤ 12 then .error .badValue else .error .unknownRequest

/-- The tag a response echoes (R145, R146 (1)). -/
def tagOf (payload : List Byte) : Byte := payload.headD 0

/-- The request of a payload (R146 (1) to (4)). -/
def Request.ofPayload (payload : List Byte) : Except Result Request :=
  match payload with
  | _ :: code :: operands => Request.ofOperands code operands
  | _ => .error .unknownRequest

/-! ### Access (R147, Table 9-3) -/

/-- Does the source hold control? -/
def State.holdsControl (s : State) (src : Byte) : Bool := s.device.controlOwner == 0 || s.device.controlOwner == src

/-- Does the source hold maintenance? -/
def State.holdsMaintenance (s : State) (src : Byte) : Bool :=
  s.device.maintenanceOwner == 0 || s.device.maintenanceOwner == src

/-- May the source make the request (Table 9-3)? A SET of a bank B field that cannot be written needs both rights (log 14). -/
def State.grants (s : State) (src : Byte) (r : Request) : Bool :=
  let control := s.holdsControl src
  let maintenance := s.holdsMaintenance src
  match r with
  | .get _ | .set (.group _ .burnHours) _ => control || maintenance
  | .set (.counter i f) _ =>
    if i.val < 4 then control
    else match f with
      | .select | .scope => maintenance
      | .value | .sticky => control && maintenance
  | .readCounter i _ => if i.val < 4 then control else maintenance
  | .set _ _ | .activate | .deactivate | .standby _ | .resume _ | .force _ _ _ | .release _ | .rescan | .clearFlags _ _
  | .restart => control

end Sys2Proof.Machine
end

