-- ==== Sys2Proof/Machine/Sensors.lean ====
section
/-! DEFINITION. Daylight sensors and pulse inputs (Chapter 4). -/

namespace Sys2Proof.Machine

/-! ### Candidates and verdicts -/

/-- A sample candidate built by a SAMPLE entry (Table 2-4). -/
structure Candidate where
  origin : Fin 16
  luminance : Option Nat
  quality : Option Byte
  short : Bool
  deriving DecidableEq, Repr

/-- The candidate of a payload (R27). -/
def Candidate.ofPayload (origin : Fin 16) (payload : List Byte) : Candidate :=
  { origin := origin
    luminance := match payload with
      | _ :: hi :: lo :: _ => some (joinBytes hi lo)
      | _ => none
    quality := payload[3]?
    short := decide (payload.length < 4) }

/-- The luminance kept and the saturated mark of a luminance above or within 20,000 (R55, R69). -/
def clampSample (l : Nat) (saturated : Bool) (origin : Origin) : Sample :=
  if 20000 < l then { luminance := 20000, saturated := true, origin := origin }
  else { luminance := l, saturated := saturated, origin := origin }

/-- The judging of a candidate (R55, Table 4-2): the good sample, or none where it is rejected. -/
def Candidate.judge (c : Candidate) : Option Sample :=
  if c.short then none
  else if c.quality = some 0 then c.luminance.map fun l => clampSample l false (.entry c.origin)
  else none

/-! ### History and median -/

/-- A sample joins at the newest end; past 5 samples the oldest leaves (R54). -/
def joinHistory (h : List Sample) (x : Sample) : List Sample :=
  if h.length < 5 then h ++ [x] else (h ++ [x]).drop (h.length - 4)

/-- Inserts into an ascending list. -/
def insertAscending (x : Nat) (l : List Nat) : List Nat :=
  match l with
  | [] => [x]
  | y :: ys => if x ≤ y then x :: y :: ys else y :: insertAscending x ys

/-- Sorts in ascending order. -/
def ascending (l : List Nat) : List Nat := l.foldr insertAscending []

/-- The median of a history (R63): a saturated sample counts as 20,000; of two middle values the higher; absent when empty. -/
def medianOf (h : List Sample) : Option Nat :=
  (ascending (h.map fun x => if x.saturated then 20000 else x.luminance))[h.length / 2]?

/-! ### State rules of one sensor -/

/-- A good sample taken at `now` (R57, R58, R60). -/
def Sensor.takeGood (r : Sensor) (now : Time) (x : Sample) : Sensor :=
  let timer := some (now + r.staleTimeout * secTicks)
  match r.state with
  | .wait | .stale => { r with state := .valid, history := [x], rejects := 0, ageTimer := timer }
  | .valid => { r with history := joinHistory r.history x, rejects := 0, ageTimer := timer }
  | .fault =>
    if r.good + 1 < 3 then { r with good := r.good + 1, probation := r.probation ++ [x] }
    else { r with state := .valid, history := r.probation ++ [x], probation := [], good := 0, rejects := 0, ageTimer := timer }
  | .unused => r

/-- Does a rejected sample take the sensor to FAULT (R59)? -/
def Sensor.faultsNext (r : Sensor) : Bool :=
  match r.state with
  | .wait | .valid | .stale => decide (3 ≤ r.rejects + 1)
  | .fault | .unused => false

/-- A rejected sample (R59, R60). -/
def Sensor.takeReject (r : Sensor) : Sensor :=
  match r.state with
  | .wait | .valid | .stale =>
    if 3 ≤ r.rejects + 1 then
      { r with state := .fault, rejects := 3, history := [], ageTimer := none, probation := [], good := 0 }
    else { r with rejects := r.rejects + 1 }
  | .fault => { r with good := 0, probation := [] }
  | .unused => r

/-- The sensor emptied, as SET of a structural field and RESTART leave it (R52, R72). -/
def Sensor.emptied (r : Sensor) (state : SensorState) : Sensor :=
  { r with state := state, history := [], probation := [], rejects := 0, good := 0, ageTimer := none }

/-! ### On the state -/

/-- A used sensor takes a good sample. -/
def State.sensorGood (s : State) (i : Fin 8) (x : Sample) : State :=
  { s with sensors := updAt s.sensors i (·.takeGood s.now x) }

/-- A used sensor takes a rejected sample: counted under code 7 for its portals (R55), then judged by its state (R59, R60).
Entering FAULT latches SENSOR_FAULT of each portal of the sensor, with an ALERT each, in order of portal (R59, R162). -/
def State.sensorReject (s : State) (i : Fin 8) : State :=
  let counted := s.count 7 (scopedTo (s.sensorPortals i))
  let taken := { counted with sensors := updAt counted.sensors i (·.takeReject) }
  if s.sensors[i].faultsNext then
    (s.sensorPortals i).foldl (init := taken) fun t p =>
      t.portalEvent p .sensorFault (BitVec.ofNat 8 i.val) p.val
  else taken

/-- A candidate offered to a sensor: taken only by a used sensor whose source is LINE (R28), then judged (R55). -/
def State.offerCandidate (s : State) (i : Fin 8) (c : Candidate) : State :=
  if s.sensors[i].used && s.sensors[i].source == .line then
    match c.judge with
    | some x => s.sensorGood i x
    | none => s.sensorReject i
  else s

/-- A VALID sensor's median, as a pass is given it (R64). -/
def State.validMedian (s : State) (i : Fin 8) : Option Nat :=
  if s.sensors[i].state = .valid then medianOf s.sensors[i].history else none

/-- Was the reference cleared by an age expiry at this very moment (R62 (1), log 42)? -/
def PulseInput.clearedNow (r : PulseInput) (now : Time) : Bool := r.cleared.any fun c => c.moment == now

/-- The reference a gate that ends now makes its sample from: one cleared at this very moment still counts (R62 (1), R68). -/
def PulseInput.referenceAt (r : PulseInput) (now : Time) : Option (BitVec 48) :=
  match r.cleared with
  | some c => if c.moment = now then c.reference else r.reference
  | none => r.reference

/-- The reference edge is cleared by an age expiry that comes now (R61). -/
def PulseInput.clearReference (r : PulseInput) (now : Time) : PulseInput :=
  { r with reference := none, cleared := some { moment := now, reference := r.referenceAt now } }

/-- The running out of a sensor's age timer (R61); it runs in VALID alone. -/
def State.ageExpiry (s : State) (i : Fin 8) : State :=
  match s.sensors[i].ageTimer with
  | none => s
  | some t =>
    let s := s.reach t
    let stale := { s with sensors := updAt s.sensors i fun r => { r with state := .stale, history := [], ageTimer := none } }
    match s.sensors[i].source with
    | .line => stale
    | .pulse n => { stale with pulses := updAt stale.pulses n (·.clearReference s.now) }

/-! ### Pulse inputs -/

/-- Does the input take an edge that comes now: at least 14 microseconds after the one it took before (R169, log 23)? -/
def PulseInput.takesEdge (r : PulseInput) (now : Time) : Bool :=
  r.enable && match r.lastTaken with
    | none => true
    | some t => decide (t + 14 * usTicks ≤ now)

/-- A rising edge (R66). -/
def State.pulseEdge (s : State) (n : Fin 4) : State :=
  if s.pulses[n].takesEdge s.now then
    { s with pulses := updAt s.pulses n fun r =>
        { r with count := min 65535 (r.count + 1), lastEdge := some s.microClock, lastTaken := some s.now } }
  else s

/-- The sample of a gate that ends with this record and this reference, its own length `g` in ms (R67, R68, R69, Table 4-7). -/
def PulseInput.gateSample (r : PulseInput) (n : Fin 4) (g : Nat) (reference : Option (BitVec 48)) : Option Sample :=
  if 16 ≤ r.count then
    some (clampSample (r.count * r.scale / g) (r.count == 65535) (.pulse n))
  else if r.count = 0 then none
  else
    match r.lastEdge, reference with
    | some e, some f =>
      let t := (e - f).toNat
      let l := if t = 0 then Config.zeroPeriodLuminance r.count r.scale else r.count * r.scale * 1000 / t
      some (clampSample l false (.pulse n))
    | _, _ => none

/-- The used sensors that name a pulse input, in index order (R69). -/
def State.sensorsOfPulse (s : State) (n : Fin 4) : List (Fin 8) :=
  (List.finRange 8).filter fun i => s.sensors[i].used && s.sensors[i].source == .pulse n

/-- The reference after a gate that ends now (R67, R68): the last edge of a gate that held one. Where an age expiry of this moment
cleared it and a sample was made, it stays cleared (R62 (1)). -/
def PulseInput.nextReference (r : PulseInput) (now : Time) (made : Option Sample) : Option (BitVec 48) :=
  if r.count = 0 then r.reference else if r.clearedNow now && made.isSome then none else r.lastEdge

/-- The end of a gate (R67 to R69): the reference follows, N restarts at 0, the next gate begins, and a sample made is kept and
offered to every used sensor that names the input. -/
def State.gateExpiry (s : State) (n : Fin 4) : State :=
  match s.pulses[n].gate with
  | none => s
  | some g =>
    let s := s.reach g.ends
    let made := s.pulses[n].gateSample n g.length (s.pulses[n].referenceAt s.now)
    let next := { s with pulses := updAt s.pulses n fun r =>
      { r with
        count := 0
        reference := r.nextReference s.now made
        lastSample := match made with
          | some x => some x
          | none => r.lastSample
        gate := some { ends := s.now + r.gateLength * msTicks, length := r.gateLength }
        cleared := none } }
    match made with
    | none => next
    | some x => (s.sensorsOfPulse n).foldl (fun t i => t.sensorGood i x) next

/-- A gate begins with N at 0 and both edge times absent, its last sample kept (R65, R72). -/
def PulseInput.startGate (r : PulseInput) (now : Time) : PulseInput :=
  { r with
    count := 0
    lastEdge := none
    reference := none
    cleared := none
    gate := some { ends := now + r.gateLength * msTicks, length := r.gateLength } }

/-- SET of enable to no (R65). -/
def PulseInput.stop (r : PulseInput) : PulseInput :=
  { r with enable := false, count := 0, lastEdge := none, reference := none, cleared := none, gate := none }

end Sys2Proof.Machine
end

