-- ==== Sys2Proof/Machine/Stages.lean ====
section
/-! DEFINITION. Available output and stage selection: step 4 of a pass (Chapter 6). -/

namespace Sys2Proof.Machine

/-! ### Maintenance factor and available output -/

/-- The maintenance factor (R98). -/
def Group.maintenance (g : Group) : Nat :=
  if g.burnKnown then max g.mfFloor (1000 - g.burnMinutes / 60 * g.depreciation / 10000) else g.mfFloor

/-- The available output of a group with maintenance factor `mf` whose listed drivers are in the given states (R99, R95). -/
def Group.available (g : Group) (mf : Nat) (drivers : List DriverState) : Nat :=
  match g.owner with
  | .line => 0
  | .part =>
    if drivers.length = 0 then 0
    else g.rated * mf / 1000 * (drivers.map DriverState.units).sum / (2 * drivers.length)

/-- The states of a group's listed drivers. -/
def State.listedStates (s : State) (g : Fin 48) : List DriverState := (s.listed g).map fun d => s.drivers[d].state

/-- MF and S_g of one group are computed and kept (R98, R99, R100). -/
def State.computeGroup (s : State) (g : Fin 48) : State :=
  let mf := s.groups[g].maintenance
  { s with groups := updAt s.groups g fun r => { r with mf := some mf, sg := some (r.available mf (s.listedStates g)) } }

/-- The kept available output of a group; one that was never computed stands in no zone of a regulating portal, and counts 0
(log 30). -/
def State.sg (s : State) (g : Fin 48) : Nat := (s.groups[g].sg).getD 0

/-- Is the zone's reserve eligible (R101)? A zone with no reserve reads no (R171). -/
def State.reserveEligible (s : State) (z : Zone) : Bool :=
  z.reserve.isSome && z.stages.any fun g => (s.listedStates g).any DriverState.ailing

/-! ### The on set -/

/-- S_on: the sum of S_g over the on set (R102). -/
def Zone.sOn (z : Zone) (sg : Fin 48 → Nat) : Nat := ((z.places.filter fun p => z.isOn p.1).map fun p => sg p.2).sum

/-- The eligible stages (R101, R102). -/
def Zone.eligiblePlaces (z : Zone) (eligible : Bool) : List (Place × Fin 48) :=
  z.places.filter fun p => p.1 != .reserve || eligible

/-- S_all: the sum of S_g over the eligible stages (R102). -/
def Zone.sAll (z : Zone) (sg : Fin 48 → Nat) (eligible : Bool) : Nat :=
  ((z.eligiblePlaces eligible).map fun p => sg p.2).sum

/-- The minimum level of the on set: the largest dmin among its PART-owned groups, 1 when there is none (R105). -/
def Zone.dminOn (z : Zone) (groups : Vector Group 48) : Nat :=
  match z.places.filter fun p => z.isOn p.1 && groups[p.2].owner == .part with
  | [] => 1
  | p :: ps => ps.foldl (fun m q => max m groups[q.2].dmin) groups[p.2].dmin

/-- The switch-on handover of the commanded level (R105). -/
def handoverOn (dOld sOld sNew dminOn : Nat) : Nat := if sOld = 0 then dminOn else max dminOn (dOld * sOld / sNew)

/-- An ineligible reserve is shed (R103). -/
def Zone.shedReserve (z : Zone) (sg : Fin 48 → Nat) : Zone :=
  let without := { z with onReserve := false }
  let s := without.sOn sg
  { without with dCmd := if s = 0 then 1000 else min 1000 (ceilDiv (z.dCmd * z.sOn sg) s) }

/-- Stages go on in list order, the reserve last, while S_on is below the target (R104). -/
def Zone.addStages (z : Zone) (sg : Fin 48 → Nat) (eligible : Bool) (lz : Nat) : Zone :=
  (z.eligiblePlaces eligible).foldl (init := z) fun y p => if y.sOn sg < lz && !y.isOn p.1 then y.setOn p.1 true else y

/-- The switch-on with its handover, made once for all stages that went on (R104, R105). -/
def Zone.switchOn (z : Zone) (sg : Fin 48 → Nat) (groups : Vector Group 48) (eligible : Bool) (lz : Nat) : Zone :=
  let y := z.addStages sg eligible lz
  if y.sameOnSet z then z else { y with dCmd := handoverOn z.dCmd (z.sOn sg) (y.sOn sg) (y.dminOn groups) }

/-- The candidate for switch-off: the last-on stage, never the base stage (R106). -/
def Zone.offCandidate (z : Zone) : Option Place :=
  match (z.places.filter fun p => z.isOn p.1).getLast? with
  | some (.stage 0, _) | none => none
  | some (p, _) => some p

/-- The switch-off of at most one stage under the hysteresis test and the handover limit (R106, R107). -/
def Zone.switchOff (z : Zone) (sg : Fin 48 → Nat) (lz : Nat) : Zone :=
  match z.offCandidate with
  | none => z
  | some p =>
    let without := z.setOn p false
    let s := without.sOn sg
    let d := ceilDiv (z.dCmd * z.sOn sg) s
    if lz < s * (1000 - z.hysteresis) / 1000 ∧ d ≤ 1000 then { without with dCmd := d } else z

/-- The level target of a zone under AUTO (R109). -/
def Zone.levelTarget (z : Zone) (sg : Fin 48 → Nat) (groups : Vector Group 48) (lz : Nat) : Nat :=
  let s := z.sOn sg
  if s = 0 then 1000 else min 1000 (max (z.dminOn groups) (ceilDiv (lz * 1000) s))

/-- The selection of a zone under AUTO: shedding, switch-on, switch-off and level target, in that order (Table 6-4, R102). -/
def Zone.selectAuto (z : Zone) (sg : Fin 48 → Nat) (groups : Vector Group 48) (eligible : Bool) (lz : Nat) : Zone :=
  let shed := z.onReserve && !eligible
  let y := if shed then z.shedReserve sg else z
  let x := y.switchOn sg groups eligible lz
  let w := if shed || !x.sameOnSet y then x else x.switchOff sg lz
  { w with dTarget := some (w.levelTarget sg groups lz) }

/-! ### Step 4 for one zone -/

/-- Offers made at once for the PART-owned groups of a zone whose level (R116) the on-set change from `old` to `new` changed, or
for all of them at an immediate pass (R108, R111; log 16, log 32). -/
def State.offerHandover (s : State) (old new : Zone) (immediate : Bool) : State :=
  new.places.foldl (init := s) fun t p =>
    let g := t.groups[p.2]
    let level := g.levelAt (new.isOn p.1) new.dCmd
    if g.owner = .part ∧ (immediate ∨ (¬ new.sameOnSet old ∧ level ≠ g.levelAt (old.isOn p.1) old.dCmd)) then
      t.offerLevel p.2 level .autoManual
    else t

/-- The deficit test of a zone with target `lz` and eligible output `sAll` (R110): an onset latches DEFICIT with its ALERT, an
end offers DEFICIT_END. -/
def State.deficitTest (s : State) (i : Fin 32) (lz sAll : Nat) : State :=
  let p := s.zones[i].portal
  let held := s.zones[i].deficit
  let now := decide (sAll < lz)
  let t := { s with zones := updAt s.zones i fun z =>
    { z with deficit := now, deficitAmount := if now then lz - sAll else 0 } }
  if now && !held then t.portalEvent p .deficit (BitVec.ofNat 8 i.val) (lz - sAll)
  else if held && !now then t.portalAlert p evDeficitEnd (BitVec.ofNat 8 i.val) 0
  else t

/-- Step 4 for one zone (R102, Table 6-4): figures; under AUTO the selection; the deficit; last the offers (log 15). A zone
always has a target at step 4, since step 3 writes it. -/
def State.stageZone (s : State) (i : Fin 32) (immediate : Bool) : State :=
  let figured := s.zones[i].standing.foldl (fun t g => t.computeGroup g) s
  let eligible := figured.reserveEligible s.zones[i]
  let old := { s.zones[i] with reserveEligible := eligible }
  let lz := old.lz.getD 0
  let new := if old.override.isNone then old.selectAuto figured.sg figured.groups eligible lz else old
  let selected := { figured with zones := updAt figured.zones i fun _ => new }
  let tested := selected.deficitTest i lz (new.sAll figured.sg eligible)
  if old.override.isNone then tested.offerHandover old new immediate else tested

end Sys2Proof.Machine
end

