-- ==== Sys2Proof/Machine/Regulation.lean ====
section
/-! DEFINITION. The portal regulator: passes, the hold timer, starting and stopping regulation (Chapter 5). -/

namespace Sys2Proof.Machine

/-! ### Step 1: adaptation luminance -/

/-- Replaces the record of one portal. -/
def State.mapPortal (s : State) (p : Fin 4) (f : Portal → Portal) : State := { s with portals := updAt s.portals p f }

/-- Do the medians disagree (R81)? -/
def disagrees (a b tolerance : Nat) : Bool := decide (min a b * 1000 < max a b * (1000 - tolerance))

/-- The portal is in TRACKING with `la` (R80); entering it offers its ALERT. -/
def State.enterTracking (s : State) (p : Fin 4) (la : Nat) (disagree : Bool) : State :=
  let t := s.mapPortal p fun r =>
    { r with la := some la, lastGoodLa := some la, state := .tracking, holdTimer := none, disagree := disagree }
  if s.portals[p].state = .tracking then t else t.portalAlert p evTracking (BitVec.ofNat 8 p.val) la

/-- Step 1 with a sensor VALID (R80, R81): `low` is the smaller median where the medians disagree. The ALERT of TRACKING comes
first, then the onset of a disagreement latches DISAGREE (R162). -/
def State.track (s : State) (p : Fin 4) (la : Nat) (low : Option Nat) : State :=
  let t := s.enterTracking p la low.isSome
  match low with
  | some m => if s.portals[p].disagree then t else t.portalEvent p .disagree (BitVec.ofNat 8 p.val) m
  | none => t

/-- The portal enters FALLBACK from TRACKING or HOLD: L_a takes the fallback luminance and FALLBACK_ENTERED is latched (R82 (2),
R86 (2)). -/
def State.enterFallback (s : State) (p : Fin 4) : State :=
  let f := s.portals[p].fallbackLuminance
  (s.mapPortal p fun r => { r with state := .fallback, la := some f, holdTimer := none, disagree := false }).portalEvent p
    .fallbackEntered (BitVec.ofNat 8 p.val) f

/-- Step 1 with no sensor VALID (R82); at the hold timer's expiry a portal in HOLD enters FALLBACK (R86). The last good L_a is
present in TRACKING and HOLD (R82, log 30). -/
def State.lose (s : State) (p : Fin 4) (atHold : Bool) : State :=
  let r := s.portals[p]
  let lost := fun (t : State) => t.portalEvent p .sensorLost (BitVec.ofNat 8 p.val) (r.lastGoodLa.getD 0)
  match r.state with
  | .tracking =>
    if r.holdTime = 0 then (lost s).enterFallback p
    else lost (s.mapPortal p fun r =>
      { r with state := .hold, la := r.lastGoodLa, holdTimer := some (s.now + r.holdTime * secTicks), disagree := false })
  | .hold =>
    if atHold then s.enterFallback p else s.mapPortal p fun r => { r with la := r.lastGoodLa, disagree := false }
  | .fallback => s.mapPortal p fun r => { r with la := some r.fallbackLuminance, disagree := false }
  | .unused | .standby => s

/-- Step 1 of a pass (R80 to R82, R86). -/
def State.passStep1 (s : State) (p : Fin 4) (atHold : Bool) : State :=
  let r := s.portals[p]
  match s.validMedian r.mainSensor, r.reserveSensor.bind s.validMedian with
  | some a, some b => s.track p (max a b) (if disagrees a b r.tolerance then some (min a b) else none)
  | some a, none | none, some a => s.track p a none
  | none, none => s.lose p atHold

/-! ### Steps 2 and 3 -/

/-- The k table row of a portal and its classes (R76). -/
def kRow (p : Fin 4) (speed : Fin 8) (traffic : Fin 4) : Fin 128 :=
  ⟨p.val * 32 + speed.val * 4 + traffic.val, by omega⟩

/-- The threshold luminance (R83). -/
def thresholdOf (la kq ceiling : Nat) : Nat := min ceiling (ceilDiv (la * kq) 1000)

/-- The target of a zone (R84). -/
def targetOf (lth ratio ceiling interior : Nat) : Nat := max interior (min ceiling (ceilDiv (lth * ratio) 1000))

/-- Step 2 of a pass (R83). -/
def State.passStep2 (s : State) (p : Fin 4) : State :=
  s.mapPortal p fun r =>
    { r with lth := some (thresholdOf (r.la.getD 0) s.kTable[kRow p r.speed r.traffic] r.ceiling) }

/-- Step 3 of a pass (R84). -/
def State.passStep3 (s : State) (p : Fin 4) : State :=
  let r := s.portals[p]
  { s with zones := updAll s.zones fun _ z =>
      if z.used && z.portal == p then { z with lz := some (targetOf (r.lth.getD 0) z.ratio r.ceiling r.interior) } else z }

/-! ### The pass -/

/-- A pass of a portal (5.3): the three steps, then the stage selection of each zone in order of position (R85). `atHold` is
the pass of the hold timer's expiry (R86), `immediate` the one at the start of regulation (R88, R111). -/
def State.pass (s : State) (p : Fin 4) (atHold immediate : Bool) : State :=
  let t := ((s.passStep1 p atHold).passStep2 p).passStep3 p
  (t.portalZones p).foldl (fun u z => u.stageZone z immediate) t

/-- The running out of a pass timer (R79). -/
def State.passExpiry (s : State) (p : Fin 4) : State :=
  match s.portals[p].passTimer with
  | none => s
  | some e =>
    let s := s.reach e
    (s.mapPortal p fun r => { r with passTimer := some (s.now + r.passPeriod * secTicks) }).pass p false false

/-- The running out of a hold timer (R86): a pass at once, the pass timer left alone. -/
def State.holdExpiry (s : State) (p : Fin 4) : State :=
  match s.portals[p].holdTimer with
  | none => s
  | some e => ((s.reach e).mapPortal p fun r => { r with holdTimer := none }).pass p true false

/-! ### Starting and stopping -/

/-- A zone at the start of regulation (R111, R88, R171). -/
def Zone.started (z : Zone) : Zone :=
  { z with
    onStages := Vector.ofFn fun n => decide (n.val < z.stages.length)
    onReserve := false
    dCmd := 1000
    dTarget := none
    lz := none
    deficit := false
    deficitAmount := 0
    override := none
    reserveEligible := false }

/-- A portal at the start of regulation, before its immediate pass (R88). -/
def Portal.started (r : Portal) : Portal :=
  { r with
    state := .fallback
    speed := r.initialSpeed
    traffic := r.initialTraffic
    la := none
    lastGoodLa := none
    lth := none
    disagree := false
    holdTimer := none
    override := none }

/-- The start of regulation of a portal (R88): the record, its zones, the immediate pass, then the timers. -/
def State.startPortal (s : State) (p : Fin 4) : State :=
  let begun := { s.mapPortal p Portal.started with
    zones := updAll s.zones fun _ z => if z.used && z.portal == p then z.started else z }
  let passed := begun.pass p false true
  passed.mapPortal p fun r =>
    { r with
      passTimer := some (passed.now + r.passPeriod * secTicks)
      rampTimer := some (passed.now + r.rampPeriod * msTicks) }

/-- A portal leaves regulation at STANDBY (R90): its timers stop, its override is cleared and DISAGREE is not held; the
luminances of the last pass are kept. -/
def Portal.stopped (r : Portal) : Portal :=
  { r with state := .standby, passTimer := none, rampTimer := none, holdTimer := none, override := none, disagree := false }

/-- A portal's run state is discarded (R91); its current classes are kept. -/
def Portal.discarded (r : Portal) (state : PortalState) : Portal :=
  { r with
    state := state
    passTimer := none
    rampTimer := none
    holdTimer := none
    override := none
    disagree := false
    la := none
    lth := none
    lastGoodLa := none }

/-- A zone's run state is discarded (R112, R129, R171). -/
def Zone.discarded (z : Zone) : Zone :=
  { z with
    lz := none
    dTarget := none
    onStages := Vector.replicate 4 false
    onReserve := false
    dCmd := 0
    deficit := false
    deficitAmount := 0
    override := none
    reserveEligible := false }

/-- Regulation of every portal stops, its run state discarded, at DEACTIVATE and RESTART (R91, R112, R129, R155). -/
def State.discardRegulation (s : State) : State :=
  { s with
    portals := updAll s.portals fun _ r => if r.used then r.discarded .standby else r
    zones := updAll s.zones fun _ z => z.discarded
    groups := updAll s.groups fun _ g => { g with mf := none, sg := none, due := false } }

/-- STANDBY of a regulating portal (R90, R112, R129): also the overrides and deficits of its zones and the due marks of their
groups. -/
def State.standbyPortal (s : State) (p : Fin 4) : State :=
  { s.mapPortal p Portal.stopped with
    zones := updAll s.zones fun _ z =>
      if z.used && z.portal == p then { z with override := none, deficit := false, deficitAmount := 0 } else z
    groups := updAll s.groups fun g r =>
      if (s.zonesOfGroup g).any fun z => s.zones[z].portal == p then { r with due := false } else r }

end Sys2Proof.Machine
end

