-- ==== Sys2Proof/Machine/Ramp.lean ====
section
/-! DEFINITION. The ramp engine and the overrides (Chapter 7). -/

namespace Sys2Proof.Machine

/-! ### Ramp expiry -/

/-- One step of a commanded level toward its target (R115). -/
def stepLevel (d target rise fall : Nat) : Nat :=
  if d < target then min target (d + rise) else if target < d then max target (d - fall) else d

/-- Is a ramp offer due for a group of level `level` (R117)? `age` is its refresh age in time units. -/
def Group.offerDue (g : Group) (level : Nat) (target : Option Nat) (deadband refresh : Nat) (age : Time) : Bool :=
  decide (deadband ≤ (level - g.sent) + (g.sent - level))
    || (target == some level && level != g.sent)
    || (level == 0 && g.sent != 0)
    || decide (refresh * secTicks ≤ age)
    || g.due

/-- Replaces the record of one zone. -/
def State.mapZone (s : State) (i : Fin 32) (f : Zone → Zone) : State := { s with zones := updAt s.zones i f }

/-- The offers of a zone at a ramp expiry (R116, R117), in stage-list order, the reserve last. -/
def State.offerRamp (s : State) (p : Fin 4) (i : Fin 32) (kind : LevelKind) : State :=
  s.zones[i].places.foldl (init := s) fun (t : State) (q : Place × Fin 48) =>
    let z := s.zones[i]
    let g := t.groups[q.2]
    let level := g.levelAt (z.isOn q.1) z.dCmd
    if g.owner = .part ∧ g.offerDue level z.dTarget s.portals[p].deadband s.portals[p].refreshInterval (t.refreshAge q.2) then
      t.offerLevel q.2 level kind
    else t

/-- One zone at a ramp expiry (R115, Table 7-1): stepped, but not under FIRE; a step cut short by the rise step counts under
code 10; then the offers. A zone under AUTO with no target is left alone. -/
def State.rampZone (s : State) (p : Fin 4) (i : Fin 32) : State :=
  let z := s.zones[i]
  let r := s.portals[p]
  match (z.override.map fun o => o.kind : Option OverrideKind), z.dTarget with
  | some .fire, _ => s.offerRamp p i .fire
  | _, none => s
  | _, some target =>
    let t := s.mapZone i fun z => { z with dCmd := stepLevel z.dCmd target r.riseStep r.fallStep }
    let t := if z.dCmd + r.riseStep < target then t.count 10 (scopedTo [p]) else t
    t.offerRamp p i .autoManual

/-- The running out of a ramp timer (R115, R79). -/
def State.rampExpiry (s : State) (p : Fin 4) : State :=
  match s.portals[p].rampTimer with
  | none => s
  | some e =>
    let s := s.reach e
    let t := s.mapPortal p fun r => { r with rampTimer := some (s.now + r.rampPeriod * msTicks) }
    (t.portalZones p).foldl (fun u z => u.rampZone p z) t

/-! ### Overrides -/

/-- The second clamping stage of FORCE (R123): a level from 1 to below the minimum of the on set becomes that minimum. -/
def clampForce (level dminOn : Nat) : Nat := if 1 ≤ level ∧ level < dminOn then dminOn else level

/-- Every regular stage of the list on; the reserve as given (R124, R125). -/
def Zone.allStages (z : Zone) (reserveOn : Bool) : Zone :=
  { z with onStages := Vector.ofFn fun n => z.onStages[n] || decide (n.val < z.stages.length), onReserve := reserveOn }

/-- A zone under a new MANUAL override (R124). -/
def Zone.manual (z : Zone) (sg : Fin 48 → Nat) (groups : Vector Group 48) (level : Nat) (scope : OverrideScope) : Zone :=
  let y := z.allStages z.onReserve
  let l := clampForce level (y.dminOn groups)
  { y with
    override := some { kind := .manual, level := l, scope := scope }
    dCmd := if y.sameOnSet z then z.dCmd else handoverOn z.dCmd (z.sOn sg) (y.sOn sg) (y.dminOn groups)
    dTarget := some l }

/-- A zone under a new FIRE override (R125). -/
def Zone.fire (z : Zone) (groups : Vector Group 48) (level : Nat) (scope : OverrideScope) : Zone :=
  let y := z.allStages z.reserve.isSome
  let l := clampForce level (y.dminOn groups)
  { y with override := some { kind := .fire, level := l, scope := scope }, dCmd := l, dTarget := some l }

/-- The offers FORCE makes at once for a zone (R124, R125): under FIRE for every PART-owned group, under MANUAL where the level
differs from the sent level. -/
def State.offerForce (s : State) (i : Fin 32) (kind : OverrideKind) : State :=
  s.zones[i].places.foldl (init := s) fun (t : State) (q : Place × Fin 48) =>
    let z := s.zones[i]
    let g := t.groups[q.2]
    let level := g.levelAt (z.isOn q.1) z.dCmd
    match kind with
    | .fire => if g.owner = .part then t.offerLevel q.2 level .fire else t
    | .manual => if g.owner = .part ∧ level ≠ g.sent then t.offerLevel q.2 level .autoManual else t

/-- FORCE on one zone (R124 to R126), its level already within 1,000. -/
def State.forceZone (s : State) (i : Fin 32) (kind : OverrideKind) (level : Nat) (scope : OverrideScope) : State :=
  (s.mapZone i fun z =>
    match kind with
    | .manual => z.manual s.sg s.groups level scope
    | .fire => z.fire s.groups level scope).offerForce i kind

/-- FORCE on a portal (R122, R123, R126): its override field, then every used zone in order of position. -/
def State.forcePortal (s : State) (p : Fin 4) (kind : OverrideKind) (level : Nat) : State :=
  let t := s.mapPortal p fun r => { r with override := some { kind := kind, level := level } }
  (t.portalZones p).foldl (fun u z => u.forceZone z kind level .portal) t

/-- RELEASE of one zone (R127). -/
def State.releaseZone (s : State) (i : Fin 32) : State := s.mapZone i fun z => { z with override := none }

/-- RELEASE of a portal (R127). -/
def State.releasePortal (s : State) (p : Fin 4) : State :=
  { s.mapPortal p fun r => { r with override := none } with
    zones := updAll s.zones fun _ z => if z.used && z.portal == p then { z with override := none } else z }

end Sys2Proof.Machine
end

