-- ==== Sys2Proof/Machine/Fields.lean ====
section
/-! DEFINITION. Fields of the tables: the value GET reads, and the value, state and effect of SET (R52, R53, R65, R73 to R76, R92 to
R97, R121, R131, R148 to R151, R164, R168). -/

namespace Sys2Proof.Machine

/-! ### Value codes (Table 11-9, R168) -/

/-- What an absent field reads (R168). -/
def absentWord : Word := 0xFFFFFFFF#32

/-- A number as GET carries it. -/
def natWord (n : Nat) : Word := BitVec.ofNat 32 n

/-- no and yes, clear and set, not held and held. -/
def boolWord (b : Bool) : Word := if b then 1 else 0

/-- A number that may be absent. -/
def optWord (o : Option Nat) : Word :=
  match o with
  | some n => natWord n
  | none => absentWord

/-- The code of none, or of a record (Table 11-9). -/
def indexCode (o : Option Nat) : Nat := o.getD 255

/-- A no/yes value, tested whole. -/
def boolOf (v : Nat) : Option Bool :=
  match v with
  | 0 => some false
  | 1 => some true
  | _ => none

/-- A value within a range, tested whole (R168). -/
def inRange (lo hi v : Nat) : Option Nat := if lo ≤ v ∧ v ≤ hi then some v else none

/-- An index below `n`. -/
def finOf (n v : Nat) : Option (Fin n) := if h : v < n then some ⟨v, h⟩ else none

/-- An index below `n`, or 255 for none (Table 11-9). -/
def optFinOf (n v : Nat) : Option (Option (Fin n)) := if v = 255 then some none else (finOf n v).map some

/-- Port selector code. -/
def PortSelector.code (p : PortSelector) : Nat :=
  match p with
  | .c => 0
  | .f => 1
  | .both => 2

/-- Port selector of a code. -/
def PortSelector.ofCode (v : Nat) : Option PortSelector :=
  match v with
  | 0 => some .c
  | 1 => some .f
  | 2 => some .both
  | _ => none

/-- Action code. -/
def Action.code (a : Action) : Nat :=
  match a with
  | .sample => 0
  | .traffic => 1
  | .pass => 2
  | .drop => 3

/-- Action of a code. -/
def Action.ofCode (v : Nat) : Option Action :=
  match v with
  | 0 => some .sample
  | 1 => some .traffic
  | 2 => some .pass
  | 3 => some .drop
  | _ => none

/-- Sensor source code. -/
def Source.code (x : Source) : Nat :=
  match x with
  | .line => 0
  | .pulse n => n.val + 1

/-- Sensor source of a code. -/
def Source.ofCode (v : Nat) : Option Source := if v = 0 then some .line else (finOf 4 (v - 1)).map .pulse

/-- Sensor state code. -/
def SensorState.code (x : SensorState) : Nat :=
  match x with
  | .unused => 0
  | .wait => 1
  | .valid => 2
  | .stale => 3
  | .fault => 4

/-- Portal state code. -/
def PortalState.code (x : PortalState) : Nat :=
  match x with
  | .unused => 0
  | .standby => 1
  | .fallback => 2
  | .hold => 3
  | .tracking => 4

/-- Owner code. -/
def Owner.code (x : Owner) : Nat :=
  match x with
  | .part => 0
  | .line => 1

/-- Owner of a code. -/
def Owner.ofCode (v : Nat) : Option Owner :=
  match v with
  | 0 => some .part
  | 1 => some .line
  | _ => none

/-- Counter scope code. -/
def CounterScope.code (x : CounterScope) : Nat :=
  match x with
  | .portal p => p.val
  | .all => 4

/-- Counter scope of a code. -/
def CounterScope.ofCode (v : Nat) : Option CounterScope := if v = 4 then some .all else (finOf 4 v).map .portal

/-- Device mode code. -/
def Mode.code (m : Mode) : Nat :=
  match m with
  | .transparent => 0
  | .running => 1

/-! ### Packings (Tables 11-11 and 11-12) -/

/-- A sample: luminance, saturated mark, origin index and kind. -/
def Sample.word (x : Sample) : Word :=
  let (index, kind) := match x.origin with
    | .entry i => (i.val, 0)
    | .pulse n => (n.val, 1)
  natWord (x.luminance + (if x.saturated then 1 else 0) * 2 ^ 16 + index * 2 ^ 17 + kind * 2 ^ 21)

/-- A place of a history or probation list, or a last sample (R168; log 38 for an absent last sample). -/
def sampleWord (o : Option Sample) : Word :=
  match o with
  | some x => x.word
  | none => absentWord

/-- An override: level, kind and scope; 0 for none. -/
def overrideWord (kind : OverrideKind) (level : Nat) (portalScope : Bool) : Word :=
  let k := match kind with
    | .manual => 2 ^ 16
    | .fire => 2 ^ 17
  natWord (level + k + if portalScope then 2 ^ 22 else 0)

/-- A zone's override field. -/
def ZoneOverride.word (o : Option ZoneOverride) : Word :=
  match o with
  | none => 0
  | some x => overrideWord x.kind x.level (x.scope == .portal)

/-- A portal's override field; it records a FORCE of portal scope, so its scope bit is set (R122, log 31). -/
def PortalOverride.word (o : Option PortalOverride) : Word :=
  match o with
  | none => 0
  | some x => overrideWord x.kind x.level true

/-- A stage list: stage 1 in the high byte, none in the places past its end. -/
def stageListWord (l : List (Fin 48)) : Word :=
  let code := fun k => indexCode ((l[k]?).map (·.val))
  natWord (code 0 * 2 ^ 24 + code 1 * 2 ^ 16 + code 2 * 2 ^ 8 + code 3)

/-- The entries before the first none form the list; a none followed by an index, or an index above 47, is out of range (R92). -/
def stageListOf (v : Word) : Option (List (Fin 48)) :=
  let bytes := (wordBytes v).map (·.toNat)
  let listed := bytes.takeWhile (· != 255)
  if (bytes.drop listed.length).all (· == 255) then listed.mapM (finOf 48) else none

/-- An on set: bit n - 1 for stage n, bit 4 for the reserve (Table 11-12). -/
def Zone.onWord (z : Zone) : Word :=
  natWord (((List.finRange 4).map fun n => if z.onStages[n] then 2 ^ n.val else 0).sum + if z.onReserve then 16 else 0)

/-- The remaining time of a timer in ms; 0 when stopped (R168). A part of a millisecond reads up or down as log 8 leaves open. -/
def State.remainingMs (s : State) (timer : Option Time) : Word :=
  match timer with
  | none => 0
  | some e =>
    let t := e - s.now
    natWord (t / msTicks + if t % msTicks ≠ 0 ∧ Config.remainingRoundsUp t then 1 else 0)

/-- Bit `n` of the flag sets, and the whole set. -/
def flagBit {w : Nat} (x : BitVec w) (f : FlagsField) : Word :=
  match f with
  | .bit n => boolWord (x.getLsbD n.val)
  | .all => x.setWidth 32

/-! ### GET (R148, R168) -/

/-- A DEVICE field. -/
def State.readDevice (s : State) (f : DeviceField) : Word :=
  match f with
  | .familyCode => natWord Config.familyCode
  | .revision => natWord Config.revision
  | .ownAddress => s.ownAddress.setWidth 32
  | .mode => natWord s.mode.code
  | .restartPending => boolWord s.restartPending
  | .controlOwner => s.device.controlOwner.setWidth 32
  | .maintenanceOwner => s.device.maintenanceOwner.setWidth 32
  | .rollover => boolWord s.device.rollover
  | .pollInterval => natWord s.device.pollInterval
  | .replyWindow => natWord s.device.replyWindow
  | .missLimit => natWord s.device.missLimit
  | .deviceAlert => boolWord s.device.deviceAlert
  | .portalAlert p => boolWord s.device.portalAlert[p]
  | .cursor => natWord s.cursor.val
  | .rescanInProgress => boolWord (s.rescan != .none)
  | .rescanPosition => natWord s.rescanPosition

/-- An ACCEPT field. -/
def AcceptEntry.read (e : AcceptEntry) (f : AcceptField) : Word :=
  match f with
  | .enable => boolWord e.enable
  | .ports => natWord e.ports.code
  | .mask => e.mask
  | .value => e.value
  | .action => natWord e.action.code
  | .sensor => natWord e.sensor.val
  | .forward => boolWord e.forward
  | .hits => e.hits

/-- A SENSOR field; the median is computed at the read (R64). -/
def State.readSensor (s : State) (i : Fin 8) (f : SensorField) : Word :=
  let r := s.sensors[i]
  match f with
  | .used => boolWord r.used
  | .source => natWord r.source.code
  | .staleTimeout => natWord r.staleTimeout
  | .state => natWord r.state.code
  | .rejects => natWord r.rejects
  | .good => natWord r.good
  | .historyCount => natWord r.history.length
  | .median => optWord (medianOf r.history)
  | .history k => sampleWord r.history[k.val]?
  | .probation k => sampleWord r.probation[k.val]?
  | .ageTimer => s.remainingMs r.ageTimer

/-- The low 32 bits of an edge time; 0 while absent (R168). -/
def edgeWord (o : Option (BitVec 48)) : Word :=
  match o with
  | some t => t.setWidth 32
  | none => 0

/-- A PULSE field. -/
def PulseInput.read (r : PulseInput) (f : PulseField) : Word :=
  match f with
  | .enable => boolWord r.enable
  | .gateLength => natWord r.gateLength
  | .scale => natWord r.scale
  | .count => natWord r.count
  | .lastEdgePresent => boolWord r.lastEdge.isSome
  | .lastEdge => edgeWord r.lastEdge
  | .referencePresent => boolWord r.reference.isSome
  | .reference => edgeWord r.reference
  | .lastSample => sampleWord r.lastSample

/-- A PORTAL field. -/
def State.readPortal (s : State) (p : Fin 4) (f : PortalField) : Word :=
  let r := s.portals[p]
  match f with
  | .used => boolWord r.used
  | .bore => natWord r.bore.val
  | .mainSensor => natWord r.mainSensor.val
  | .reserveSensor => natWord (indexCode (r.reserveSensor.map (·.val)))
  | .tolerance => natWord r.tolerance
  | .fallbackLuminance => natWord r.fallbackLuminance
  | .holdTime => natWord r.holdTime
  | .ceiling => natWord r.ceiling
  | .interior => natWord r.interior
  | .passPeriod => natWord r.passPeriod
  | .rampPeriod => natWord r.rampPeriod
  | .riseStep => natWord r.riseStep
  | .fallStep => natWord r.fallStep
  | .deadband => natWord r.deadband
  | .refreshInterval => natWord r.refreshInterval
  | .initialSpeed => natWord r.initialSpeed.val
  | .initialTraffic => natWord r.initialTraffic.val
  | .state => natWord r.state.code
  | .speed => natWord r.speed.val
  | .traffic => natWord r.traffic.val
  | .la => optWord r.la
  | .lastGoodLa => optWord r.lastGoodLa
  | .lth => optWord r.lth
  | .holdTimer => s.remainingMs r.holdTimer
  | .disagree => boolWord r.disagree
  | .override => PortalOverride.word r.override

/-- A ZONE field. -/
def Zone.read (z : Zone) (f : ZoneField) : Word :=
  match f with
  | .used => boolWord z.used
  | .portal => natWord z.portal.val
  | .position => natWord z.position
  | .stageList => stageListWord z.stages
  | .reserve => natWord (indexCode (z.reserve.map (·.val)))
  | .ratio => natWord z.ratio
  | .hysteresis => natWord z.hysteresis
  | .lz => optWord z.lz
  | .onSet => z.onWord
  | .dCmd => natWord z.dCmd
  | .dTarget => optWord z.dTarget
  | .deficit => boolWord z.deficit
  | .deficitAmount => natWord z.deficitAmount
  | .override => ZoneOverride.word z.override
  | .reserveEligible => boolWord z.reserveEligible

/-- A GROUP field; burn hours and the refresh age are rounded down at the read (R98, R119). -/
def State.readGroup (s : State) (g : Fin 48) (f : GroupField) : Word :=
  let r := s.groups[g]
  match f with
  | .used => boolWord r.used
  | .groupAddress => r.address.setWidth 32
  | .rated => natWord r.rated
  | .dmin => natWord r.dmin
  | .owner => natWord r.owner.code
  | .depreciation => natWord r.depreciation
  | .mfFloor => natWord r.mfFloor
  | .burnHours => natWord (r.burnMinutes / 60)
  | .sent => natWord r.sent
  | .pendingMark => boolWord r.pendingMark
  | .due => boolWord r.due
  | .refreshAge => natWord (s.refreshAge g / secTicks)
  | .burnMinutes => natWord r.burnMinutes
  | .burnSub => natWord r.burnSub
  | .burnKnown => boolWord r.burnKnown
  | .mf => optWord r.mf
  | .sg => optWord r.sg

/-- A DRIVER field. -/
def Driver.read (r : Driver) (f : DriverField) : Word :=
  match f with
  | .used => boolWord r.used
  | .lineAddress => r.address.setWidth 32
  | .group => natWord r.group.val
  | .state => natWord r.state.code
  | .misses => natWord r.misses
  | .lastCondition => optWord (r.lastCondition.map (·.toNat))
  | .lastLevel => optWord (r.lastLevel.map (·.toNat))

/-- A COUNTER field. -/
def Counter.read (r : Counter) (f : CounterField) : Word :=
  match f with
  | .select => natWord r.select.val
  | .scope => natWord r.scope.code
  | .value => r.value
  | .sticky => boolWord r.sticky

/-- The value a GET of the field reads now (R148, R168). -/
def State.read (s : State) (t : Target) : Word :=
  match t with
  | .device f => s.readDevice f
  | .accept i f => s.accept[i].read f
  | .sensor i f => s.readSensor i f
  | .pulse n f => s.pulses[n].read f
  | .portal p f => s.readPortal p f
  | .kTable i => natWord s.kTable[i]
  | .zone z f => s.zones[z].read f
  | .group g f => s.readGroup g f
  | .driver d f => s.drivers[d].read f
  | .counter i f => s.counters[i].read f
  | .flags .device f => flagBit s.deviceFlags f
  | .flags (.portal p) f => flagBit s.portalFlags[p] f

/-! ### SET: writability (R149 (1)) -/

/-- Can the field be written? -/
def Target.writable (t : Target) : Bool :=
  match t with
  | .device f =>
    match f with
    | .controlOwner | .maintenanceOwner | .rollover | .pollInterval | .replyWindow | .missLimit | .deviceAlert
    | .portalAlert _ => true
    | .familyCode | .revision | .ownAddress | .mode | .restartPending | .cursor | .rescanInProgress | .rescanPosition => false
  | .accept _ f =>
    match f with
    | .enable | .ports | .mask | .value | .action | .sensor | .forward => true
    | .hits => false
  | .sensor _ f =>
    match f with
    | .used | .source | .staleTimeout => true
    | .state | .rejects | .good | .historyCount | .median | .history _ | .probation _ | .ageTimer => false
  | .pulse _ f =>
    match f with
    | .enable | .gateLength | .scale => true
    | .count | .lastEdgePresent | .lastEdge | .referencePresent | .reference | .lastSample => false
  | .portal _ f =>
    match f with
    | .used | .bore | .mainSensor | .reserveSensor | .tolerance | .fallbackLuminance | .holdTime | .ceiling | .interior
    | .passPeriod | .rampPeriod | .riseStep | .fallStep | .deadband | .refreshInterval | .initialSpeed | .initialTraffic => true
    | .state | .speed | .traffic | .la | .lastGoodLa | .lth | .holdTimer | .disagree | .override => false
  | .kTable _ => true
  | .zone _ f =>
    match f with
    | .used | .portal | .position | .stageList | .reserve | .ratio | .hysteresis => true
    | .lz | .onSet | .dCmd | .dTarget | .deficit | .deficitAmount | .override | .reserveEligible => false
  | .group _ f =>
    match f with
    | .used | .groupAddress | .rated | .dmin | .owner | .depreciation | .mfFloor | .burnHours => true
    | .sent | .pendingMark | .due | .refreshAge | .burnMinutes | .burnSub | .burnKnown | .mf | .sg => false
  | .driver _ f =>
    match f with
    | .used | .lineAddress | .group => true
    | .state | .misses | .lastCondition | .lastLevel => false
  | .counter _ f =>
    match f with
    | .select | .scope => true
    | .value | .sticky => false
  | .flags _ _ => false

/-! ### SET: mode and state (R149 (2), R150) -/

/-- How a SET of a field is restricted (Table 9-5). -/
inductive Restriction
  | free
  | owner
  | structural
  deriving DecidableEq, Repr

/-- The restriction of a field (Table 9-5, R150). -/
def Target.restriction (t : Target) : Restriction :=
  match t with
  | .device .controlOwner | .device .maintenanceOwner => .owner
  | .sensor _ .used | .sensor _ .source => .structural
  | .portal _ .used | .portal _ .bore | .portal _ .mainSensor | .portal _ .reserveSensor => .structural
  | .zone _ .used | .zone _ .portal | .zone _ .position | .zone _ .stageList | .zone _ .reserve => .structural
  | .group _ .used | .group _ .groupAddress => .structural
  | .driver _ .used | .driver _ .lineAddress | .driver _ .group => .structural
  | _ => .free

/-- The portals of the used zones in which a group stands (Table 9-5). -/
def State.portalsOfGroup (s : State) (g : Fin 48) : List (Fin 4) := (s.zonesOfGroup g).map fun z => s.zones[z].portal

/-- The portals a structural SET of value `v` concerns (Table 9-5). A value that is out of range names no portal or group. -/
def State.concerned (s : State) (t : Target) (v : Nat) : List (Fin 4) :=
  match t with
  | .sensor i _ => s.sensorPortals i
  | .portal p _ => [p]
  | .zone z .portal => s.zones[z].portal :: (finOf 4 v).toList
  | .zone z _ => [s.zones[z].portal]
  | .group g _ => s.portalsOfGroup g
  | .driver d .group => s.portalsOfGroup s.drivers[d].group ++ ((finOf 48 v).toList.flatMap s.portalsOfGroup)
  | .driver d _ => s.portalsOfGroup s.drivers[d].group
  | _ => []

/-- Do the mode and the portal states allow the SET (R150)? -/
def State.allowsSet (s : State) (t : Target) (v : Nat) : Bool :=
  match s.mode, t.restriction with
  | .transparent, _ | .running, .free => true
  | .running, .owner => false
  | .running, .structural => (s.concerned t v).all fun p => !s.regulating p

/-! ### SET: value and effect (R149 (3))

Each writer answers none where the value is out of range. -/

/-- Writes a DEVICE field (Table 9-6). -/
def Device.write (d : Device) (f : DeviceField) (v : Nat) : Option Device :=
  match f with
  | .controlOwner => (inRange 0 255 v).map fun x => { d with controlOwner := BitVec.ofNat 8 x }
  | .maintenanceOwner => (inRange 0 255 v).map fun x => { d with maintenanceOwner := BitVec.ofNat 8 x }
  | .rollover => (boolOf v).map fun x => { d with rollover := x }
  | .pollInterval => (inRange 50 2000 v).map fun x => { d with pollInterval := x }
  | .replyWindow => (inRange 5 100 v).map fun x => { d with replyWindow := x }
  | .missLimit => (inRange 1 7 v).map fun x => { d with missLimit := x }
  | .deviceAlert => (boolOf v).map fun x => { d with deviceAlert := x }
  | .portalAlert p => (boolOf v).map fun x => { d with portalAlert := updAt d.portalAlert p fun _ => x }
  | _ => none

/-- Writes an acceptance entry field (R32). -/
def AcceptEntry.write (e : AcceptEntry) (f : AcceptField) (v : Word) : Option AcceptEntry :=
  match f with
  | .enable => (boolOf v.toNat).map fun x => { e with enable := x }
  | .ports => (PortSelector.ofCode v.toNat).map fun x => { e with ports := x }
  | .mask => some { e with mask := v }
  | .value => some { e with value := v }
  | .action => (Action.ofCode v.toNat).map fun x => { e with action := x }
  | .sensor => (finOf 8 v.toNat).map fun x => { e with sensor := x }
  | .forward => (boolOf v.toNat).map fun x => { e with forward := x }
  | .hits => none

/-- Writes a sensor field (R52, R53). -/
def Sensor.write (r : Sensor) (f : SensorField) (v : Nat) : Option Sensor :=
  match f with
  | .used => (boolOf v).map fun x =>
      if x = r.used then r else { r.emptied (if x then .wait else .unused) with used := x }
  | .source => (Source.ofCode v).map fun x =>
      if x = r.source then r else if r.used then { r.emptied .wait with source := x } else { r with source := x }
  | .staleTimeout => (inRange 1 120 v).map fun x => { r with staleTimeout := x }
  | _ => none

/-- Writes a pulse input field at `now` (R65). -/
def PulseInput.write (r : PulseInput) (f : PulseField) (v : Nat) (now : Time) : Option PulseInput :=
  match f with
  | .enable => (boolOf v).map fun x => if x = r.enable then r else if x then { r.startGate now with enable := true } else r.stop
  | .gateLength => if [125, 250, 500, 1000].contains v then some { r with gateLength := v } else none
  | .scale => (inRange 1 4000 v).map fun x => { r with scale := x }
  | _ => none

/-- Writes a portal field (R73 to R75). -/
def Portal.write (r : Portal) (f : PortalField) (v : Nat) : Option Portal :=
  let regulating := r.used && r.state.regulating
  match f with
  | .used => (boolOf v).map fun x =>
      if x = r.used then r
      else if x then { r with used := true, state := .standby } else { r.discarded .unused with used := false }
  | .bore => (finOf 2 v).map fun x => { r with bore := x }
  | .mainSensor => (finOf 8 v).map fun x => { r with mainSensor := x }
  | .reserveSensor => (optFinOf 8 v).map fun x => { r with reserveSensor := x }
  | .tolerance => (inRange 0 500 v).map fun x => { r with tolerance := x }
  | .fallbackLuminance => (inRange 0 20000 v).map fun x => { r with fallbackLuminance := x }
  | .holdTime => (inRange 0 600 v).map fun x => { r with holdTime := x }
  | .ceiling =>
    if regulating ∧ v < r.interior then none else (inRange 10 40000 v).map fun x => { r with ceiling := x }
  | .interior =>
    if regulating ∧ r.ceiling < v then none else (inRange 10 500 v).map fun x => { r with interior := x }
  | .passPeriod => (inRange 1 60 v).map fun x => { r with passPeriod := x }
  | .rampPeriod => (inRange 100 2000 v).map fun x => { r with rampPeriod := x }
  | .riseStep => (inRange 1 1000 v).map fun x => { r with riseStep := x }
  | .fallStep => (inRange 1 1000 v).map fun x => { r with fallStep := x }
  | .deadband => (inRange 0 50 v).map fun x => { r with deadband := x }
  | .refreshInterval => (inRange 5 300 v).map fun x => { r with refreshInterval := x }
  | .initialSpeed => (finOf 8 v).map fun x => { r with initialSpeed := x }
  | .initialTraffic => (finOf 4 v).map fun x => { r with initialTraffic := x }
  | _ => none

/-- Would the ratio break the order of a regulating portal (R93)? The neighbours are the used zones of the portal one position
outward and one inward. -/
def State.ratioBreaksOrder (s : State) (i : Fin 32) (v : Nat) : Bool :=
  let z := s.zones[i]
  z.used && s.regulating z.portal && (List.finRange 32).any fun j =>
    let y := s.zones[j]
    y.used && y.portal == z.portal
      && ((y.position + 1 == z.position && decide (y.ratio < v)) || (y.position == z.position + 1 && decide (v < y.ratio)))

/-- Writes a zone field (R92, R93). -/
def State.writeZone (s : State) (i : Fin 32) (f : ZoneField) (v : Word) : Option Zone :=
  let z := s.zones[i]
  match f with
  | .used => (boolOf v.toNat).map fun x => if x = z.used then z else { z.discarded with used := x }
  | .portal => (finOf 4 v.toNat).map fun x => { z with portal := x }
  | .position => (inRange 1 8 v.toNat).map fun x => { z with position := x }
  | .stageList => (stageListOf v).map fun x => { z with stages := x }
  | .reserve => (optFinOf 48 v.toNat).map fun x => { z with reserve := x }
  | .ratio => if s.ratioBreaksOrder i v.toNat then none else (inRange 0 1000 v.toNat).map fun x => { z with ratio := x }
  | .hysteresis => (inRange 0 300 v.toNat).map fun x => { z with hysteresis := x }
  | _ => none

/-- Would the minimum level put a burning group below it (R94)? -/
def State.dminTooHigh (s : State) (g : Fin 48) (v : Nat) : Bool :=
  s.groups[g].owner == .part && (List.finRange 32).any fun i =>
    let z := s.zones[i]
    z.used && s.regulating z.portal && z.places.any (fun p => p.2 == g && z.isOn p.1)
      && decide (min z.dCmd (z.dTarget.getD 0) < v)

/-- The effect of SET of burn hours (R97). The first load holds at 4,294,967,295 minutes (log 21). -/
def Group.loadBurn (r : Group) (hours : Nat) : Group :=
  { r with
    burnMinutes := if r.burnKnown then hours * 60 else min 4294967295 (hours * 60 + r.burnMinutes)
    burnKnown := true }

/-- The effect of SET of owner (R121). -/
def Group.setOwner (r : Group) (x : Owner) : Group :=
  if x = r.owner then r else { r with owner := x, due := x == .part }

/-- The effect of SET of used (R94). -/
def Group.setUsed (r : Group) (x : Bool) : Group :=
  if x = r.used then r else { r with used := x, mf := none, sg := none, due := false }

/-- Writes a group field (R94, R97, R121). -/
def State.writeGroup (s : State) (g : Fin 48) (f : GroupField) (v : Nat) : Option Group :=
  let r := s.groups[g]
  match f with
  | .used => (boolOf v).map r.setUsed
  | .groupAddress => (inRange 200 254 v).map fun x => { r with address := BitVec.ofNat 8 x }
  | .rated => (inRange 1 20000 v).map fun x => { r with rated := x }
  | .dmin => if s.dminTooHigh g v then none else (inRange 1 500 v).map fun x => { r with dmin := x }
  | .owner => (Owner.ofCode v).map r.setOwner
  | .depreciation => (inRange 0 500 v).map fun x => { r with depreciation := x }
  | .mfFloor => (inRange 500 1000 v).map fun x => { r with mfFloor := x }
  | .burnHours => (inRange 0 500000 v).map r.loadBurn
  | _ => none

/-- A driver whose record was changed enters UNKNOWN, if it is used, with miss count 0 (R131). -/
def Driver.renewed (r : Driver) : Driver := if r.used then { r with state := .unknown, misses := 0 } else r

/-- Writes a driver field (R131). -/
def Driver.write (r : Driver) (f : DriverField) (v : Nat) : Option Driver :=
  match f with
  | .used => (boolOf v).map fun x =>
      if x = r.used then r else { r with used := x, state := if x then .unknown else .unused, misses := 0 }
  | .lineAddress => (inRange 1 183 v).map fun x =>
      if BitVec.ofNat 8 x = r.address then r else { r with address := BitVec.ofNat 8 x }.renewed
  | .group => (finOf 48 v).map fun x => if x = r.group then r else { r with group := x }.renewed
  | _ => none

/-- Writes a counter field (R164). -/
def Counter.write (r : Counter) (f : CounterField) (v : Nat) : Option Counter :=
  match f with
  | .select => (finOf 16 v).map fun x => { r with select := x }
  | .scope => (CounterScope.ofCode v).map fun x => { r with scope := x }
  | _ => none

/-- The state after a SET of a writable field, or none where the value is refused with BAD_VALUE (R149 (3)). An accepted SET of
an acceptance entry field sets its hits to 0 (R25). -/
def State.write (s : State) (t : Target) (v : Word) : Option State :=
  match t with
  | .device f => (s.device.write f v.toNat).map fun x => { s with device := x }
  | .accept i f => (s.accept[i].write f v).map fun x => { s with accept := updAt s.accept i fun _ => { x with hits := 0 } }
  | .sensor i f => (s.sensors[i].write f v.toNat).map fun x => { s with sensors := updAt s.sensors i fun _ => x }
  | .pulse n f => (s.pulses[n].write f v.toNat s.now).map fun x => { s with pulses := updAt s.pulses n fun _ => x }
  | .portal p f => (s.portals[p].write f v.toNat).map fun x => { s with portals := updAt s.portals p fun _ => x }
  | .kTable i => (inRange 0 2000 v.toNat).map fun x => { s with kTable := updAt s.kTable i fun _ => x }
  | .zone z f => (s.writeZone z f v).map fun x => { s with zones := updAt s.zones z fun _ => x }
  | .group g f => (s.writeGroup g f v.toNat).map fun x => { s with groups := updAt s.groups g fun _ => x }
  | .driver d f => (s.drivers[d].write f v.toNat).map fun x => { s with drivers := updAt s.drivers d fun _ => x }
  | .counter i f => (s.counters[i].write f v.toNat).map fun x => { s with counters := updAt s.counters i fun _ => x }
  | .flags _ _ => none

end Sys2Proof.Machine
end

