-- ==== Sys2Proof/Machine/Engine.lean ====
section
/-! DEFINITION. The management engine: slots, execution of requests, responses, and the device mode (Chapter 9). -/

namespace Sys2Proof.Machine

/-- What the execution of a request gives: the state after it and its reply. -/
structure Executed where
  state : State
  reply : Reply

/-- A refusal changes nothing in the part (R146). -/
def State.refuse (s : State) (r : Result) : Executed := { state := s, reply := .bare r }

/-- Carried out, with no data. -/
def State.done (s : State) : Executed := { state := s, reply := .bare .ok }

/-- A failed check: its number and row (11.3). -/
def State.refuseCheck (s : State) (f : Failure) : Executed :=
  { state := s, reply := { result := .checkFailed, data := [BitVec.ofNat 8 f.check, BitVec.ofNat 8 f.row] } }

/-! ### GET and SET -/

/-- GET (R148). -/
def State.runGet (s : State) (t : Target) : Executed := { state := s, reply := { result := .ok, data := wordBytes (s.read t) } }

/-- Does a SET taken now break the law of the tables (R150)? It is asked of structural SETs in RUNNING. -/
def State.setBreaksLaw (after : State) (t : Target) : Option Failure :=
  match after.mode, t.restriction with
  | .running, .structural => after.lawBroken
  | _, _ => none

/-- SET (R149, R150): writability, mode and state, value, table consistency; the response carries the value now held. -/
def State.runSet (s : State) (t : Target) (v : Word) : Executed :=
  if !t.writable then s.refuse .badField
  else if !s.allowsSet t v.toNat then s.refuse .wrongState
  else
    match s.write t v with
    | none => s.refuse .badValue
    | some after =>
      match after.setBreaksLaw t with
      | some f => s.refuseCheck f
      | none => { state := after, reply := { result := .ok, data := wordBytes (after.read t) } }

/-! ### Mode -/

/-- The effects of an accepted ACTIVATE before its response (R152 (1) to (4), R142, R170). -/
def State.enterRunning (s : State) : State :=
  let unknown := { s with mode := .running }.driversUnknown
  let polling := { unknown with cursor := 0, pollTimer := some (s.now + s.device.pollInterval * msTicks) }
  ((List.finRange 4).foldl (init := polling) fun (t : State) (p : Fin 4) =>
    if t.portals[p].used then t.startPortal p else t).rescanStart

/-- ACTIVATE (R152). -/
def State.runActivate (s : State) : Executed :=
  match s.mode with
  | .running => s.refuse .wrongState
  | .transparent =>
    match s.consistency none with
    | some f => s.refuseCheck f
    | none => s.enterRunning.done

/-- The effects of an accepted DEACTIVATE (R155). -/
def State.leaveRunning (s : State) : State :=
  { s with mode := .transparent }.discardRegulation.removeOwnEntries.abandonRescan

/-- DEACTIVATE (R155). -/
def State.runDeactivate (s : State) : Executed :=
  match s.mode with
  | .transparent => s.refuse .wrongState
  | .running => s.leaveRunning.done

/-! ### Portals and zones -/

/-- STANDBY (R90). -/
def State.runStandby (s : State) (p : Fin 4) : Executed :=
  match s.mode, s.portals[p].used with
  | .transparent, _ | .running, false => s.refuse .wrongState
  | .running, true => if s.regulating p then (s.standbyPortal p).done else s.done

/-- RESUME (R89, R154). -/
def State.runResume (s : State) (p : Fin 4) : Executed :=
  match s.mode, s.portals[p].used with
  | .transparent, _ | .running, false => s.refuse .wrongState
  | .running, true =>
    if s.regulating p then s.refuse .wrongState
    else
      match s.consistency (some p) with
      | some f => s.refuseCheck f
      | none => (s.startPortal p).done

/-- May FORCE and RELEASE be taken there (R123, R127)? -/
def State.reachable (s : State) (r : Reach) : Bool :=
  s.mode == .running &&
    match r with
    | .portal p => s.regulating p
    | .zone z => s.zones[z].used && s.regulating s.zones[z].portal

/-- The kind of a FORCE (Table 11-5). -/
def OverrideKind.ofCode (b : Byte) : Option OverrideKind :=
  match b.toNat with
  | 1 => some .manual
  | 2 => some .fire
  | _ => none

/-- FORCE (R123): mode and state, kind, then the override with its level clamped to 1,000. -/
def State.runForce (s : State) (r : Reach) (kind : Byte) (level : Nat) : Executed :=
  if !s.reachable r then s.refuse .wrongState
  else
    match OverrideKind.ofCode kind with
    | none => s.refuse .badValue
    | some k =>
      match r with
      | .zone z => (s.forceZone z k (min 1000 level) .zone).done
      | .portal p => (s.forcePortal p k (min 1000 level)).done

/-- RELEASE (R127). -/
def State.runRelease (s : State) (r : Reach) : Executed :=
  if !s.reachable r then s.refuse .wrongState
  else
    match r with
    | .zone z => (s.releaseZone z).done
    | .portal p => (s.releasePortal p).done

/-- RESCAN (R136). -/
def State.runRescan (s : State) : Executed :=
  match s.mode with
  | .transparent => s.refuse .wrongState
  | .running => if s.rescan = .none then s.rescanStart.done else s.refuse .busy

/-! ### Flags and counters -/

/-- Clears the named flags (R157): the set as it then stands. -/
def clearMasked {w : Nat} (x : BitVec w) (mask : Byte) : BitVec w := x &&& ~~~(mask.setWidth w)

/-- Does the mask name a flag beyond the set (R157)? -/
def maskBeyond (w : Nat) (mask : Byte) : Bool := decide (2 ^ w ≤ mask.toNat)

/-- CLEAR_FLAGS (R157). -/
def State.runClearFlags (s : State) (set : FlagSet) (mask : Byte) : Executed :=
  match set with
  | .device =>
    if maskBeyond 5 mask then s.refuse .badField
    else
      let x := clearMasked s.deviceFlags mask
      { state := { s with deviceFlags := x }, reply := { result := .ok, data := [x.setWidth 8] } }
  | .portal p =>
    if maskBeyond 6 mask then s.refuse .badField
    else
      let x := clearMasked s.portalFlags[p] mask
      { state := { s with portalFlags := updAt s.portalFlags p fun _ => x }, reply := { result := .ok, data := [x.setWidth 8] } }

/-- READ_COUNTER (R157). -/
def State.runReadCounter (s : State) (i : Fin 8) (clear : Byte) : Executed :=
  let r := s.counters[i]
  match boolOf clear.toNat with
  | none => s.refuse .badValue
  | some c =>
    { state := if c then { s with counters := updAt s.counters i fun r => { r with value := 0, sticky := false } } else s
      reply := { result := .ok, data := wordBytes r.value ++ [if r.sticky then 1 else 0] } }

/-! ### Execution (R145, R146) -/

/-- A request of good shape and addressing, from a source that may make it (R146 (6)). -/
def State.runRequest (s : State) (r : Request) : Executed :=
  match r with
  | .get t => s.runGet t
  | .set t v => s.runSet t v
  | .activate => s.runActivate
  | .deactivate => s.runDeactivate
  | .standby p => s.runStandby p
  | .resume p => s.runResume p
  | .force r k l => s.runForce r k l
  | .release r => s.runRelease r
  | .rescan => s.runRescan
  | .clearFlags set m => s.runClearFlags set m
  | .readCounter i c => s.runReadCounter i c
  | .restart => { s with restartPending := true }.done

/-- Examination of a request in its fixed order (R146): payload, code, operands, addressing, access, its own checks. -/
def State.runPayload (s : State) (src : Byte) (payload : List Byte) : Executed :=
  match Request.ofPayload payload with
  | .error e => s.refuse e
  | .ok r => if s.grants src r then s.runRequest r else s.refuse .denied

/-- The response frame (R145): to the source of the request, with its tag. -/
def State.responseFrame (s : State) (request : Frame) (r : Reply) : Frame :=
  { dest := request.src, src := s.ownAddress, cls := clsMrsp, payload := tagOf request.payload :: r.result.code :: r.data }

/-- Is the payload a RESTART that is answered OK? Its response alone brings the restart about (R158). -/
def isRestart (payload : List Byte) (r : Reply) : Bool :=
  match payload with
  | _ :: code :: _ => code == 12 && r.result == .ok
  | _ => false

/-- The request in a slot is executed and its response offered (R145, R41). -/
def State.executeSlot (s : State) (k : SlotIndex) (f : Frame) : State :=
  let x := s.runPayload f.src f.payload
  x.state.offerResponse k
    { kind := .response (isRestart f.payload x.reply), frame := x.state.responseFrame f x.reply }

/-- The slot a request is placed in (R144). -/
def State.freeSlot (s : State) : Option SlotIndex :=
  if s.slot0.isNone then some .zero else if s.device.rollover && s.slot1.isNone then some .one else none

/-- A request that finds no slot is dropped: counted under code 12, MGMT_OVR latched with its ALERT (R144). -/
def State.dropRequest (s : State) (f : Frame) : State := (s.count 12 (unscoped 1)).deviceEvent .mgmtOvr f.src 0

/-- The slot holds the request and the moment it was placed (R144). -/
def State.occupy (s : State) (k : SlotIndex) (f : Frame) : State :=
  { s.setSlot k (some { request := f, moment := s.now, number := s.placed, response := none }) with placed := s.placed + 1 }

/-- The dispatcher hands the engine a request (R144, R145): placed and executed, placed alone while a RESTART is pending, or
dropped. -/
def State.handRequest (s : State) (f : Frame) : State :=
  match s.freeSlot with
  | none => s.dropRequest f
  | some k => if s.restartPending then s.occupy k f else (s.occupy k f).executeSlot k f

/-! ### The restart (R158) -/

/-- Each used sensor enters WAIT and each enabled pulse input starts a new gate (R72). -/
def State.restartSensing (s : State) : State :=
  { s with
    sensors := updAll s.sensors fun _ r => if r.used then r.emptied .wait else r
    pulses := updAll s.pulses fun _ r => if r.enable then r.startGate s.now else r }

/-- The restart takes effect (R158 (1) to (8)). -/
def State.restartNow (s : State) : State :=
  let routed := { s with
    mode := .transparent
    slot0 := none
    slot1 := none
    deviceFlags := 0
    portalFlags := Vector.replicate 4 0
    restartPending := false
    fTx := s.fTx.disowned }
  routed.emptyQueues.restartSensing.driversUnknown.abandonRescan.discardRegulation

end Sys2Proof.Machine
end

