-- ==== Sys2Proof/Machine/Routing.lean ====
section
/-! DEFINITION. The frame dispatcher and the acceptance table: what becomes of a good frame (Chapters 1 and 2). -/

namespace Sys2Proof.Machine

/-! ### Acceptance table (Chapter 2) -/

/-- The four compared bytes of a frame as one 32-bit value (R22, Table 11-11). -/
def Frame.compared (f : Frame) : Word := wordOfBytes f.dest f.src (0#4 ++ f.cls) (f.payload.headD 0)

/-- Does the port selector include the port (R24)? -/
def PortSelector.includes (p : PortSelector) (port : Port) : Bool :=
  match p, port with
  | .both, _ | .c, .c | .f, .f => true
  | .c, .f | .f, .c => false

/-- Does the entry decide the frame (R21, R23, R24)? -/
def AcceptEntry.fits (e : AcceptEntry) (port : Port) (f : Frame) : Bool :=
  e.enable && e.ports.includes port && (f.compared &&& e.mask == e.value &&& e.mask)

/-- The deciding entry (R24). -/
def State.decidingEntry (s : State) (port : Port) (f : Frame) : Option (Fin 16) :=
  (List.finRange 16).find? fun i => s.accept[i].fits port f

/-- A traffic report, when it is valid (R29): bore, speed class, traffic class. -/
def trafficReport (payload : List Byte) : Option (Fin 2 × Fin 8 × Fin 4) :=
  match payload with
  | b :: v :: t :: _ =>
    match finOf 2 b.toNat, finOf 8 v.toNat, finOf 4 t.toNat with
    | some bore, some speed, some traffic => some (bore, speed, traffic)
    | _, _, _ => none
  | _ => none

/-- TRAFFIC capture (R29, R30). -/
def State.captureTraffic (s : State) (payload : List Byte) : State :=
  match trafficReport payload with
  | none => s.count 14 (unscoped 1)
  | some (bore, speed, traffic) =>
    { s with portals := updAll s.portals fun _ r =>
        if r.used && r.bore == bore then { r with speed := speed, traffic := traffic } else r }

/-- What step 2 leaves: the state after it, and whether the frame goes to step 3. -/
structure Accepted where
  state : State
  onward : Bool

/-- Step 2 (R14, R25, R26). -/
def State.acceptance (s : State) (port : Port) (f : Frame) : Accepted :=
  match s.decidingEntry port f with
  | none => { state := s, onward := true }
  | some i =>
    let e := s.accept[i]
    let t := { s with accept := updAt s.accept i fun e => { e with hits := e.hits + 1 } }
    match e.action with
    | .sample => { state := t.offerCandidate e.sensor (.ofPayload i f.payload), onward := e.forward }
    | .traffic => { state := t.captureTraffic f.payload, onward := e.forward }
    | .pass => { state := t, onward := true }
    | .drop => { state := t, onward := false }

/-! ### Built-in handling (R15, R16) -/

/-- A used, PART-owned group that stands in a zone of a regulating portal (R15 (a)). -/
def State.commandedGroup (s : State) (g : Fin 48) : Bool :=
  s.groups[g].used && s.groups[g].owner == .part && (s.zonesOfGroup g).any fun z => s.regulating s.zones[z].portal

/-- Is a C-port LEVEL to the address intercepted (R15)? -/
def State.interceptsAddress (s : State) (a : Byte) : Bool :=
  ((List.finRange 48).any fun g => s.groups[g].address == a && s.commandedGroup g)
    || ((List.finRange 160).any fun d => s.drivers[d].used && s.drivers[d].address == a && s.commandedGroup s.drivers[d].group)
    || (a == 255 && (List.finRange 4).any fun p => s.regulating p)

/-- Is the frame an intercepted LEVEL (R15, R18)? -/
def State.intercepts (s : State) (port : Port) (f : Frame) : Bool :=
  s.mode == .running && port == .c && f.cls == clsLevel && s.interceptsAddress f.dest

/-- The condition code and present level of a STATUS payload (Table 11-2); none when it holds fewer than 3 bytes (R16). -/
def statusReport (payload : List Byte) : Option (Byte × BitVec 16) :=
  match payload with
  | c :: hi :: lo :: _ => some (c, hi ++ lo)
  | _ => none

/-- STATUS snooping (R16). -/
def State.snoopFrame (s : State) (port : Port) (f : Frame) : State :=
  if s.mode = .running ∧ port = .f ∧ f.cls = clsStatus then
    match s.driverAt f.src, statusReport f.payload with
    | some d, some (c, l) => s.snoop d c l
    | _, _ => s
  else s

/-- Step 4 (R17). -/
def State.forward (s : State) (port : Port) (f : Frame) : State :=
  match port with
  | .c => s.offerPassF f
  | .f => s.offerPassC f

/-- Steps 3 and 4. -/
def State.handleOnward (s : State) (port : Port) (f : Frame) : State :=
  if s.intercepts port f then s.count 5 (unscoped 1) else (s.snoopFrame port f).forward port f

/-! ### The whole dispatch -/

/-- A frame to the own address (R13). -/
def State.handleOwn (s : State) (port : Port) (f : Frame) : State :=
  if port = .c ∧ f.cls = clsMreq then s.handRequest f else s.count 12 (unscoped 1)

/-- Steps 1 to 4 (R13 to R17). -/
def State.dispatch (s : State) (port : Port) (f : Frame) : State :=
  if f.dest = s.ownAddress then s.handleOwn port f
  else
    let a := s.acceptance port f
    if a.onward then a.state.handleOnward port f else a.state

/-- Does a good STATUS from `src` end the running window (R45, R46)? -/
def FTx.endedBy (t : FTx) (src : Byte) : Option Window :=
  match t with
  | .awaitReply w _ =>
    match w.scope with
    | .individual => if w.polled = src then some w else none
    | .group => none
  | .idle | .sending _ _ => none

/-- The window a good frame ends at its notice to the F-port transmitter (R12, R45). -/
def State.windowEndedBy (s : State) (port : Port) (f : Frame) : Option Window :=
  match port with
  | .c => none
  | .f => if f.cls = clsStatus then s.fTx.endedBy f.src else none

/-- The counter code of good frames of a port (R19). -/
def goodCode (port : Port) : Fin 16 :=
  match port with
  | .c => 1
  | .f => 2

/-- After the window of an own SCAN POLL the rescan moves on (R137, R138). -/
def State.afterWindow (s : State) (w : Window) : State :=
  match w.owner, w.origin with
  | some d, some .scan => s.scanWindowEnded d
  | _, _ => s

/-- A good frame (R9, R12, R19): counted, made known to the F-port transmitter when it is a STATUS of the F-port, and dispatched;
a rescan whose window it ended moves on after that (log 17). -/
def State.goodFrame (s : State) (port : Port) (f : Frame) : State :=
  let counted := s.count (goodCode port) (unscoped 1)
  match s.windowEndedBy port f with
  | none => counted.dispatch port f
  | some w => ({ counted with fTx := .idle }.dispatch port f).afterWindow w

end Sys2Proof.Machine
end

