-- ==== Sys2Proof/Machine/Receive.lean ====
section
/-! DEFINITION. The two port receivers: bytes, the close expiry and the free expiry (R1, R2, R6 to R12). -/

namespace Sys2Proof.Machine

/-- The receiver of a port. -/
def State.rx (s : State) (port : Port) : Receiver :=
  match port with
  | .c => s.cRx
  | .f => s.fRx

/-- Writes the receiver of a port. -/
def State.setRx (s : State) (port : Port) (r : Receiver) : State :=
  match port with
  | .c => { s with cRx := r }
  | .f => { s with fRx := r }

/-- The object index of a port in an ALERT (Table 10-2). -/
def portObject (port : Port) : Byte :=
  match port with
  | .c => 0
  | .f => 1

/-- A FORMAT error is counted under code 3 (R11). -/
def State.formatError (s : State) : State := s.count 3 (unscoped 1)

/-- A CHECK error latches CHECK_ERR with its ALERT and is counted under code 3 (R10). -/
def State.checkError (s : State) (port : Port) : State := (s.deviceEvent .checkErr (portObject port) 0).count 3 (unscoped 1)

/-- The receiver after a frame was abandoned or judged: UNSYNC, empty, the fragment mark clear (R7 (3), (4)). -/
def Receiver.leave (r : Receiver) (counted : Bool) (gap : GapTimer) : Receiver :=
  { r with state := .unsync, buffer := [], fragment := false, counted := counted, gap := gap }

/-- The check register after a byte of the frame being assembled: it takes the header and the payload, not the check (R2). -/
def Receiver.nextCheck (r : Receiver) (b : Byte) : BitVec 16 :=
  match frameLength (r.buffer ++ [b]) with
  | some n => if r.buffer.length + 1 + 2 ≤ n then crcByte r.check b else r.check
  | none => crcByte r.check b

/-- A byte stored in ASSEMBLING; the one that completes the frame moves the receiver to CLOSING (R7 (3), R1). -/
def Receiver.store (r : Receiver) (b : Byte) (gap : GapTimer) : Receiver :=
  let buffer := r.buffer ++ [b]
  { r with
    buffer := buffer
    check := r.nextCheck b
    state := if frameLength buffer = some buffer.length then .closing else .assembling
    gap := gap }

/-- Is a byte that ends now of a frame begun while the part was sending (R12, log 11)? -/
def Receiver.losesByte (r : Receiver) (now : Time) : Bool := r.lostUntil.any fun t => decide (now ≤ t)

/-- A byte of a frame that is lost: the next byte of that frame ends within 2 byte-times (R6, R7 (3), log 11). -/
def Receiver.lostByte (r : Receiver) (now byteTime : Time) : Receiver := { r with lostUntil := some (now + 2 * byteTime) }

/-- A byte discarded in UNSYNC (R7 (1)): it sets the fragment mark, but for one that is counted with an earlier error and one of a
frame lost without a count (R12, R43). -/
def Receiver.discard (r : Receiver) (now byteTime : Time) : Receiver :=
  if r.losesByte now then r.lostByte now byteTime else { r with fragment := r.fragment || !r.counted }

/-- A byte whose end comes now reaches a receiver (R7). -/
def State.takeByte (s : State) (port : Port) (b : Byte) : State :=
  let r := s.rx port
  let gap := GapTimer.running s.now false
  match r.state with
  | .unsync => s.setRx port { r.discard s.now (s.byteTime port) with gap := gap }
  | .ready =>
    s.setRx port { r with state := .assembling, buffer := [b], check := crcByte 0xFFFF#16 b, gap := gap }
  | .assembling => s.setRx port (r.store b gap)
  | .closing => (s.setRx port (r.leave true gap)).formatError

/-- A byte at a port (R7, R12): the F-port takes none while the part sends there, and its frame is lost. -/
def State.receiveByte (s : State) (port : Port) (b : Byte) : State :=
  match port with
  | .c => s.takeByte .c b
  | .f => if s.fSending then s.setRx .f (s.fRx.lostByte s.now (s.byteTime .f)) else s.takeByte .f b

/-- A complete frame is judged at the close expiry: the check, then the destination (R9). -/
def State.judge (s : State) (port : Port) (r : Receiver) : State :=
  if r.check ≠ receivedCheck r.buffer then s.checkError port
  else
    let f := Frame.ofBuffer r.buffer
    if f.dest = 0 then s.formatError else s.goodFrame port f

/-- The close expiry, at `t`, of a gap timer whose last byte ended at `last` (R7, R9). -/
def State.closeAt (s : State) (port : Port) (last t : Time) : State :=
  let s := s.reach t
  let r := s.rx port
  let gap := GapTimer.running last true
  match r.state with
  | .unsync | .ready => s.setRx port { r with gap := gap }
  | .assembling => (s.setRx port (r.leave true gap)).formatError
  | .closing => (s.setRx port (r.leave false gap)).judge port r

/-- The close expiry of a port (R6). -/
def State.closeExpiry (s : State) (port : Port) : State :=
  match (s.rx port).gap with
  | .running last false => s.closeAt port last (last + 2 * s.byteTime port)
  | .running _ true | .stopped => s

/-- The free expiry, at `t`: UNSYNC becomes READY, and a set fragment mark is counted as one FORMAT error (R7 (1)). -/
def State.freeAt (s : State) (port : Port) (t : Time) : State :=
  let s := s.reach t
  let r := s.rx port
  let free := { r with gap := .stopped, counted := false, fragment := false, lostUntil := none,
                       state := if r.state = .unsync then .ready else r.state }
  let ready := s.setRx port free
  if r.state = .unsync ∧ r.fragment then ready.formatError else ready

/-- The free expiry of a port (R6); it comes after the close expiry (log 26). -/
def State.freeExpiry (s : State) (port : Port) : State :=
  match (s.rx port).gap with
  | .running last true => s.freeAt port (last + 4 * s.byteTime port)
  | .running _ false | .stopped => s

end Sys2Proof.Machine
end

