-- ==== Sys2Proof/Machine/Transmit.lean ====
section
/-! DEFINITION. The two transmitters, the reply window and the one-second timer (R35, R39, R41 to R47, R96, R165). -/

namespace Sys2Proof.Machine

/-! ### F-port transmitter -/

/-- The frame of a picked entry, and the own POLL it is (R35, R135). -/
def State.compose (s : State) (e : FEntry) : Frame × Option OwnPoll :=
  match e with
  | .passThrough f => (f, none)
  | .level g l _ => (s.levelFrame g l, none)
  | .poll d o => (s.pollFrame d, some { driver := d, origin := o })

/-- The pick of an own LEVEL clears the pending mark of its group (R34, R35). -/
def State.clearPending (s : State) (e : FEntry) : State :=
  match e with
  | .level g _ _ => { s with groups := updAt s.groups g fun r => { r with pendingMark := false } }
  | .passThrough _ | .poll _ _ => s

/-- An entry leaves the F queue, `rest` still waiting, and its frame is sent (R35, R43). -/
def State.startF (s : State) (e : FEntry) (rest : List FEntry) : State :=
  let (frame, own) := s.compose e
  ({ s with fQueue := rest, fTx := .sending frame own }.clearPending e).count 13 (unscoped rest.length)

/-- The F-port transmitter asks for an entry (R43): IDLE, the receiver in READY, the queue not empty. -/
def State.pickF (s : State) : State :=
  match s.fTx, s.fRx.state, pickLowest FEntry.priority s.fQueue with
  | .idle, .ready, some (e, rest) => s.startF e rest
  | _, _, _ => s

/-- Scope of a window (R44). -/
def windowScope (polled : Byte) : WindowScope :=
  if 1 ≤ polled.toNat ∧ polled.toNat ≤ 199 then .individual else .group

/-- The window record of a POLL (R44). -/
def Window.ofPoll (f : Frame) (own : Option OwnPoll) : Window :=
  { polled := f.dest, scope := windowScope f.dest, owner := own.map (·.driver), origin := own.map (·.origin) }

/-- The F-port receiver when the transmitter leaves SENDING (R12). A byte that ends less than one byte-time later was begun before
(log 11). -/
def Receiver.afterSending (r : Receiver) (now byteTime : Time) : Receiver :=
  { r with
    state := .unsync
    buffer := []
    fragment := false
    counted := false
    lostUntil := some (max (r.lostUntil.getD 0) (now + byteTime - 1))
    gap := .running now false }

/-- The last byte of an F-port frame has been sent (R44, R12). -/
def State.sentF (s : State) : State :=
  match s.fTx with
  | .sending f own =>
    { s with
      fRx := s.fRx.afterSending s.now (s.byteTime .f)
      fTx := if f.cls = clsPoll then .awaitReply (.ofPoll f own) (s.now + s.device.replyWindow * msTicks) else .idle }
  | .idle | .awaitReply _ _ => s

/-- The miss of a window that expired (R45, R46): charged in RUNNING to the owner of an own POLL. -/
def State.missWindow (s : State) (w : Window) : State :=
  match s.mode, w.scope, w.owner, w.origin with
  | .running, .individual, some d, some o => s.chargeMiss d o
  | _, _, _, _ => s

/-- The running out of the reply window (R45, R46): IDLE, the miss, and then a rescan moves on (R137, R138). -/
def State.windowExpiry (s : State) : State :=
  match s.fTx with
  | .awaitReply w ends => (({ s.reach ends with fTx := .idle }).missWindow w).afterWindow w
  | .idle | .sending _ _ => s

/-! ### C-port transmitter -/

/-- Guard time of the C-port: 4 byte-times (R42). -/
def State.guardTime (s : State) : Time := 4 * s.byteTime .c

/-- An entry leaves the C queue, the freed place goes to a waiting response, and its frame is sent (R39, R41, R42). -/
def State.startC (s : State) (e : CEntry) (rest : List CEntry) : State :=
  { s with cQueue := rest, cTx := .sending e }.placeWaiting

/-- The C-port transmitter asks for a frame (R42): IDLE, its guard time run out, the queue not empty. -/
def State.pickC (s : State) : State :=
  match s.cTx, pickLowest CEntry.priority s.cQueue with
  | .idle guardEnd, some (e, rest) => if guardEnd ≤ s.now then s.startC e rest else s
  | _, _ => s

/-- The last byte of a C-port frame has been sent (R42); RESTART takes effect at the notice of its own response (R158). -/
def State.sentC (s : State) : State :=
  match s.cTx with
  | .sending e =>
    let t := { s with cTx := .idle (s.now + s.guardTime) }
    match e.kind with
    | .response true => t.restartNow
    | .response false | .alert | .passThrough => t
  | .idle _ => s

/-! ### The one-second timer (R96, R165) -/

/-- Burn accounting of one group (R96). -/
def Group.burn (g : Group) : Group :=
  match g.used, g.owner with
  | true, .part =>
    if 60000 ≤ g.burnSub + g.sent then
      { g with burnSub := g.burnSub + g.sent - 60000, burnMinutes := min 4294967295 (g.burnMinutes + 1) }
    else { g with burnSub := g.burnSub + g.sent }
  | _, _ => g

/-- Is a portal within a counter's scope (R165)? -/
def CounterScope.covers (sc : CounterScope) (p : Fin 4) : Bool :=
  match sc with
  | .all => true
  | .portal q => q == p

/-- The used zones of a scope in DEFICIT (R165, code 8). -/
def State.zonesInDeficit (s : State) (sc : CounterScope) : Nat :=
  ((List.finRange 32).filter fun z => s.zones[z].used && s.zones[z].deficit && sc.covers s.zones[z].portal).length

/-- The regulating portals of a scope in FALLBACK or HOLD (R165, code 9). -/
def State.portalsNotTracking (s : State) (sc : CounterScope) : Nat :=
  ((List.finRange 4).filter fun p => s.regulating p && s.portals[p].state != .tracking && sc.covers p).length

/-- The running out of the one-second timer (R96, R165). That code 8 is counted before code 9 is the model's choice (log 27). -/
def State.secondExpiry (s : State) : State :=
  let t := s.reach s.secondTimer
  let burnt := { t with secondTimer := t.now + secTicks, groups := updAll t.groups fun _ g => g.burn }
  (burnt.count 8 t.zonesInDeficit).count 9 t.portalsNotTracking

end Sys2Proof.Machine
end

