-- ==== Sys2Proof/Machine/Commands.lean ====
section
/-! DEFINITION. The meaning of each command, one definition each. Outside POWER_ON, POWER_LOSS, RESET_ASSERT and PIN_RESET a command
acts only on a part that is supplied and out of reset (R169), and an event that cannot come in the state changes nothing but the
time (log 3). -/

namespace Sys2Proof.Machine

/-- What a step answers. -/
abbrev Answer : Type := Host.Outcome State Fault Refusal

/-- A command that takes effect only on a part that is supplied and out of reset (R169). -/
def State.whenLive (s : State) (act : State → State) : Answer := .next (if s.live then act s else s)

/-! ### Supply and pins (R169) -/

/-- POWER_ON: the power-on values of every block, the pins read, the relay driven. While RESET is held low the part stays in
reset (log 6). -/
def execPowerOn (addr : BitVec 4) (rate : BitVec 2) (s : State) : Answer :=
  .next (if s.resetLow then { s with supply := true } else { State.powerOn addr rate with pending := s.pending })

/-- POWER_LOSS: the relay undriven, all state lost (log 6). -/
def execPowerLoss (s : State) : Answer :=
  .next { State.powerOn 0 0 with supply := false, relayDriven := false, resetLow := s.resetLow, pending := s.pending }

/-- RESET_ASSERT: the relay undriven while RESET is held low (log 6). -/
def execResetAssert (s : State) : Answer := .next { s with resetLow := true, relayDriven := false }

/-- PIN_RESET: the release of RESET (log 7); without supply the pin is released and nothing else comes about. -/
def execPinReset (addr : BitVec 4) (rate : BitVec 2) (s : State) : Answer :=
  .next (if s.supply then { State.powerOn addr rate with pending := s.pending } else { s with resetLow := false })

/-! ### Port reception -/

/-- RECEIVE_BYTE (R7). -/
def execReceiveByte (dt : Nat) (port : Port) (b : Byte) (s : State) : Answer :=
  s.whenLive fun s => (s.elapse dt).receiveByte port b

/-- CLOSE_EXPIRY (R9). -/
def execCloseExpiry (port : Port) (s : State) : Answer := s.whenLive (·.closeExpiry port)

/-- FREE_EXPIRY (R7). -/
def execFreeExpiry (port : Port) (s : State) : Answer := s.whenLive (·.freeExpiry port)

/-! ### Daylight -/

/-- AGE_TIMER_EXPIRY (R61). -/
def execAgeTimerExpiry (sensor : Fin 8) (s : State) : Answer := s.whenLive (·.ageExpiry sensor)

/-- PULSE_EDGE (R66). -/
def execPulseEdge (dt : Nat) (input : Fin 4) (s : State) : Answer := s.whenLive fun s => (s.elapse dt).pulseEdge input

/-- GATE_EXPIRY (R67 to R69). -/
def execGateExpiry (input : Fin 4) (s : State) : Answer := s.whenLive (·.gateExpiry input)

/-! ### Regulation -/

/-- PASS_TIMER_EXPIRY (R79). -/
def execPassTimerExpiry (portal : Fin 4) (s : State) : Answer := s.whenLive (·.passExpiry portal)

/-- HOLD_TIMER_EXPIRY (R86). -/
def execHoldTimerExpiry (portal : Fin 4) (s : State) : Answer := s.whenLive (·.holdExpiry portal)

/-- RAMP_TIMER_EXPIRY (R115). -/
def execRampTimerExpiry (portal : Fin 4) (s : State) : Answer := s.whenLive (·.rampExpiry portal)

/-! ### Transmitters and poller -/

/-- F_PICK (R43). -/
def execFPick (dt : Nat) (s : State) : Answer := s.whenLive fun s => (s.elapse dt).pickF

/-- F_SEND_COMPLETE (R44). -/
def execFSendComplete (dt : Nat) (s : State) : Answer := s.whenLive fun s => (s.elapse dt).sentF

/-- REPLY_WINDOW_EXPIRY (R45, R46). -/
def execReplyWindowExpiry (s : State) : Answer := s.whenLive (·.windowExpiry)

/-- POLL_TIMER_EXPIRY (R134). -/
def execPollTimerExpiry (s : State) : Answer := s.whenLive (·.pollExpiry)

/-- C_PICK (R42). -/
def execCPick (dt : Nat) (s : State) : Answer := s.whenLive fun s => (s.elapse dt).pickC

/-- C_SEND_COMPLETE (R42). -/
def execCSendComplete (dt : Nat) (s : State) : Answer := s.whenLive fun s => (s.elapse dt).sentC

/-- ONE_SECOND_EXPIRY (R96, R165). -/
def execOneSecondExpiry (s : State) : Answer := s.whenLive (·.secondExpiry)

/-! ### Management requests -/

/-- The MREQ frame that carries a payload to the part (Table 11-3). -/
def State.requestFrame (s : State) (src : Byte) (payload : List Byte) : Frame :=
  { dest := s.ownAddress, src := src, cls := clsMreq, payload := payload }

/-- A request is handed to the engine (R144, log 4). -/
def State.request (s : State) (dt : Nat) (src : Byte) (payload : List Byte) : Answer :=
  s.whenLive fun s => (s.elapse dt).handRequest (s.requestFrame src payload)

/-- A request of one code with its operands (Table 11-5). -/
def State.coded (s : State) (h : ReqHead) (code : Byte) (operands : List Byte) : Answer :=
  s.request h.dt h.src (h.tag :: code :: operands)

/-- A SET of one field (Table 11-5). -/
def State.setField (s : State) (h : ReqHead) (table row field : Byte) (v : Word) : Answer :=
  s.coded h 2 ([table, row, field] ++ wordBytes v)

/-- GET (R148). -/
def execGet (h : ReqHead) (operands : List Byte) (s : State) : Answer := s.coded h 1 operands

/-- SET (R149). -/
def execSet (h : ReqHead) (operands : List Byte) (s : State) : Answer := s.coded h 2 operands

/-- SET_ACCEPT_FIELD (R32). -/
def execSetAcceptField (h : ReqHead) (row field : Byte) (value : Word) (s : State) : Answer := s.setField h 1 row field value

/-- Field identifiers of the structural fields of a sensor (Table 11-10). -/
def sensorStructuralId (f : SensorStructural) : Byte :=
  match f with
  | .used => 0
  | .source => 1

/-- SET_SENSOR_STRUCTURAL (R52). -/
def execSetSensorStructural (h : ReqHead) (row : Byte) (field : SensorStructural) (value : Word) (s : State) : Answer :=
  s.setField h 2 row (sensorStructuralId field) value

/-- SET_PULSE_ENABLE (R65). -/
def execSetPulseEnable (h : ReqHead) (row : Byte) (value : Word) (s : State) : Answer := s.setField h 3 row 0 value

/-- Field identifiers of the structural fields of a portal (Table 11-10). -/
def portalStructuralId (f : PortalStructural) : Byte :=
  match f with
  | .used => 0
  | .bore => 1
  | .mainSensor => 2
  | .reserveSensor => 3

/-- SET_PORTAL_STRUCTURAL (R74). -/
def execSetPortalStructural (h : ReqHead) (row : Byte) (field : PortalStructural) (value : Word) (s : State) : Answer :=
  s.setField h 4 row (portalStructuralId field) value

/-- Field identifiers of the structural fields of a zone (Table 11-10). -/
def zoneStructuralId (f : ZoneStructural) : Byte :=
  match f with
  | .used => 0
  | .portal => 1
  | .position => 2
  | .stageList => 3
  | .reserveGroup => 4

/-- SET_ZONE_STRUCTURAL (R92). -/
def execSetZoneStructural (h : ReqHead) (row : Byte) (field : ZoneStructural) (value : Word) (s : State) : Answer :=
  s.setField h 6 row (zoneStructuralId field) value

/-- SET_ZONE_RATIO (R93). -/
def execSetZoneRatio (h : ReqHead) (row : Byte) (value : Word) (s : State) : Answer := s.setField h 6 row 5 value

/-- Field identifiers of the structural fields of a group (Table 11-10). -/
def groupStructuralId (f : GroupStructural) : Byte :=
  match f with
  | .used => 0
  | .groupAddress => 1

/-- SET_GROUP_STRUCTURAL (R94). -/
def execSetGroupStructural (h : ReqHead) (row : Byte) (field : GroupStructural) (value : Word) (s : State) : Answer :=
  s.setField h 7 row (groupStructuralId field) value

/-- SET_BURN_HOURS (R97). -/
def execSetBurnHours (h : ReqHead) (row : Byte) (value : Word) (s : State) : Answer := s.setField h 7 row 7 value

/-- SET_GROUP_OWNER (R121). -/
def execSetGroupOwner (h : ReqHead) (row : Byte) (value : Word) (s : State) : Answer := s.setField h 7 row 4 value

/-- Field identifiers of the structural fields of a driver (Table 11-10). -/
def driverStructuralId (f : DriverStructural) : Byte :=
  match f with
  | .used => 0
  | .lineAddress => 1
  | .group => 2

/-- SET_DRIVER_STRUCTURAL (R131). -/
def execSetDriverStructural (h : ReqHead) (row : Byte) (field : DriverStructural) (value : Word) (s : State) : Answer :=
  s.setField h 8 row (driverStructuralId field) value

/-- Field identifiers of the owner fields (Table 11-10). -/
def ownerFieldId (f : OwnerField) : Byte :=
  match f with
  | .control => 5
  | .maintenance => 6

/-- SET_OWNER_ADDRESS (R150). -/
def execSetOwnerAddress (h : ReqHead) (field : OwnerField) (value : Word) (s : State) : Answer :=
  s.setField h 0 0 (ownerFieldId field) value

/-- ACTIVATE (R152). -/
def execActivate (h : ReqHead) (s : State) : Answer := s.coded h 3 []

/-- DEACTIVATE (R155). -/
def execDeactivate (h : ReqHead) (s : State) : Answer := s.coded h 4 []

/-- STANDBY (R90). -/
def execStandby (h : ReqHead) (operands : List Byte) (s : State) : Answer := s.coded h 5 operands

/-- RESUME (R89). -/
def execResume (h : ReqHead) (operands : List Byte) (s : State) : Answer := s.coded h 6 operands

/-- FORCE (R123). -/
def execForce (h : ReqHead) (operands : List Byte) (s : State) : Answer := s.coded h 7 operands

/-- RELEASE (R127). -/
def execRelease (h : ReqHead) (operands : List Byte) (s : State) : Answer := s.coded h 8 operands

/-- RESCAN (R136). -/
def execRescan (h : ReqHead) (s : State) : Answer := s.coded h 9 []

/-- CLEAR_FLAGS (R157). -/
def execClearFlags (h : ReqHead) (operands : List Byte) (s : State) : Answer := s.coded h 10 operands

/-- READ_COUNTER (R157). -/
def execReadCounter (h : ReqHead) (operands : List Byte) (s : State) : Answer := s.coded h 11 operands

/-- RESTART (R158). -/
def execRestart (h : ReqHead) (s : State) : Answer := s.coded h 12 []

/-- UNKNOWN_REQUEST (R146 (1), (2)). -/
def execUnknownRequest (dt : Nat) (src : Byte) (payload : List Byte) (s : State) : Answer := s.request dt src payload

end Sys2Proof.Machine
end

