-- ==== Sys2Proof/Machine/Dispatch.lean ====
section
/-! DEFINITION. The command table: one arm per command. -/

namespace Sys2Proof.Machine

def exec (i : Instr) (s : State) : Host.Outcome State Fault Refusal :=
  match i with
  | .powerOn addr rate => Sys2Proof.Machine.execPowerOn addr rate s
  | .powerLoss => Sys2Proof.Machine.execPowerLoss s
  | .resetAssert => Sys2Proof.Machine.execResetAssert s
  | .pinReset addr rate => Sys2Proof.Machine.execPinReset addr rate s
  | .receiveByte dt port b => Sys2Proof.Machine.execReceiveByte dt port b s
  | .closeExpiry port => Sys2Proof.Machine.execCloseExpiry port s
  | .freeExpiry port => Sys2Proof.Machine.execFreeExpiry port s
  | .ageTimerExpiry sensor => Sys2Proof.Machine.execAgeTimerExpiry sensor s
  | .pulseEdge dt input => Sys2Proof.Machine.execPulseEdge dt input s
  | .gateExpiry input => Sys2Proof.Machine.execGateExpiry input s
  | .passTimerExpiry portal => Sys2Proof.Machine.execPassTimerExpiry portal s
  | .holdTimerExpiry portal => Sys2Proof.Machine.execHoldTimerExpiry portal s
  | .rampTimerExpiry portal => Sys2Proof.Machine.execRampTimerExpiry portal s
  | .fPick dt => Sys2Proof.Machine.execFPick dt s
  | .fSendComplete dt => Sys2Proof.Machine.execFSendComplete dt s
  | .replyWindowExpiry => Sys2Proof.Machine.execReplyWindowExpiry s
  | .pollTimerExpiry => Sys2Proof.Machine.execPollTimerExpiry s
  | .cPick dt => Sys2Proof.Machine.execCPick dt s
  | .cSendComplete dt => Sys2Proof.Machine.execCSendComplete dt s
  | .oneSecondExpiry => Sys2Proof.Machine.execOneSecondExpiry s
  | .get h operands => Sys2Proof.Machine.execGet h operands s
  | .set h operands => Sys2Proof.Machine.execSet h operands s
  | .setAcceptField h row field value => Sys2Proof.Machine.execSetAcceptField h row field value s
  | .setSensorStructural h row field value => Sys2Proof.Machine.execSetSensorStructural h row field value s
  | .setPulseEnable h row value => Sys2Proof.Machine.execSetPulseEnable h row value s
  | .setPortalStructural h row field value => Sys2Proof.Machine.execSetPortalStructural h row field value s
  | .setZoneStructural h row field value => Sys2Proof.Machine.execSetZoneStructural h row field value s
  | .setZoneRatio h row value => Sys2Proof.Machine.execSetZoneRatio h row value s
  | .setGroupStructural h row field value => Sys2Proof.Machine.execSetGroupStructural h row field value s
  | .setBurnHours h row value => Sys2Proof.Machine.execSetBurnHours h row value s
  | .setGroupOwner h row value => Sys2Proof.Machine.execSetGroupOwner h row value s
  | .setDriverStructural h row field value => Sys2Proof.Machine.execSetDriverStructural h row field value s
  | .setOwnerAddress h field value => Sys2Proof.Machine.execSetOwnerAddress h field value s
  | .activate h => Sys2Proof.Machine.execActivate h s
  | .deactivate h => Sys2Proof.Machine.execDeactivate h s
  | .standby h operands => Sys2Proof.Machine.execStandby h operands s
  | .resume h operands => Sys2Proof.Machine.execResume h operands s
  | .force h operands => Sys2Proof.Machine.execForce h operands s
  | .release h operands => Sys2Proof.Machine.execRelease h operands s
  | .rescan h => Sys2Proof.Machine.execRescan h s
  | .clearFlags h operands => Sys2Proof.Machine.execClearFlags h operands s
  | .readCounter h operands => Sys2Proof.Machine.execReadCounter h operands s
  | .restart h => Sys2Proof.Machine.execRestart h s
  | .unknownRequest dt src payload => Sys2Proof.Machine.execUnknownRequest dt src payload s

end Sys2Proof.Machine
end

