-- ==== Sys2Proof/Machine/Step.lean ====
section
/-! DEFINITION. One step: the oldest waiting command is taken and has its effect; with none waiting the part idles (log 2). -/

namespace Sys2Proof.Machine

/-- The step of the part. -/
def step (s : State) : Host.Outcome State Fault Refusal :=
  match s.pending with
  | [] => .next s
  | c :: rest => exec c { s with pending := rest }

/-- The state with the command a table word spells put in front of its queue; no row of the table gives bits. -/
def State.withFetchWord (s : State) (nbits w : Nat) : State :=
  match decodeTableWord nbits w with
  | some c => { s with pending := c :: s.pending }
  | none => s

end Sys2Proof.Machine
end

