-- ==== Sys2Proof/Safety.lean ====
section
/-! DEFINITION. The words in which the statements about the part are made: what a command may touch, ALERTs, offers and selections, when
the engine answers at once, reports of the consistency check, and the laws that every step keeps. -/

namespace Sys2Proof.Machine

/-! ### What a command may touch

Each of these wipes the named fields; two states that agree after the wiping agree in every other field. -/

/-- Wipes what counting and alerting write: the counters, the device flags and the C queue. -/
def State.exceptReport (s : State) : State :=
  { s with counters := Vector.replicate 8 Counter.reset, deviceFlags := 0, cQueue := [] }

/-- Wipes what sensing writes: sensors, pulse inputs, portal flags and the report. -/
def State.exceptSensing (s : State) : State :=
  { s.exceptReport with
    sensors := Vector.replicate 8 Sensor.reset
    pulses := Vector.replicate 4 PulseInput.reset
    portalFlags := Vector.replicate 4 0 }

/-- Wipes what regulation writes: portals, zones, groups, the F queue, portal flags and the report. -/
def State.exceptRegulation (s : State) : State :=
  { s.exceptReport with
    portals := Vector.replicate 4 Portal.reset
    zones := Vector.replicate 32 Zone.reset
    groups := Vector.replicate 48 Group.reset
    fQueue := []
    portalFlags := Vector.replicate 4 0 }

/-- Wipes what the poller writes: drivers, group marks, the F queue, the poll timer, cursor and rescan, portal flags and the
report. -/
def State.exceptPolling (s : State) : State :=
  { s.exceptReport with
    drivers := Vector.replicate 160 Driver.reset
    groups := Vector.replicate 48 Group.reset
    fQueue := []
    pollTimer := none
    cursor := 0
    rescan := .none
    rescanPosition := 0
    scanOrphan := false
    portalFlags := Vector.replicate 4 0 }

/-! ### ALERTs, offers and selections -/

/-- The C queue entry of an ALERT (R162, Table 11-3): to the control owner, or to 255 when that is 0. -/
def State.alertEntry (s : State) (event object : Byte) (value : Nat) : CEntry :=
  { kind := .alert
    frame := { dest := if s.device.controlOwner = 0 then 255 else s.device.controlOwner, src := s.ownAddress, cls := clsAlert,
               payload := [event, object, hiByte value, loByte value] } }

/-- With its enable at yes, an ALERT joined the C queue on the way from `s` to `t`, unless that queue came to be full (R40, R162, R163). -/
def State.alerted (s t : State) (enable : Bool) (event object : Byte) (value : Nat) : Prop :=
  enable = true → s.alertEntry event object value ∈ t.cQueue.drop s.cQueue.length ∨ 16 ≤ t.cQueue.length

/-- The ALERTs of one portal in a command: those listed, each an event and its value, joined the C queue behind what stood there, and
none but they of the events SENSOR_LOST, FALLBACK_ENTERED, DISAGREE and TRACKING of that portal (R162). -/
def State.portalAlerts (s t : State) (p : Fin 4) (alerts : List (Byte × Nat)) : Prop :=
  s.cQueue <+: t.cQueue
    ∧ (∀ a ∈ alerts, s.alerted t s.device.portalAlert[p] a.1 (BitVec.ofNat 8 p.val) a.2)
    ∧ ∀ event ∈ [(16 : Byte), 17, 18, 22], (∀ a ∈ alerts, a.1 ≠ event) →
        ∀ x ∈ t.cQueue.drop s.cQueue.length, x.frame.payload.take 2 ≠ [event, BitVec.ofNat 8 p.val]

/-- What the offer of an own LEVEL at `now` came to, on the way from `s` to `t` (R36, R118): accepted, the group's one entry carries it,
of kind FIRE where the offer or the entry it was folded into is; or refused at a full F queue. -/
def State.levelOffered (s t : State) (g : Fin 48) (level : Nat) (kind : LevelKind) (now : Time) : Prop :=
  let old := s.groups[g]
  let new := t.groups[g]
  (new.sent = level ∧ new.refreshFrom = now ∧ new.due = false ∧ new.pendingMark = true
      ∧ ∃ k, FEntry.level g level k ∈ t.fQueue ∧ (k = .fire ↔ kind = .fire ∨ ∃ l, FEntry.level g l .fire ∈ s.fQueue))
    ∨ (new.sent = old.sent ∧ new.refreshFrom = old.refreshFrom ∧ new.due = true ∧ new.pendingMark = false
      ∧ old.pendingMark = false ∧ t.fQueue.length = 32)

/-- No own LEVEL was offered for the group on the way from `s` to `t`. -/
def State.noLevelOffered (s t : State) (g : Fin 48) : Prop :=
  let old := s.groups[g]
  let new := t.groups[g]
  new.sent = old.sent ∧ new.refreshFrom = old.refreshFrom ∧ new.due = old.due ∧ new.pendingMark = old.pendingMark

/-- The on set and the commanded level of `y` are those the selection under AUTO takes zone `z` to (R102 to R107, Table 6-4): an
ineligible reserve is shed and then stages go on; else stages go on; only where none went on does one go off. -/
def Zone.selectedFrom (y z : Zone) (sg : Fin 48 → Nat) (groups : Vector Group 48) (lz : Nat) : Prop :=
  let reaches := fun x : Zone => y.onStages = x.onStages ∧ y.onReserve = x.onReserve ∧ y.dCmd = x.dCmd
  let grown := z.switchOn sg groups y.reserveEligible lz
  if z.onReserve = true ∧ y.reserveEligible = false then reaches ((z.shedReserve sg).switchOn sg groups y.reserveEligible lz)
  else if grown.sameOnSet z = true then reaches (z.switchOff sg lz)
  else reaches grown

/-! ### The engine answering at once -/

/-- Live, no RESTART pending, slot 0 free: a request is placed there and executed (R144, R145). -/
def State.engineFree (s : State) : Prop := s.live = true ∧ s.restartPending = false ∧ s.slot0 = none

/-- The C queue has a place for the response (R41). -/
def State.roomInC (s : State) : Prop := s.cQueue.length < 16

/-- The C queue entry of a response (R145, Table 11-3). -/
def State.responseEntry (s : State) (h : ReqHead) (r : Result) (data : List Byte) (ofRestart : Bool) : CEntry :=
  { kind := .response ofRestart
    frame := { dest := h.src, src := s.ownAddress, cls := clsMrsp, payload := h.tag :: r.code :: data } }

/-- The state after a request was placed and answered, and nothing else came about. -/
def State.answered (s : State) (h : ReqHead) (r : Result) (data : List Byte) : State :=
  { s with now := s.now + h.dt, placed := s.placed + 1, cQueue := s.cQueue ++ [s.responseEntry h r data false] }

/-- The request a command hands to the engine: the time passed, the source, the payload (Tables 11-4, 11-5, 11-10). -/
def requestOf (i : Instr) : Option (Nat × Byte × List Byte) :=
  let coded := fun (h : ReqHead) (code : Byte) (ops : List Byte) => some (h.dt, h.src, h.tag :: code :: ops)
  let setting := fun (h : ReqHead) (table row field : Byte) (v : Word) => coded h 2 ([table, row, field] ++ wordBytes v)
  match i with
  | .get h ops => coded h 1 ops
  | .set h ops => coded h 2 ops
  | .setAcceptField h row field v => setting h 1 row field v
  | .setSensorStructural h row field v => setting h 2 row (sensorStructuralId field) v
  | .setPulseEnable h row v => setting h 3 row 0 v
  | .setPortalStructural h row field v => setting h 4 row (portalStructuralId field) v
  | .setZoneStructural h row field v => setting h 6 row (zoneStructuralId field) v
  | .setZoneRatio h row v => setting h 6 row 5 v
  | .setGroupStructural h row field v => setting h 7 row (groupStructuralId field) v
  | .setBurnHours h row v => setting h 7 row 7 v
  | .setGroupOwner h row v => setting h 7 row 4 v
  | .setDriverStructural h row field v => setting h 8 row (driverStructuralId field) v
  | .setOwnerAddress h field v => setting h 0 0 (ownerFieldId field) v
  | .activate h => coded h 3 []
  | .deactivate h => coded h 4 []
  | .standby h ops => coded h 5 ops
  | .resume h ops => coded h 6 ops
  | .force h ops => coded h 7 ops
  | .release h ops => coded h 8 ops
  | .rescan h => coded h 9 []
  | .clearFlags h ops => coded h 10 ops
  | .readCounter h ops => coded h 11 ops
  | .restart h => coded h 12 []
  | .unknownRequest dt src payload => some (dt, src, payload)
  | .powerOn .. | .powerLoss | .resetAssert | .pinReset .. | .receiveByte .. | .closeExpiry _ | .freeExpiry _
  | .ageTimerExpiry _ | .pulseEdge .. | .gateExpiry _ | .passTimerExpiry _ | .holdTimerExpiry _ | .rampTimerExpiry _
  | .fPick _ | .fSendComplete _ | .replyWindowExpiry | .pollTimerExpiry | .cPick _ | .cSendComplete _
  | .oneSecondExpiry => none

/-- The response `e` is the youngest entry of the C queue, or waits in slot 0 at a full C queue (R41, R145). -/
def State.responded (s : State) (e : CEntry) : Prop :=
  (s.slot0 = none ∧ s.cQueue.getLast? = some e)
    ∨ (16 ≤ s.cQueue.length ∧ (s.slot0.bind (·.response)) = some e)

/-- The four commands that act on a part without supply or in reset (R169). -/
def actsOnSupply (i : Instr) : Bool :=
  match i with
  | .powerOn .. | .powerLoss | .resetAssert | .pinReset .. => true
  | _ => false

/-! ### Reports of the consistency check -/

/-- The lowest index with a property. -/
def lowestWith {n : Nat} (has : Fin n → Prop) (i : Fin n) : Prop := has i ∧ ∀ j, j < i → ¬ has j

/-- No record examined fails, whatever row it would report. -/
def noneFails {n : Nat} (examined : Fin n → Prop) (fails : Fin n → Nat → Prop) : Prop :=
  ∀ i, examined i → ∀ row, ¬ fails i row

/-- The first record examined that fails, in index order, reports the row (R153). -/
def firstReports {n : Nat} (examined : Fin n → Prop) (fails : Fin n → Nat → Prop) (row : Nat) : Prop :=
  ∃ i, lowestWith (fun i => examined i ∧ ∃ r, fails i r) i ∧ fails i row

/-! ### Laws that every step keeps -/

/-- The bytes of an assembly buffer that the check covers: header and payload (R1, R2). -/
def coveredBytes (buffer : List Byte) : List Byte :=
  match buffer[2]? with
  | some h => buffer.take (3 + min (h.toNat % 16) 12)
  | none => buffer

/-- What R7 and R2 say of a receiver: an empty buffer in UNSYNC and READY, an incomplete one in ASSEMBLING, a complete one in CLOSING,
and a check register that holds the check of the header and payload bytes taken. -/
def Receiver.sound (r : Receiver) : Prop :=
  match r.state with
  | .unsync | .ready => r.buffer = []
  | .assembling =>
    r.buffer ≠ [] ∧ (∀ h, r.buffer[2]? = some h → r.buffer.length < 5 + min (h.toNat % 16) 12)
      ∧ r.check = crc (coveredBytes r.buffer)
  | .closing =>
    (∃ h, r.buffer[2]? = some h ∧ r.buffer.length = 5 + min (h.toNat % 16) 12) ∧ r.check = crc (coveredBytes r.buffer)

/-- Both receivers are sound. -/
def State.receiversSound (s : State) : Prop := s.cRx.sound ∧ s.fRx.sound

/-- The relay coil is driven exactly while the part is supplied and out of reset (R169). -/
def State.relayFollows (s : State) : Prop := s.relayDriven = s.live

/-- The queues keep their sizes, and a pending mark stands exactly where the F queue holds the group's one own LEVEL entry (R34,
R39). -/
def State.queuesSound (s : State) : Prop :=
  s.fQueue.length ≤ 32 ∧ s.cQueue.length ≤ 16 ∧
    ∀ g : Fin 48, s.fQueue.countP (·.isLevelOf g) = if s.groups[g].pendingMark then 1 else 0

/-- A request slot is kept only by a response that found the C queue full, or by a pending RESTART (R41, R144, R158). -/
def State.slotsSound (s : State) : Prop :=
  ∀ k : SlotIndex, ∀ r, s.slotAt k = some r →
    if r.response.isSome then s.cQueue.length = 16 else s.restartPending = true

/-- What R54 to R61 say of one sensor record: its history holds at most 5 samples of at most 20,000 cd/m², it is empty but in VALID,
the age timer runs in VALID alone, and the counts and the probation list stand as the state says. -/
def Sensor.sound (r : Sensor) : Prop :=
  (r.state = .unused ↔ r.used = false) ∧ r.history.length ≤ 5
    ∧ (∀ x ∈ r.history ++ r.probation, x.luminance ≤ 20000)
    ∧ (r.state = .valid ↔ r.history ≠ []) ∧ (r.state = .valid ↔ r.ageTimer.isSome = true)
    ∧ (if r.state = .fault then r.rejects = 3 ∧ r.good < 3 ∧ r.probation.length = r.good
      else r.rejects < 3 ∧ r.good = 0 ∧ r.probation = [])

/-- Every sensor record is sound. -/
def State.sensorsSound (s : State) : Prop := ∀ i : Fin 8, s.sensors[i].sound

/-- What R78, R79, R82, R86 and R129 say of one portal record: UNUSED exactly while unused, the pass and ramp timers running
exactly while regulating, the hold timer exactly in HOLD, a last good L_a in TRACKING and HOLD, an override only while regulating. -/
def Portal.sound (r : Portal) : Prop :=
  (r.state = .unused ↔ r.used = false) ∧ r.passTimer.isSome = r.state.regulating ∧ r.rampTimer.isSome = r.state.regulating
    ∧ (r.holdTimer.isSome = true ↔ r.state = .hold)
    ∧ (r.state = .tracking ∨ r.state = .hold → r.lastGoodLa.isSome = true)
    ∧ (r.override.isSome = true → r.state.regulating = true)

/-- The portals are sound; a portal regulates, the poll timer runs and a rescan is in progress only in RUNNING (R78, R134, R136,
R141). -/
def State.regulationSound (s : State) : Prop :=
  (∀ p : Fin 4, s.portals[p].sound)
    ∧ (s.mode = .transparent →
        (∀ p : Fin 4, s.portals[p].state.regulating = false) ∧ s.pollTimer = none ∧ s.rescan = .none)
    ∧ (s.mode = .running → s.pollTimer.isSome = true)

/-- A regulating portal has L_int not above its threshold ceiling (R75). -/
def State.interiorBelowCeiling (s : State) : Prop :=
  ∀ p : Fin 4, s.portals[p].used = true → s.portals[p].state.regulating = true → s.portals[p].interior ≤ s.portals[p].ceiling

/-- Is the level of an own LEVEL entry within 1,000? -/
def FEntry.levelSound (e : FEntry) : Prop :=
  match e with
  | .level _ l _ => l ≤ 1000
  | .passThrough _ | .poll _ _ => True

/-- No commanded level, level target, override level, sent level or queued level is above 1,000 (R34, R115, R122, Tables 6-1 and
6-2); it rests on every dmin being at most 500 (Table 6-2). -/
def State.levelsSound (s : State) : Prop :=
  (∀ g : Fin 48, s.groups[g].dmin ≤ 500 ∧ s.groups[g].sent ≤ 1000)
    ∧ (∀ z : Fin 32, s.zones[z].dCmd ≤ 1000 ∧ (∀ d, s.zones[z].dTarget = some d → d ≤ 1000)
        ∧ ∀ o, s.zones[z].override = some o → o.level ≤ 1000)
    ∧ ∀ e ∈ s.fQueue, e.levelSound

/-- Is a value within a range of a table? -/
def within (lo hi v : Nat) : Prop := lo ≤ v ∧ v ≤ hi

/-- The configuration of one portal is within Table 5-1. -/
def Portal.configSound (r : Portal) : Prop :=
  r.tolerance ≤ 500 ∧ r.fallbackLuminance ≤ 20000 ∧ r.holdTime ≤ 600 ∧ within 10 40000 r.ceiling ∧ within 10 500 r.interior
    ∧ within 1 60 r.passPeriod ∧ within 100 2000 r.rampPeriod ∧ within 1 1000 r.riseStep ∧ within 1 1000 r.fallStep
    ∧ r.deadband ≤ 50 ∧ within 5 300 r.refreshInterval

/-- Every configuration field stays in its range (Tables 4-1, 4-6, 5-1, 6-1, 6-2, 8-1 and 9-6, R76, R168). -/
def State.configSound (s : State) : Prop :=
  (∀ i : Fin 8, within 1 120 s.sensors[i].staleTimeout)
    ∧ (∀ n : Fin 4, s.pulses[n].gateLength ∈ [125, 250, 500, 1000] ∧ within 1 4000 s.pulses[n].scale)
    ∧ (∀ p : Fin 4, s.portals[p].configSound)
    ∧ (∀ i : Fin 128, s.kTable[i] ≤ 2000)
    ∧ (∀ z : Fin 32, within 1 8 s.zones[z].position ∧ s.zones[z].stages.length ≤ 4 ∧ s.zones[z].ratio ≤ 1000
        ∧ s.zones[z].hysteresis ≤ 300)
    ∧ (∀ g : Fin 48, within 200 254 s.groups[g].address.toNat ∧ within 1 20000 s.groups[g].rated ∧ within 1 500 s.groups[g].dmin
        ∧ s.groups[g].depreciation ≤ 500 ∧ within 500 1000 s.groups[g].mfFloor)
    ∧ (∀ d : Fin 160, within 1 183 s.drivers[d].address.toNat)
    ∧ within 50 2000 s.device.pollInterval ∧ within 5 100 s.device.replyWindow ∧ within 1 7 s.device.missLimit

/-- In RUNNING every used group stands in exactly one slot of the used zones, and the used drivers belong to used groups and have
unique line addresses (R150). -/
def State.tablesWhole (s : State) : Prop := s.mode = .running → s.lawBroken = none

end Sys2Proof.Machine
end

