-- ==== Sys2Proof/Certificates/Slice0/Obligations.lean ====
section
/-! DEFINITION. The statements about the part, each a proposition for the provers. A request statement takes a part that is live, has
no RESTART pending and slot 0 free (`engineFree`); such a part executes the request at once (R144, R145). -/

open Sys2Proof Sys2Proof.Machine

/-! ### The step -/

/-- The command at the front of the queue is taken, and has its effect on the state with the queue's rest; with no command waiting the
part idles, which is a choice of the model (log 2). -/
def Obligations.StepTakesOldestCommand : Prop :=
  (∀ (c : Instr) (rest : List Instr) (s : State), step { s with pending := c :: rest } = exec c { s with pending := rest })
    ∧ ∀ s : State, step { s with pending := [] } = .next { s with pending := [] }

/-! ### Supply and pins -/

/-- Supply coming up, or RESET released under supply, with the levels then at the address and rate pins (R169): the values of the
ports and queues (R20, R51), of every table (R33, R71, R91, R113, R129, R142, R171), and of management, poller, flags and counters
(R142, R159, R161, R167, Table 9-6). That a second POWER_ON and a PIN_RESET with RESET not low set them too is the model's choice (log 7),
and three fields are its own (log 11, log 23, log 42). -/
def Obligations.PowerOnValues : Prop :=
  ∀ (i : Instr) (addr : BitVec 4) (rate : BitVec 2) (s : State),
    (i = .powerOn addr rate ∧ s.resetLow = false) ∨ (i = .pinReset addr rate ∧ s.supply = true) →
    ∃ t, exec i s = .next t ∧ t.live = true ∧ t.relayDriven = true ∧ t.pending = s.pending
      ∧ t.ownAddress.toNat = 184 + addr.toNat ∧ t.ratePins = rate
      ∧ (∀ port, (t.rx port).state = .unsync ∧ (t.rx port).buffer = [] ∧ (t.rx port).fragment = false
          ∧ (t.rx port).counted = false ∧ (t.rx port).lostUntil = none ∧ (t.rx port).gap = .running t.now false)
      ∧ t.fTx = .idle ∧ t.cTx = .idle (t.now + 4 * t.byteTime .c) ∧ t.fQueue = [] ∧ t.cQueue = []
      ∧ (∀ g : Fin 48, t.groups[g].pendingMark = false) ∧ t.microClock = 0 ∧ t.secondTimer = t.now + secTicks
      ∧ (∀ e : Fin 16, t.accept[e] = { enable := false, ports := .both, mask := 0, value := 0, action := .pass, sensor := 0,
                                       forward := true, hits := 0 })
      ∧ (∀ e : Fin 8, t.sensors[e] = { used := false, source := .line, staleTimeout := 10, state := .unused, history := [],
                                       rejects := 0, probation := [], good := 0, ageTimer := none })
      ∧ (∀ e : Fin 4, t.pulses[e] = { enable := false, gateLength := 250, scale := 100, count := 0, lastEdge := none,
                                      reference := none, lastSample := none, gate := none, cleared := none, lastTaken := none })
      ∧ (∀ e : Fin 4, t.portals[e] =
          { used := false, bore := 0, mainSensor := 0, reserveSensor := none, tolerance := 150, fallbackLuminance := 20000,
            holdTime := 120, ceiling := 40000, interior := 50, passPeriod := 2, rampPeriod := 500, riseStep := 100,
            fallStep := 5, deadband := 2, refreshInterval := 30, initialSpeed := 7, initialTraffic := 3, state := .unused,
            speed := 7, traffic := 3, la := none, lastGoodLa := none, lth := none, holdTimer := none, passTimer := none,
            rampTimer := none, disagree := false, override := none })
      ∧ (∀ e : Fin 128, t.kTable[e] = 2000)
      ∧ (∀ e : Fin 32, t.zones[e] =
          { used := false, portal := 0, position := 1, stages := [], reserve := none, ratio := 1000, hysteresis := 100,
            lz := none, onStages := Vector.replicate 4 false, onReserve := false, dCmd := 0, dTarget := none,
            deficit := false, deficitAmount := 0, override := none, reserveEligible := false })
      ∧ (∀ e : Fin 48, t.groups[e] =
          { used := false, address := 200, rated := 1000, dmin := 10, owner := .part, depreciation := 0, mfFloor := 800,
            sent := 0, pendingMark := false, due := false, refreshFrom := t.now, burnMinutes := 0, burnSub := 0,
            burnKnown := false, mf := none, sg := none })
      ∧ (∀ e : Fin 160, t.drivers[e] = { used := false, address := 1, group := 0, state := .unused, misses := 0,
                                         lastCondition := none, lastLevel := none })
      ∧ t.mode = .transparent ∧ t.slot0 = none ∧ t.slot1 = none ∧ t.restartPending = false
      ∧ t.device = { controlOwner := 0, maintenanceOwner := 0, rollover := true, pollInterval := 250, replyWindow := 30,
                     missLimit := 3, deviceAlert := true, portalAlert := Vector.replicate 4 true }
      ∧ t.deviceFlags = 0 ∧ (∀ p : Fin 4, t.portalFlags[p] = 0)
      ∧ (∀ c : Fin 8, t.counters[c] = { value := 0, sticky := false, select := 0, scope := .all })
      ∧ t.pollTimer = none ∧ t.cursor = 0 ∧ t.rescan = .none ∧ t.rescanPosition = 0

/-- The relay coil is left undriven while the supply is absent and while RESET is held low, and every step keeps it driven exactly while
the part is supplied and out of reset; otherwise the part takes nothing, since frames pass beside it and are neither received nor
counted (R169). What a part keeps meanwhile is the model's choice (log 6, log 7). -/
def Obligations.RelayFollowsSupplyAndReset : Prop :=
  (∀ s t : State, s.relayFollows → step s = .next t → t.relayFollows)
    ∧ (∀ (i : Instr) (s : State), actsOnSupply i = false → s.live = false → exec i s = .next s)
    ∧ (∀ s : State, ∃ t, exec .powerLoss s = .next t ∧ t.supply = false ∧ t.live = false ∧ t.relayDriven = false)
    ∧ (∀ s : State, exec .resetAssert s = .next { s with resetLow := true, relayDriven := false })
    ∧ (∀ (addr : BitVec 4) (rate : BitVec 2) (s : State), s.resetLow = true →
        exec (.powerOn addr rate) s = .next { s with supply := true })
    ∧ ∀ (addr : BitVec 4) (rate : BitVec 2) (s : State), s.supply = false →
        exec (.pinReset addr rate) s = .next { s with resetLow := false }

/-! ### Port reception -/

/-- A byte at a receiver, in each of its four states (R1, R7, R11). The F-port receiver takes none while the part sends there, and the
frame it is of is lost without a count (R12, R43): a later byte of that frame sets no fragment mark in UNSYNC. By which moment the
model knows such a byte is log 11. In ASSEMBLING the third byte fixes the payload length P, the byte that completes 5 + P bytes moves
the receiver to CLOSING, and the check register takes the header and the payload alone (R2). At every step it holds the check of the
header and payload bytes taken. -/
def Obligations.ByteAtReceiver : Prop :=
  (∀ (dt : Nat) (b : Byte) (s : State), s.fDir = true → s.live = true →
      exec (.receiveByte dt .f b) s
        = .next ((s.elapse dt).setRx .f { s.fRx with lostUntil := some (s.now + dt + 2 * s.byteTime .f) }))
    ∧ (∀ (dt : Nat) (port : Port) (b : Byte) (s : State), s.live = true → (port = .f → s.fDir = false) →
    let t := s.elapse dt
    let r := s.rx port
    let gap := GapTimer.running (s.now + dt) false
    (r.state = .unsync → (∀ m, r.lostUntil = some m → m < s.now + dt) →
        exec (.receiveByte dt port b) s = .next (t.setRx port { r with fragment := r.fragment || !r.counted, gap := gap }))
      ∧ (∀ m, r.state = .unsync → r.lostUntil = some m → s.now + dt ≤ m →
        exec (.receiveByte dt port b) s
          = .next (t.setRx port { r with lostUntil := some (s.now + dt + 2 * s.byteTime port), gap := gap }))
      ∧ (r.state = .ready →
        exec (.receiveByte dt port b) s
          = .next (t.setRx port { r with state := .assembling, buffer := [b], check := crc [b], gap := gap }))
      ∧ (r.state = .assembling →
        ∃ q, exec (.receiveByte dt port b) s = .next (t.setRx port q) ∧ q.buffer = r.buffer ++ [b]
          ∧ q.gap = gap ∧ q.fragment = r.fragment ∧ q.counted = r.counted ∧ q.lostUntil = r.lostUntil
          ∧ ((∀ h, q.buffer[2]? = some h → q.buffer.length ≤ 3 + min (h.toNat % 16) 12) → q.check = crcByte r.check b)
          ∧ (∀ h, q.buffer[2]? = some h → 3 + min (h.toNat % 16) 12 < q.buffer.length → q.check = r.check)
          ∧ (q.state = .assembling ∨ q.state = .closing)
          ∧ (q.state = .closing ↔ ∃ h, q.buffer[2]? = some h ∧ q.buffer.length = 5 + min (h.toNat % 16) 12))
      ∧ (r.state = .closing →
        exec (.receiveByte dt port b) s
          = .next ((t.setRx port { r with state := .unsync, buffer := [], fragment := false, counted := true, gap := gap }).count 3
              (unscoped 1))))
    ∧ ∀ s t : State, s.receiversSound → step s = .next t → t.receiversSound

/-- The close expiry, 2 byte-times after the last byte (R6, R7, R9, R10, R11): nothing in UNSYNC and READY; an incomplete frame is
abandoned as a FORMAT error; a complete one is judged by its check and then its destination, and a good one is dispatched. A CHECK
error latches its flag before it is counted, an order the manual does not give (log 28). The check (R2): a CRC of polynomial 0x1021
from 0xFFFF, each byte from its most significant bit on; a frame sent carries that of its header and payload, high byte first, and read
back it is the same frame. -/
def Obligations.CloseExpiryJudges : Prop :=
  (∀ (port : Port) (last : Time) (s : State), s.live = true → (s.rx port).gap = .running last false →
    let r := s.rx port
    let gap := GapTimer.running last true
    let t := s.reach (last + 2 * s.byteTime port)
    let judged := t.setRx port { r with state := .unsync, buffer := [], fragment := false, counted := false, gap := gap }
    (r.state = .unsync ∨ r.state = .ready → exec (.closeExpiry port) s = .next (t.setRx port { r with gap := gap }))
      ∧ (r.state = .assembling →
        exec (.closeExpiry port) s
          = .next ((t.setRx port { r with state := .unsync, buffer := [], fragment := false, counted := true, gap := gap }).count 3
              (unscoped 1)))
      ∧ (r.state = .closing → r.check ≠ receivedCheck r.buffer →
        exec (.closeExpiry port) s = .next ((judged.deviceEvent .checkErr (portObject port) 0).count 3 (unscoped 1)))
      ∧ (r.state = .closing → r.check = receivedCheck r.buffer → (Frame.ofBuffer r.buffer).dest = 0 →
        exec (.closeExpiry port) s = .next (judged.count 3 (unscoped 1)))
      ∧ (r.state = .closing → r.check = receivedCheck r.buffer → (Frame.ofBuffer r.buffer).dest ≠ 0 →
        exec (.closeExpiry port) s = .next (judged.goodFrame port (Frame.ofBuffer r.buffer))))
    ∧ (crc [] = 0xFFFF#16 ∧ (∀ (bytes : List Byte) (b : Byte), crc (bytes ++ [b]) = crcByte (crc bytes) b)
      ∧ (∀ (c : BitVec 16) (b : Byte), crcByte c b = [7, 6, 5, 4, 3, 2, 1, 0].foldl (init := c) fun (c : BitVec 16) (k : Nat) =>
          if c.msb = b.getLsbD k then c <<< 1 else (c <<< 1) ^^^ 0x1021#16)
      ∧ crc [0x31, 0x32, 0x33, 0x34, 0x35, 0x36, 0x37, 0x38, 0x39] = 0x29B1#16)
    ∧ ∀ f : Frame, f.payload.length ≤ 12 →
      let body := [f.dest, f.src, f.cls ++ BitVec.ofNat 4 f.payload.length] ++ f.payload
      (∃ hi lo : Byte, f.bytes = body ++ [hi, lo] ∧ hi ++ lo = crc body) ∧ receivedCheck f.bytes = crc body
        ∧ Frame.ofBuffer f.bytes = f

/-- The free expiry, 4 byte-times after the last byte (R6, R7 (1)): the gap timer stops, UNSYNC becomes READY, and a set fragment mark
is counted as one FORMAT error. It is taken once the close expiry was (log 26). The mark it clears beside is log 11. -/
def Obligations.FreeExpiryReadies : Prop :=
  ∀ (port : Port) (last : Time) (s : State), s.live = true → (s.rx port).gap = .running last true →
    let r := s.rx port
    let t := s.reach (last + 4 * s.byteTime port)
    let ready := t.setRx port { r with state := .ready, fragment := false, counted := false, lostUntil := none, gap := .stopped }
    (r.state = .unsync → r.fragment = false → exec (.freeExpiry port) s = .next ready)
      ∧ (r.state = .unsync → r.fragment = true → exec (.freeExpiry port) s = .next (ready.count 3 (unscoped 1)))
      ∧ (r.state ≠ .unsync →
        exec (.freeExpiry port) s = .next (t.setRx port { r with fragment := false, counted := false, lostUntil := none, gap := .stopped }))

/-! ### Dispatch -/

/-- A good frame is counted on its port before dispatch (R19), and a good STATUS of the F-port whose source is the polled address of
an individual window ends that window (R12, R45); the rescan moves on only after a window of its own, once the frame is dispatched
(log 17). Step 1 (R13): a C-port MREQ to the own address goes to the management engine; every other frame to the own address is
dropped and counted under code 12. -/
def Obligations.GoodFrameCountedThenDispatched : Prop :=
  (∀ (f : Frame) (s : State), s.goodFrame .c f = (s.count 1 (unscoped 1)).dispatch .c f)
    ∧ (∀ (f : Frame) (s : State),
        (∀ w ends, s.fTx = .awaitReply w ends → f.cls = clsStatus → w.scope = .individual → w.polled ≠ f.src) →
        s.goodFrame .f f = (s.count 2 (unscoped 1)).dispatch .f f)
    ∧ (∀ (f : Frame) (w : Window) (ends : Time) (s : State), s.fTx = .awaitReply w ends → f.cls = clsStatus →
        w.scope = .individual → w.polled = f.src → w.origin ≠ some .scan →
        s.goodFrame .f f = { s.count 2 (unscoped 1) with fTx := .idle }.dispatch .f f)
    ∧ (∀ (f : Frame) (w : Window) (ends : Time) (d : Fin 160) (s : State), s.fTx = .awaitReply w ends → f.cls = clsStatus →
        w.scope = .individual → w.polled = f.src → w.origin = some .scan → w.owner = some d →
        s.goodFrame .f f = ({ s.count 2 (unscoped 1) with fTx := .idle }.dispatch .f f).scanWindowEnded d)
    ∧ ∀ (port : Port) (f : Frame) (s : State), f.dest = s.ownAddress →
        (port = .c ∧ f.cls = clsMreq → s.dispatch port f = s.handRequest f)
          ∧ (¬ (port = .c ∧ f.cls = clsMreq) → s.dispatch port f = s.count 12 (unscoped 1))

/-- The match test (R22, R23): the four compared bytes agree with the entry in every bit whose mask bit is 1. -/
def Obligations.MatchTestsMaskedBits : Prop :=
  ∀ (e : AcceptEntry) (port : Port) (f : Frame),
    (e.fits port f = true ↔
      e.enable = true ∧ e.ports.includes port = true
        ∧ ∀ k : Nat, k < 32 → e.mask.getLsbD k = true → f.compared.getLsbD k = e.value.getLsbD k)
      ∧ f.compared = f.dest ++ f.src ++ (0#4 ++ f.cls) ++ f.payload.headD 0
      ∧ (PortSelector.c.includes port = true ↔ port = .c) ∧ (PortSelector.f.includes port = true ↔ port = .f)
      ∧ PortSelector.both.includes port = true

/-- The deciding entry is the first that fits; its hits rise, and its action settles step 2 (R14, R24 to R26). -/
def Obligations.FirstFittingEntryDecides : Prop :=
  ∀ (port : Port) (f : Frame) (s : State), f.dest ≠ s.ownAddress →
    ((∀ i : Fin 16, s.accept[i].fits port f = false) → s.dispatch port f = s.handleOnward port f)
      ∧ ∀ i : Fin 16, s.accept[i].fits port f = true → (∀ j : Fin 16, j < i → s.accept[j].fits port f = false) →
        let e := s.accept[i]
        let t := { s with accept := updAt s.accept i fun e => { e with hits := e.hits + 1 } }
        (e.action = .drop → s.dispatch port f = t)
          ∧ (e.action = .pass → s.dispatch port f = t.handleOnward port f)
          ∧ (e.action = .sample →
              let u := t.offerCandidate e.sensor (.ofPayload i f.payload)
              s.dispatch port f = if e.forward then u.handleOnward port f else u)
          ∧ (e.action = .traffic →
              let u := t.captureTraffic f.payload
              s.dispatch port f = if e.forward then u.handleOnward port f else u)

/-- A valid traffic report sets the classes of every used portal of its bore; any other is ignored as a whole and counted under code
14 (R29, R30). -/
def Obligations.TrafficReportSetsClasses : Prop :=
  ∀ (payload : List Byte) (s : State),
    (∀ b v t more, payload = b :: v :: t :: more → b.toNat ≤ 1 → v.toNat ≤ 7 → t.toNat ≤ 3 →
      ∃ u, s.captureTraffic payload = u ∧ u = { s with portals := u.portals }
        ∧ ∀ p : Fin 4, ∃ speed : Fin 8, ∃ traffic : Fin 4, speed.val = v.toNat ∧ traffic.val = t.toNat
          ∧ u.portals[p] =
            if s.portals[p].used = true ∧ s.portals[p].bore.val = b.toNat then
              { s.portals[p] with speed := speed, traffic := traffic }
            else s.portals[p])
      ∧ ((∀ b v t more, payload = b :: v :: t :: more → b.toNat ≤ 1 → v.toNat ≤ 7 → ¬ t.toNat ≤ 3) →
        s.captureTraffic payload = s.count 14 (unscoped 1))

/-- Step 3 and step 4 for frames from the C-port (R15, R17): in RUNNING a LEVEL to a group address, a driver address or 255 under
regulation is dropped and counted under code 5; every other frame is offered to the F queue. From the F-port (R16, R17): in RUNNING a
STATUS with at least 3 payload bytes, of a used driver record whose line address is its source, is snooped; every frame is then offered
to the C queue. -/
def Obligations.BuiltInHandlingThenForwarding : Prop :=
  (∀ (f : Frame) (s : State),
    let commanded := fun g : Fin 48 => s.groups[g].used = true ∧ s.groups[g].owner = .part
      ∧ ∃ z : Fin 32, s.zones[z].used = true ∧ g ∈ s.zones[z].standing ∧ s.regulating s.zones[z].portal = true
    let reached := (∃ g : Fin 48, s.groups[g].address = f.dest ∧ commanded g)
      ∨ (∃ d : Fin 160, s.drivers[d].used = true ∧ s.drivers[d].address = f.dest ∧ commanded s.drivers[d].group)
      ∨ (f.dest = 255 ∧ ∃ p : Fin 4, s.regulating p = true)
    (s.mode = .running ∧ f.cls = clsLevel ∧ reached → s.handleOnward .c f = s.count 5 (unscoped 1))
      ∧ (¬ (s.mode = .running ∧ f.cls = clsLevel ∧ reached) → s.handleOnward .c f = s.offerPassF f))
    ∧ (∀ (a : Byte) (s : State),
      (∀ d : Fin 160, s.driverAt a = some d → s.drivers[d].used = true ∧ s.drivers[d].address = a)
        ∧ (s.driverAt a = none ↔ ∀ d : Fin 160, ¬ (s.drivers[d].used = true ∧ s.drivers[d].address = a)))
    ∧ ∀ (f : Frame) (s : State),
    (∀ (d : Fin 160) (c hi lo : Byte) (more : List Byte), s.mode = .running → f.cls = clsStatus → s.driverAt f.src = some d →
        f.payload = c :: hi :: lo :: more → s.handleOnward .f f = (s.snoop d c (hi ++ lo)).offerPassC f)
      ∧ (s.mode = .transparent ∨ f.cls ≠ clsStatus ∨ s.driverAt f.src = none ∨ f.payload.length < 3 →
        s.handleOnward .f f = s.offerPassC f)

/-- A STATUS snooped into a driver record (R132): condition, level, miss count and state. Before that the level is compared with the
sent level of the driver's group, and the due mark set where they disagree beyond the deadband of its regulating portal (R120). A
change into DEGRADED, FAILED or ABSENT latches the DRIVER flag of the portal and offers its ALERT, with the driver and the new state; a
return from one of them to OK offers the ALERT alone (R133, R162). -/
def Obligations.SnoopUpdatesDriver : Prop :=
  ∀ (d : Fin 160) (c : Byte) (level : BitVec 16) (s : State),
    let t := s.snoop d c level
    let g := s.drivers[d].group
    let new := if c = 0 then DriverState.ok else if c = 1 then .degraded else .failed
    let old := s.drivers[d].state
    let wasAiling := old = .degraded ∨ old = .failed ∨ old = .absent
    let alertOf := fun (p : Fin 4) (code : Nat) =>
      t.cQueue = if s.device.portalAlert[p] = true ∧ s.cQueue.length < 16 then
        s.cQueue ++ [s.alertEntry 23 (BitVec.ofNat 8 d.val) code] else s.cQueue
    t.drivers = (updAt s.drivers d fun r =>
        { r with lastCondition := some c, lastLevel := some level, misses := 0, state := new })
      ∧ (∀ (z : Fin 32) (p : Fin 4), s.zones[z].used = true → g ∈ s.zones[z].standing → s.zones[z].portal = p →
          s.regulating p = true → s.slotCount g = 1 →
          let sent := s.groups[g].sent
          t.groups =
            if s.groups[g].used = true ∧ s.groups[g].owner = .part ∧ s.groups[g].pendingMark = false
                ∧ (1000 < level.toNat ∨ s.portals[p].deadband < max level.toNat sent - min level.toNat sent) then
              updAt s.groups g fun r => { r with due := true }
            else s.groups)
      ∧ ((∀ z : Fin 32, s.zones[z].used = true → g ∈ s.zones[z].standing → s.regulating s.zones[z].portal = false) →
          t.groups = s.groups)
      ∧ (∀ p, s.portalOfGroup g = some p → new ≠ .ok → new ≠ s.drivers[d].state → t.portalFlags[p].getLsbD 5 = true)
      ∧ (new = .ok ∨ new = old ∨ s.portalOfGroup g = none → t.portalFlags = s.portalFlags)
      ∧ (∀ p, s.portalOfGroup g = some p →
          (new = .degraded → old ≠ .degraded → alertOf p 3) ∧ (new = .failed → old ≠ .failed → alertOf p 4)
            ∧ (new = .ok → wasAiling → alertOf p 2))
      ∧ (new = old ∨ s.portalOfGroup g = none ∨ (new = .ok ∧ ¬ wasAiling) → t.report = s.report)
      ∧ t.fQueue = s.fQueue ∧ t.pollTimer = s.pollTimer ∧ t.cursor = s.cursor ∧ t.rescan = s.rescan
      ∧ t.rescanPosition = s.rescanPosition ∧ t.exceptPolling = s.exceptPolling

/-- A forwarded frame is added to the queue of the other port, or dropped at a full one with a count under code 4 and Q_DROP (R37,
R40); an own POLL offer is added where there is a place, and at 32 entries it is skipped with no other effect (R38). The drop is
counted before Q_DROP is latched, an order the manual does not give (log 28). -/
def Obligations.PassThroughAndPollOffers : Prop :=
  ∀ (f : Frame) (s : State),
    (s.fQueue.length < 32 → s.offerPassF f = { s with fQueue := s.fQueue ++ [.passThrough f] })
      ∧ (s.fQueue.length = 32 → s.offerPassF f = (s.count 4 (unscoped 1)).deviceEvent .qDrop 1 f.cls.toNat)
      ∧ (s.cQueue.length < 16 → s.offerPassC f = { s with cQueue := s.cQueue ++ [{ kind := .passThrough, frame := f }] })
      ∧ (s.cQueue.length = 16 → s.offerPassC f = (s.count 4 (unscoped 1)).deviceEvent .qDrop 0 f.cls.toNat)
      ∧ ∀ (d : Fin 160) (origin : PollOrigin),
        (s.fQueue.length < 32 → s.offerPoll d origin = { s with fQueue := s.fQueue ++ [.poll d origin] })
          ∧ (s.fQueue.length = 32 → s.offerPoll d origin = s)

/-! ### Queues and transmitters -/

/-- An own LEVEL offer (R36): folded into the group's entry where its pending mark is set, added as a new entry where there is a place,
else refused, with a count under code 15 for the portal of the group's zone. The law of the queues makes the entry of a set mark
unique. -/
def Obligations.OwnLevelOffer : Prop :=
  ∀ (g : Fin 48) (level : Nat) (kind : LevelKind) (s : State), s.queuesSound →
    (s.groups[g].pendingMark = true → ∃ a b l k, s.fQueue = a ++ .level g l k :: b ∧
        s.offerLevel g level kind = { s with
          fQueue := a ++ .level g level (if kind = .fire then .fire else k) :: b
          groups := updAt s.groups g fun r => { r with sent := level, refreshFrom := s.now, due := false } })
      ∧ (s.groups[g].pendingMark = false → s.fQueue.length < 32 →
        s.offerLevel g level kind = { s with
          fQueue := s.fQueue ++ [.level g level kind]
          groups := updAt s.groups g fun r =>
            { r with sent := level, refreshFrom := s.now, due := false, pendingMark := true } })
      ∧ (s.groups[g].pendingMark = false → s.fQueue.length = 32 →
        s.offerLevel g level kind
          = { s with groups := updAt s.groups g fun r => { r with due := true } }.count 15 fun scope =>
              match scope with
              | .all => 1
              | .portal p => if s.portalOfGroup g = some p then 1 else 0)

/-- F_PICK (R35, R43): in IDLE, with the receiver in READY, the oldest entry of the lowest priority number leaves the queue and its
frame is composed and sent; an own LEVEL clears its group's mark; the entries still waiting are added under code 13. -/
def Obligations.FPickSendsFirst : Prop :=
  ∀ (dt : Nat) (a b : List FEntry) (e : FEntry) (s : State), s.live = true → s.fTx = .idle → s.fRx.state = .ready →
    s.fQueue = a ++ e :: b → (∀ x ∈ a, e.priority < x.priority) → (∀ x ∈ b, e.priority ≤ x.priority) →
    let t := { s.elapse dt with fQueue := a ++ b }
    let waiting := unscoped (a ++ b).length
    (∀ f, e = .passThrough f → exec (.fPick dt) s = .next ({ t with fTx := .sending f none }.count 13 waiting))
      ∧ (∀ g level kind, e = .level g level kind →
        exec (.fPick dt) s = .next ({ t with
          fTx := .sending { dest := s.groups[g].address, src := s.ownAddress, cls := clsLevel,
                            payload := [hiByte level, loByte level] } none
          groups := updAt s.groups g fun r => { r with pendingMark := false } }.count 13 waiting))
      ∧ (∀ d origin, e = .poll d origin →
        exec (.fPick dt) s = .next ({ t with
          fTx := .sending { dest := s.drivers[d].address, src := s.ownAddress, cls := clsPoll, payload := [] }
            (some { driver := d, origin := origin }) }.count 13 waiting))

/-- F_SEND_COMPLETE (R12, R44): the receiver starts anew in UNSYNC, a byte then on the line being of a frame that is lost (log 11), and
the transmitter goes to IDLE, or after a POLL opens the window of its destination. -/
def Obligations.FSendCompleteOpensWindow : Prop :=
  ∀ (dt : Nat) (f : Frame) (own : Option OwnPoll) (s : State), s.live = true → s.fTx = .sending f own →
    let t := { s.elapse dt with fRx := { s.fRx with state := .unsync, buffer := [], fragment := false, counted := false,
                                                    lostUntil := some (max (s.fRx.lostUntil.getD 0) (s.now + dt + s.byteTime .f - 1)),
                                                    gap := .running (s.now + dt) false } }
    (f.cls ≠ clsPoll → exec (.fSendComplete dt) s = .next { t with fTx := .idle })
      ∧ (f.cls = clsPoll →
        exec (.fSendComplete dt) s = .next { t with
          fTx := .awaitReply
            { polled := f.dest
              scope := if 1 ≤ f.dest.toNat ∧ f.dest.toNat ≤ 199 then .individual else .group
              owner := own.map (·.driver), origin := own.map (·.origin) }
            (s.now + dt + s.device.replyWindow * msTicks) })

/-- REPLY_WINDOW_EXPIRY (R45, R46, R135): the transmitter goes to IDLE; in RUNNING an individual window of an own ROUND POLL charges
its used driver a miss, counted under code 6, and at the miss limit the driver is ABSENT; every other window but one of a SCAN POLL
charges no one. The window of an own SCAN POLL that expires in RUNNING makes its used driver ABSENT at once, counted under code 6, and
the rescan moves on to the next used driver (R137, R138); a record made unused is charged nothing. The window of a POLL of an abandoned
rescan charges no one in TRANSPARENT (R48, R141), is charged in RUNNING as any other, and moves no rescan on (log 19). Entering ABSENT
latches DRIVER and offers its ALERT, with the driver and the state; the end of the rescan offers RESCAN_DONE with the number of used
drivers in ABSENT (R133, R139, R162). -/
def Obligations.WindowExpiryChargesMiss : Prop :=
  (∀ (w : Window) (ends : Time) (s : State), s.live = true → s.fTx = .awaitReply w ends →
    let t := { s.reach ends with fTx := .idle }
    (w.owner = none ∨ (w.origin ≠ some .scan ∧ (s.mode = .transparent ∨ w.scope = .group)) →
        exec .replyWindowExpiry s = .next t)
      ∧ (∀ d : Fin 160, w.owner = some d → w.origin = some .scan → s.mode = .transparent → s.rescan = .none →
        exec .replyWindowExpiry s = .next { t with scanOrphan := false })
      ∧ ∀ d : Fin 160, w.owner = some d → w.origin = some .round → s.mode = .running → w.scope = .individual →
        (s.drivers[d].used = false → exec .replyWindowExpiry s = .next t)
          ∧ (s.drivers[d].used = true → s.drivers[d].misses + 1 < s.device.missLimit →
            exec .replyWindowExpiry s
              = .next ({ t with drivers := updAt s.drivers d fun r => { r with misses := r.misses + 1 } }.count 6 (unscoped 1)))
          ∧ (s.drivers[d].used = true → s.device.missLimit ≤ s.drivers[d].misses + 1 →
            ∃ u, exec .replyWindowExpiry s = .next u
              ∧ u.drivers = (updAt s.drivers d fun r => { r with misses := s.device.missLimit, state := .absent })
              ∧ (∀ c : Fin 8, s.counters[c].select = 6 → u.counters[c].value = s.counters[c].value + 1)
              ∧ u.fTx = .idle ∧ u.exceptPolling = t.exceptPolling ∧ u.groups = s.groups ∧ u.fQueue = s.fQueue
              ∧ ∀ p, s.portalOfGroup s.drivers[d].group = some p → s.drivers[d].state ≠ .absent →
                u.portalFlags[p].getLsbD 5 = true
                  ∧ s.alerted u s.device.portalAlert[p] 23 (BitVec.ofNat 8 d.val) 5))
    ∧ ∀ (w : Window) (ends : Time) (d : Fin 160) (s : State), s.live = true → s.fTx = .awaitReply w ends → s.mode = .running →
    w.scope = .individual → w.owner = some d → w.origin = some .scan →
    let walks := s.scanOrphan = false ∧ s.rescan = .awaitWindow
    ∃ u, exec .replyWindowExpiry s = .next u ∧ u.fTx = .idle
      ∧ (s.drivers[d].used = true →
          u.drivers = (updAt s.drivers d fun r => { r with misses := s.device.missLimit, state := .absent })
            ∧ (∀ c : Fin 8, s.counters[c].select = 6 → u.counters[c].value = s.counters[c].value + 1)
            ∧ ∀ p, s.portalOfGroup s.drivers[d].group = some p → s.drivers[d].state ≠ .absent →
              u.portalFlags[p].getLsbD 5 = true ∧ s.alerted u s.device.portalAlert[p] 23 (BitVec.ofNat 8 d.val) 5)
      ∧ (s.drivers[d].used = false → u.drivers = s.drivers ∧ u.portalFlags = s.portalFlags
          ∧ ∀ c : Fin 8, s.counters[c].select = 6 → u.counters[c] = s.counters[c])
      ∧ u.exceptPolling = { s.reach ends with fTx := .idle }.exceptPolling
      ∧ u.groups = s.groups ∧ u.pollTimer = s.pollTimer ∧ u.cursor = s.cursor ∧ u.scanOrphan = false
      ∧ (¬ walks → u.rescan = s.rescan ∧ u.rescanPosition = s.rescanPosition ∧ u.fQueue = s.fQueue)
      ∧ (∀ n : Fin 160, walks → d < n → s.drivers[n].used = true → (∀ m : Fin 160, d < m → m < n → s.drivers[m].used = false) →
          s.fQueue.length < 32 →
          u.fQueue = s.fQueue ++ [.poll n .scan] ∧ u.rescan = .awaitWindow ∧ u.rescanPosition = d.val + 1)
      ∧ (walks → (∀ n : Fin 160, d < n → s.drivers[n].used = false) →
          u.rescan = .none ∧ u.rescanPosition = 160 ∧ u.deviceFlags.getLsbD 3 = true
            ∧ ∃ l : List (Fin 160), l.Nodup ∧ (∀ x, x ∈ l ↔ u.drivers[x].used = true ∧ u.drivers[x].state = .absent)
              ∧ s.alerted u s.device.deviceAlert 4 0 l.length)

/-- POLL_TIMER_EXPIRY (R134, R137): the timer restarts with the poll interval; with no rescan a ROUND POLL is offered to the used
driver the cursor finds, upward and around, and the cursor moves past it; while a rescan waits for its window nothing is offered.
The timer restarts as the expiry is taken (log 37). -/
def Obligations.PollTimerOffersRound : Prop :=
  ∀ (e : Time) (s : State), s.live = true → s.pollTimer = some e →
    let t := { s.reach e with pollTimer := some (max s.now e + s.device.pollInterval * msTicks) }
    (s.rescan = .awaitWindow → exec .pollTimerExpiry s = .next t)
      ∧ (s.rescan = .awaitTimer → exec .pollTimerExpiry s = .next t.rescanOffer)
      ∧ (s.rescan = .none → (∀ d : Fin 160, s.drivers[d].used = false) → exec .pollTimerExpiry s = .next t)
      ∧ ∀ d : Fin 160, s.rescan = .none → s.drivers[d].used = true →
        ((s.cursor ≤ d ∧ ∀ m : Fin 160, s.cursor ≤ m → m < d → s.drivers[m].used = false)
          ∨ ((∀ m : Fin 160, s.cursor ≤ m → s.drivers[m].used = false) ∧ ∀ m : Fin 160, m < d → s.drivers[m].used = false)) →
        exec .pollTimerExpiry s = .next { t.offerPoll d .round with cursor := d + 1 }

/-- C_PICK (R39, R41, R42): in IDLE, its guard time run out, the oldest entry of the lowest priority number leaves the queue and is
sent; the freed place goes to the waiting response of the older request. C_SEND_COMPLETE of anything but RESTART's response (R42):
IDLE, with the guard time of 4 byte-times started. -/
def Obligations.CPortSends : Prop :=
  (∀ (dt : Nat) (e : CEntry) (s : State), s.live = true → s.cTx = .sending e → e.kind ≠ .response true →
      exec (.cSendComplete dt) s = .next { s.elapse dt with cTx := .idle (s.now + dt + 4 * 6250) })
    ∧ ∀ (dt guardEnd : Nat) (a b : List CEntry) (e : CEntry) (s : State), s.live = true → s.cTx = .idle guardEnd →
    guardEnd ≤ s.now + dt → s.cQueue = a ++ e :: b → (∀ x ∈ a, e.priority < x.priority) → (∀ x ∈ b, e.priority ≤ x.priority) →
    let t := { s.elapse dt with cTx := .sending e }
    (s.slot0.bind (·.response) = none → s.slot1.bind (·.response) = none →
        exec (.cPick dt) s = .next { t with cQueue := a ++ b })
      ∧ (∀ r w, s.slot0 = some r → r.response = some w →
          (∀ r' : Slot, s.slot1 = some r' → r'.response.isSome = true → r.number < r'.number) →
          exec (.cPick dt) s = .next { t with cQueue := a ++ b ++ [w], slot0 := none })
      ∧ (∀ r w, s.slot1 = some r → r.response = some w →
          (∀ r' : Slot, s.slot0 = some r' → r'.response.isSome = true → r.number < r'.number) →
          exec (.cPick dt) s = .next { t with cQueue := a ++ b ++ [w], slot1 := none })

/-- RESTART takes effect at the notice that its own response has left the C-port (R42, R49, R72, R91, R112, R129, R141, R158). A reply
window then running charges no one, nor does that of a POLL being sent (R49, log 41). That a pulse input keeps the moment of its last
edge is log 23. -/
def Obligations.RestartTakesEffect : Prop :=
  ∀ (dt : Nat) (e : CEntry) (s : State), s.live = true → s.cTx = .sending e → e.kind = .response true →
    ∃ t, exec (.cSendComplete dt) s = .next t
      ∧ t.mode = .transparent ∧ t.slot0 = none ∧ t.slot1 = none ∧ t.fQueue = [] ∧ t.cQueue = [] ∧ t.restartPending = false
      ∧ t.cTx = .idle (s.now + dt + 4 * 6250) ∧ t.deviceFlags = 0 ∧ (∀ p : Fin 4, t.portalFlags[p] = 0)
      ∧ t.pollTimer = none ∧ t.rescan = .none ∧ t.rescanPosition = s.rescanPosition ∧ t.cursor = s.cursor
      ∧ (∀ i : Fin 8, t.sensors[i] =
          if s.sensors[i].used then
            { s.sensors[i] with state := .wait, history := [], probation := [], rejects := 0, good := 0, ageTimer := none }
          else s.sensors[i])
      ∧ (∀ n : Fin 4, t.pulses[n] =
          if s.pulses[n].enable then
            { s.pulses[n] with count := 0, lastEdge := none, reference := none, cleared := none,
                               gate := some { ends := s.now + dt + s.pulses[n].gateLength * msTicks, length := s.pulses[n].gateLength } }
          else s.pulses[n])
      ∧ (∀ d : Fin 160, t.drivers[d] =
          if s.drivers[d].used then { s.drivers[d] with state := .unknown, misses := 0 } else s.drivers[d])
      ∧ (∀ p : Fin 4, t.portals[p] =
          if s.portals[p].used then
            { s.portals[p] with state := .standby, passTimer := none, rampTimer := none, holdTimer := none, override := none,
                                disagree := false, la := none, lth := none, lastGoodLa := none }
          else s.portals[p])
      ∧ (∀ z : Fin 32, t.zones[z] =
          { s.zones[z] with lz := none, dTarget := none, onStages := Vector.replicate 4 false, onReserve := false, dCmd := 0,
                            deficit := false, deficitAmount := 0, override := none, reserveEligible := false })
      ∧ (∀ g : Fin 48, t.groups[g] =
          { s.groups[g] with pendingMark := false, due := false, mf := none, sg := none })
      ∧ t.cRx = s.cRx ∧ t.fRx = s.fRx ∧ t.accept = s.accept ∧ t.kTable = s.kTable ∧ t.counters = s.counters
      ∧ t.device = s.device ∧ t.ownAddress = s.ownAddress ∧ t.relayDriven = s.relayDriven ∧ t.secondTimer = s.secondTimer
      ∧ t.now = s.now + dt
      ∧ (s.fTx = .idle → t.fTx = .idle) ∧ (∀ f own, s.fTx = .sending f own → t.fTx = .sending f none)
      ∧ ∀ w ends, s.fTx = .awaitReply w ends → t.fTx = .awaitReply { w with owner := none, origin := none } ends

/-- ONE_SECOND_EXPIRY (R96, R165): the sent level of every used PART-owned group is added to its sub-accumulator, a full minute is
carried, and counters on codes 8 and 9 add the zones in DEFICIT and the portals in FALLBACK or HOLD of their scope. That code 8 is
counted before code 9 is the model's choice (log 27). The timer restarts as the expiry is taken (log 37). -/
def Obligations.OneSecondAccounts : Prop :=
  ∀ s : State, s.live = true →
    let t := s.reach s.secondTimer
    let burnt := { t with
      secondTimer := max s.now s.secondTimer + secTicks
      groups := updAll s.groups fun _ g =>
        if g.used = true ∧ g.owner = Owner.part then
          if 60000 ≤ g.burnSub + g.sent then
            { g with burnSub := g.burnSub + g.sent - 60000, burnMinutes := min 4294967295 (g.burnMinutes + 1) }
          else { g with burnSub := g.burnSub + g.sent }
        else g }
    let inScope := fun (scope : CounterScope) (p : Fin 4) => scope = .all ∨ scope = .portal p
    ∃ zones portals : CounterScope → Nat, exec .oneSecondExpiry s = .next ((burnt.count 8 zones).count 9 portals)
      ∧ (∀ scope, ∃ l : List (Fin 32), l.Nodup ∧ zones scope = l.length
          ∧ ∀ z, z ∈ l ↔ s.zones[z].used = true ∧ s.zones[z].deficit = true ∧ inScope scope s.zones[z].portal)
      ∧ ∀ scope, ∃ l : List (Fin 4), l.Nodup ∧ portals scope = l.length
          ∧ ∀ p, p ∈ l ↔ s.portals[p].used = true ∧ (s.portals[p].state = .fallback ∨ s.portals[p].state = .hold)
            ∧ inScope scope p

/-! ### Flags, ALERTs and counters -/

/-- A device flag is latched and, with the device alert enable at yes and a place in the C queue, one ALERT is added, to the control
owner or to 255 (R160, R162, R163); with the enable at no only the flag is latched; at a full queue the ALERT is dropped and counted
under code 11 (R40). A portal flag and its ALERT go the same way, under that portal's enable. A counter of code 11 that wraps on the
dropped ALERT latches CNT_OVF, whose own ALERT the full queue drops too: with the device alert enable at yes it then reads 1, its mark
set, and every other counter of code 11 has counted both (R166). -/
def Obligations.FlagLatchesAndAlerts : Prop :=
  let wrapped := fun (s : State) (i : Fin 8) => updAll s.counters fun j c =>
    if c.select = 11 then if j = i then { c with value := 1, sticky := true } else { c with value := c.value + 2 } else c
  (∀ (f : DeviceFlag) (object : Byte) (value : Nat) (s : State),
    let flags := s.deviceFlags ||| BitVec.ofNat 5 (2 ^ f.bit)
    let alert : CEntry :=
      { kind := .alert
        frame := { dest := if s.device.controlOwner = 0 then 255 else s.device.controlOwner, src := s.ownAddress, cls := clsAlert,
                   payload := [f.event, object, hiByte value, loByte value] } }
    (s.device.deviceAlert = false → s.deviceEvent f object value = { s with deviceFlags := flags })
      ∧ (s.device.deviceAlert = true → s.cQueue.length < 16 →
        s.deviceEvent f object value = { s with deviceFlags := flags, cQueue := s.cQueue ++ [alert] })
      ∧ (s.device.deviceAlert = true → s.cQueue.length = 16 → (∀ c : Fin 8, s.counters[c].select = 11 → s.counters[c].value ≠ -1) →
        s.deviceEvent f object value = { s with
          deviceFlags := flags
          counters := updAll s.counters fun _ c => if c.select = 11 then { c with value := c.value + 1 } else c })
      ∧ ∀ i : Fin 8, s.device.deviceAlert = true → s.cQueue.length = 16 → s.counters[i].select = 11 → s.counters[i].value = -1 →
        (∀ c : Fin 8, c ≠ i → s.counters[c].select = 11 → s.counters[c].value.toNat + 2 ≤ 4294967295) →
        s.deviceEvent f object value = { s with deviceFlags := flags ||| 16#5, counters := wrapped s i })
    ∧ ∀ (p : Fin 4) (f : PortalFlag) (object : Byte) (value : Nat) (s : State),
    let flags := updAt s.portalFlags p (· ||| BitVec.ofNat 6 (2 ^ f.bit))
    let alert : CEntry :=
      { kind := .alert
        frame := { dest := if s.device.controlOwner = 0 then 255 else s.device.controlOwner, src := s.ownAddress, cls := clsAlert,
                   payload := [f.event, object, hiByte value, loByte value] } }
    (s.device.portalAlert[p] = false → s.portalEvent p f object value = { s with portalFlags := flags })
      ∧ (s.device.portalAlert[p] = true → s.cQueue.length < 16 →
        s.portalEvent p f object value = { s with portalFlags := flags, cQueue := s.cQueue ++ [alert] })
      ∧ (s.device.portalAlert[p] = true → s.cQueue.length = 16 → (∀ c : Fin 8, s.counters[c].select = 11 → s.counters[c].value ≠ -1) →
        s.portalEvent p f object value = { s with
          portalFlags := flags
          counters := updAll s.counters fun _ c => if c.select = 11 then { c with value := c.value + 1 } else c })
      ∧ ∀ i : Fin 8, s.device.portalAlert[p] = true → s.cQueue.length = 16 → s.counters[i].select = 11 → s.counters[i].value = -1 →
        (∀ c : Fin 8, c ≠ i → s.counters[c].select = 11 → s.counters[c].value.toNat + 2 ≤ 4294967295) →
        (s.device.deviceAlert = true → s.portalEvent p f object value
            = { s with portalFlags := flags, deviceFlags := s.deviceFlags ||| 16#5, counters := wrapped s i })
          ∧ (s.device.deviceAlert = false → s.portalEvent p f object value = { s with
            portalFlags := flags
            deviceFlags := s.deviceFlags ||| 16#5
            counters := updAll s.counters fun j c =>
              if c.select = 11 then { c with value := c.value + 1, sticky := c.sticky || decide (j = i) } else c })

/-- Counting an event (R165, R166): every counter on its code adds the amount of its scope; beyond 4,294,967,295 the value is the sum
less 4,294,967,296, the sticky mark is set, CNT_OVF is latched and its ALERT offered with the counter and its code, or dropped at a full
queue and counted under code 11; no other counter but one on code 11 changes, and nothing but the counters, the device flags and the C
queue does. -/
def Obligations.CountingAddsAndWraps : Prop :=
  ∀ (code : Fin 16) (amount : CounterScope → Nat) (s : State), code ≠ 11 → (∀ scope, amount scope < 4294967296) →
    let t := s.count code amount
    (∀ i : Fin 8, s.counters[i].select = code →
        let c := s.counters[i]
        let sum := c.value.toNat + amount c.scope
        t.counters[i].value.toNat = (if 4294967295 < sum then sum - 4294967296 else sum)
          ∧ t.counters[i].sticky = (c.sticky || decide (4294967295 < sum))
          ∧ t.counters[i].select = c.select ∧ t.counters[i].scope = c.scope
          ∧ (4294967295 < sum → t.deviceFlags.getLsbD 4 = true))
      ∧ (∀ i : Fin 8, s.counters[i].select ≠ code → s.counters[i].select ≠ 11 → t.counters[i] = s.counters[i])
      ∧ ((∀ i : Fin 8, s.counters[i].select = code → s.counters[i].value.toNat + amount s.counters[i].scope ≤ 4294967295) →
          t = { s with counters := updAll s.counters fun _ c =>
            if c.select = code then { c with value := c.value + BitVec.ofNat 32 (amount c.scope) } else c })
      ∧ (∀ i : Fin 8, s.counters[i].select = code → 4294967295 < s.counters[i].value.toNat + amount s.counters[i].scope →
          (∀ j : Fin 8, j ≠ i → s.counters[j].select = code →
            s.counters[j].value.toNat + amount s.counters[j].scope ≤ 4294967295) →
          let flagged := { s with deviceFlags := s.deviceFlags ||| 16#5 }
          let add := fun (j : Fin 8) (c : Counter) =>
            { c with value := c.value + BitVec.ofNat 32 (amount c.scope), sticky := c.sticky || decide (j = i) }
          let added := updAll s.counters fun j c => if c.select = code then add j c else c
          (s.device.deviceAlert = false → t = { flagged with counters := added })
            ∧ (s.device.deviceAlert = true → s.cQueue.length < 16 → t = { flagged with
                counters := added
                cQueue := s.cQueue ++ [s.alertEntry 5 (BitVec.ofNat 8 i.val) code.val] })
            ∧ (s.device.deviceAlert = true → s.cQueue.length = 16 →
                (∀ j : Fin 8, s.counters[j].select = 11 → s.counters[j].value ≠ -1) →
                t = { flagged with
                  counters := updAll added fun _ c => if c.select = 11 then { c with value := c.value + 1 } else c }))
      ∧ t.exceptReport = s.exceptReport

/-! ### Sensors and pulse inputs -/

/-- A candidate offered to a sensor (R27, R28, R55): discarded unless the sensor is used with source LINE; short, or of a quality other
than 0, it is a rejected sample; else a good one, its luminance held at 20,000 with the saturated mark above that. -/
def Obligations.LineCandidateJudged : Prop :=
  ∀ (i : Fin 8) (origin : Fin 16) (payload : List Byte) (s : State),
    (s.sensors[i].used = false ∨ s.sensors[i].source ≠ .line → s.offerCandidate i (.ofPayload origin payload) = s)
      ∧ (s.sensors[i].used = true → s.sensors[i].source = .line → payload.length < 4 ∨ payload[3]? ≠ some 0 →
        s.offerCandidate i (.ofPayload origin payload) = s.sensorReject i)
      ∧ ∀ b hi lo more, s.sensors[i].used = true → s.sensors[i].source = .line → payload = b :: hi :: lo :: 0 :: more →
        let l := hi.toNat * 256 + lo.toNat
        s.offerCandidate i (.ofPayload origin payload)
          = s.sensorGood i { luminance := min l 20000, saturated := decide (20000 < l), origin := .entry origin }

/-- A good sample taken by a used sensor in each of its states (R54, R57, R58, R60). -/
def Obligations.GoodSampleTaken : Prop :=
  ∀ (i : Fin 8) (x : Sample) (s : State),
    let r := s.sensors[i]
    let timer := some (s.now + r.staleTimeout * secTicks)
    (r.state = .wait ∨ r.state = .stale →
        s.sensorGood i x = { s with sensors := updAt s.sensors i fun r =>
          { r with state := .valid, history := [x], rejects := 0, ageTimer := timer } })
      ∧ (r.state = .valid → r.history.length < 5 →
        s.sensorGood i x = { s with sensors := updAt s.sensors i fun r =>
          { r with history := r.history ++ [x], rejects := 0, ageTimer := timer } })
      ∧ (r.state = .valid → r.history.length = 5 →
        s.sensorGood i x = { s with sensors := updAt s.sensors i fun r =>
          { r with history := r.history.tail ++ [x], rejects := 0, ageTimer := timer } })
      ∧ (r.state = .fault → r.good + 1 < 3 →
        s.sensorGood i x = { s with sensors := updAt s.sensors i fun r =>
          { r with good := r.good + 1, probation := r.probation ++ [x] } })
      ∧ (r.state = .fault → 3 ≤ r.good + 1 →
        s.sensorGood i x = { s with sensors := updAt s.sensors i fun r =>
          { r with state := .valid, history := r.probation ++ [x], probation := [], good := 0, rejects := 0, ageTimer := timer } })

/-- A rejected sample (R55, R59, R60): counted under code 7 for the portals of the sensor, in every state; a third in a row takes the
sensor to FAULT and latches SENSOR_FAULT of each of its portals, with an ALERT each that carries the sensor and the portal (R162), and
beside that count only counters of code 11 change, for ALERTs dropped (R40); in FAULT it empties the probation list. -/
def Obligations.RejectedSampleTaken : Prop :=
  ∀ (i : Fin 8) (s : State),
    let r := s.sensors[i]
    let namedBy := fun p : Fin 4 =>
      s.portals[p].used = true ∧ (s.portals[p].mainSensor = i ∨ s.portals[p].reserveSensor = some i)
    ∃ amount : CounterScope → Nat, amount .all = 1
      ∧ (∀ p, (namedBy p → amount (.portal p) = 1) ∧ (¬ namedBy p → amount (.portal p) = 0))
      ∧ (r.state = .wait ∨ r.state = .valid ∨ r.state = .stale → r.rejects + 1 < 3 →
        s.sensorReject i = { s.count 7 amount with sensors := updAt s.sensors i fun r => { r with rejects := r.rejects + 1 } })
      ∧ (r.state = .wait ∨ r.state = .valid ∨ r.state = .stale → 3 ≤ r.rejects + 1 →
        let t := s.sensorReject i
        t.sensors = (updAt s.sensors i fun r =>
            { r with state := .fault, rejects := 3, history := [], ageTimer := none, probation := [], good := 0 })
          ∧ (∀ p, (namedBy p → t.portalFlags[p] = s.portalFlags[p] ||| 8#6)
              ∧ (¬ namedBy p → t.portalFlags[p] = s.portalFlags[p]))
          ∧ (∀ p, namedBy p → s.alerted t s.device.portalAlert[p] 19 (BitVec.ofNat 8 i.val) p.val)
          ∧ (∀ c : Fin 8, s.counters[c].select ≠ 11 → t.counters[c] = (s.count 7 amount).counters[c])
          ∧ t.pulses = s.pulses ∧ t.exceptSensing = s.exceptSensing)
      ∧ (r.state = .fault →
        s.sensorReject i = { s.count 7 amount with sensors := updAt s.sensors i fun r => { r with good := 0, probation := [] } })

/-- The median of a history: the value at position length / 2, counted from 0, of the luminances in ascending order, a saturated one
taken at 20,000; absent when the history is empty. Position length / 2 is the middle value of an odd number and the higher of the
two middle values of an even number. -/
def Obligations.MedianOfHistory : Prop :=
  ∀ h : List Sample,
    (medianOf h = none ↔ h = [])
      ∧ ∃ sorted : List Nat, List.Perm sorted (h.map fun x => if x.saturated then 20000 else x.luminance)
        ∧ sorted.Pairwise (· ≤ ·) ∧ medianOf h = sorted[h.length / 2]?

/-- AGE_TIMER_EXPIRY (R61, R68): the sensor goes STALE with an empty history and its timer stopped, the reject count kept; the
reference edge of the pulse input that feeds it is cleared; the model remembers it for a gate that ends at the same moment (R62 (1),
log 42). -/
def Obligations.AgeTimerMakesStale : Prop :=
  ∀ (i : Fin 8) (e : Time) (s : State), s.live = true → s.sensors[i].ageTimer = some e →
    let t := { s.reach e with sensors := updAt s.sensors i fun r => { r with state := .stale, history := [], ageTimer := none } }
    let cleared := fun reference : Option (BitVec 48) => some { moment := max s.now e, reference := reference : ClearedReference }
    (s.sensors[i].source = .line → exec (.ageTimerExpiry i) s = .next t)
      ∧ ∀ n, s.sensors[i].source = .pulse n →
        ((∀ c, s.pulses[n].cleared = some c → c.moment ≠ max s.now e) →
            exec (.ageTimerExpiry i) s = .next { t with pulses := updAt s.pulses n fun r =>
              { r with reference := none, cleared := cleared r.reference } })
          ∧ ∀ c, s.pulses[n].cleared = some c → c.moment = max s.now e →
            exec (.ageTimerExpiry i) s = .next { t with pulses := updAt s.pulses n fun r =>
              { r with reference := none, cleared := cleared c.reference } }

/-- PULSE_EDGE (R65, R66, R169): an enabled input takes an edge that comes at least 14 µs after the one it took before; N rises, held
at 65,535, and the last edge time is that of the edge on the microsecond clock; the model keeps the moment (log 23). GATE_EXPIRY (R65,
R67, R68, R69): the four cases of a gate. A sample made is kept and taken by every used sensor that names the input. The next gate
starts as this expiry is taken (log 37). Where an age expiry cleared the reference at this very moment, the sample is still made from it,
and the reference stays cleared (R62 (1), log 42). Where the two edge times of a period differ by 0 modulo 2^48 the luminance is left
open (log 9). -/
def Obligations.PulseInputCountsAndSamples : Prop :=
  (∀ (dt : Nat) (n : Fin 4) (s : State), s.live = true →
    (s.pulses[n].enable = true → (∀ t, s.pulses[n].lastTaken = some t → t + 14 * usTicks ≤ s.now + dt) →
        exec (.pulseEdge dt n) s = .next { s.elapse dt with pulses := updAt s.pulses n fun r =>
          { r with count := min 65535 (r.count + 1), lastEdge := some (BitVec.ofNat 48 ((s.now + dt) / usTicks)),
                   lastTaken := some (s.now + dt) } })
      ∧ (s.pulses[n].enable = false ∨ (∃ t, s.pulses[n].lastTaken = some t ∧ s.now + dt < t + 14 * usTicks) →
        exec (.pulseEdge dt n) s = .next (s.elapse dt)))
    ∧ ∀ (n : Fin 4) (g : Gate) (s : State), s.live = true → s.pulses[n].gate = some g →
    let r := s.pulses[n]
    let now := max s.now g.ends
    let next := { r with count := 0, reference := if r.count = 0 then r.reference else r.lastEdge, cleared := none,
                         gate := some { ends := now + r.gateLength * msTicks, length := r.gateLength } }
    let together := ∃ c, r.cleared = some c ∧ c.moment = now
    let usedReference := fun x : Option (BitVec 48) =>
      (∀ c, r.cleared = some c → c.moment = now → x = c.reference) ∧ (¬ together → x = r.reference)
    let sampled := fun (luminance : Nat) (saturated : Bool) =>
      let x : Sample := { luminance := min luminance 20000, saturated := saturated || decide (20000 < luminance), origin := .pulse n }
      ∃ (sensors : Vector Sensor 8) (reference : Option (BitVec 48)),
        exec (.gateExpiry n) s = .next { s.reach g.ends with
          sensors := sensors
          pulses := updAt s.pulses n fun _ => { next with lastSample := some x, reference := reference } }
        ∧ (together → reference = none) ∧ (¬ together → reference = r.lastEdge)
        ∧ ∀ i : Fin 8, sensors[i] =
          if s.sensors[i].used = true ∧ s.sensors[i].source = .pulse n then s.sensors[i].takeGood now x else s.sensors[i]
    (16 ≤ r.count → sampled (r.count * r.scale / g.length) (decide (r.count = 65535)))
      ∧ (∀ e f, 1 ≤ r.count → r.count < 16 → r.lastEdge = some e → usedReference (some f) →
        ∃ luminance, sampled luminance false
          ∧ ((e - f).toNat ≠ 0 → luminance = r.count * r.scale * 1000 / (e - f).toNat))
      ∧ (r.count < 16 → r.count = 0 ∨ usedReference none →
        exec (.gateExpiry n) s = .next { s.reach g.ends with pulses := updAt s.pulses n fun _ => next })

/-! ### Regulation -/

/-- PASS_TIMER_EXPIRY, steps 1 to 3 (R79 to R84): L_a from the medians of the VALID sensors, a sensor in any other state having none (R64),
or else the last good value or the fallback, with the state of the portal; L_th and each target L_z; the pass timer restarts. Leaving
TRACKING latches SENSOR_LOST, and with a hold time of 0 FALLBACK_ENTERED too; the onset of a disagreement latches DISAGREE; a latched
flag stays latched, and no other flag of the portal is latched but DEFICIT (R160). Each of these and the entry into TRACKING offer an
ALERT, with the portal and its value, and no other event of step 1 does (R162). The records of other portals, their zones, and groups
that stand in no zone of the portal are untouched. Timers start as the expiry is taken (log 37). -/
def Obligations.PassTakesLuminance : Prop :=
  (∀ (i : Fin 8) (s : State),
    (s.sensors[i].state = .valid → s.validMedian i = medianOf s.sensors[i].history)
      ∧ (s.sensors[i].state ≠ .valid → s.validMedian i = none))
    ∧ ∀ (p : Fin 4) (e : Time) (row : Fin 128) (s : State), s.live = true → s.regulationSound → s.portals[p].passTimer = some e →
    row.val = p.val * 32 + s.portals[p].speed.val * 4 + s.portals[p].traffic.val →
    let r := s.portals[p]
    let now := max s.now e
    let main := s.validMedian r.mainSensor
    let reserve := r.reserveSensor.bind s.validMedian
    let base := { r with passTimer := some (now + r.passPeriod * secTicks), disagree := false }
    let entered := fun (la : Nat) => if r.state = .tracking then [] else [((22 : Byte), la)]
    let result := fun (q : Portal) (la : Nat) (latched : List Nat) (alerts : List (Byte × Nat)) =>
      let lth := min r.ceiling (ceilDiv (la * s.kTable[row]) 1000)
      ∃ t, exec (.passTimerExpiry p) s = .next t
        ∧ t.portals = updAt s.portals p (fun _ => { q with la := some la, lth := some lth })
        ∧ (∀ z : Fin 32, t.zones[z].lz =
            if s.zones[z].used = true ∧ s.zones[z].portal = p then
              some (max r.interior (min r.ceiling (ceilDiv (lth * s.zones[z].ratio) 1000)))
            else s.zones[z].lz)
        ∧ (∀ z : Fin 32, ¬ (s.zones[z].used = true ∧ s.zones[z].portal = p) → t.zones[z] = s.zones[z])
        ∧ (∀ g : Fin 48, (∀ z : Fin 32, s.zones[z].used = true → s.zones[z].portal = p → g ∉ s.zones[z].standing) →
            t.groups[g] = s.groups[g])
        ∧ (∀ k, k ∈ latched ∨ s.portalFlags[p].getLsbD k = true → t.portalFlags[p].getLsbD k = true)
        ∧ (∀ k, k ≠ 4 → t.portalFlags[p].getLsbD k = true → k ∈ latched ∨ s.portalFlags[p].getLsbD k = true)
        ∧ (∀ o : Fin 4, o ≠ p → t.portalFlags[o] = s.portalFlags[o])
        ∧ s.portalAlerts t p alerts
        ∧ t.exceptRegulation = (s.reach e).exceptRegulation
    (∀ a b, main = some a → reserve = some b →
        let apart := min a b * 1000 < max a b * (1000 - r.tolerance)
        result { base with state := .tracking, lastGoodLa := some (max a b), holdTimer := none, disagree := decide apart } (max a b)
          (if apart ∧ r.disagree = false then [2] else [])
          (entered (max a b) ++ if apart ∧ r.disagree = false then [((18 : Byte), min a b)] else []))
      ∧ (∀ a, (main = some a ∧ reserve = none) ∨ (main = none ∧ reserve = some a) →
        result { base with state := .tracking, lastGoodLa := some a, holdTimer := none } a [] (entered a))
      ∧ (main = none → reserve = none →
        (∀ g, r.state = .tracking → 1 ≤ r.holdTime → r.lastGoodLa = some g →
            result { base with state := .hold, holdTimer := some (now + r.holdTime * secTicks) } g [0] [(16, g)])
          ∧ (∀ g, r.state = .tracking → r.holdTime = 0 → r.lastGoodLa = some g →
            result { base with state := .fallback, holdTimer := none } r.fallbackLuminance [0, 1]
              [(16, g), (17, r.fallbackLuminance)])
          ∧ (∀ g, r.state = .hold → r.lastGoodLa = some g → result base g [] [])
          ∧ (r.state = .fallback → result base r.fallbackLuminance [] []))

/-- HOLD_TIMER_EXPIRY (R86): a pass at once. With a sensor VALID the portal enters TRACKING; with none it enters FALLBACK on the
fallback luminance and latches FALLBACK_ENTERED. Either entry offers its ALERT, and so does the onset of a disagreement, which latches
DISAGREE (R81, R162); no other flag is latched but DEFICIT of the portal (R160). The pass timer is left alone. -/
def Obligations.HoldExpiryEndsHold : Prop :=
  ∀ (p : Fin 4) (e : Time) (row : Fin 128) (s : State), s.live = true → s.regulationSound → s.portals[p].holdTimer = some e →
    row.val = p.val * 32 + s.portals[p].speed.val * 4 + s.portals[p].traffic.val →
    let r := s.portals[p]
    let main := s.validMedian r.mainSensor
    let reserve := r.reserveSensor.bind s.validMedian
    let base := { r with holdTimer := none, disagree := false }
    let result := fun (q : Portal) (la : Nat) (latched : List Nat) (alerts : List (Byte × Nat)) =>
      let lth := min r.ceiling (ceilDiv (la * s.kTable[row]) 1000)
      ∃ t, exec (.holdTimerExpiry p) s = .next t
        ∧ t.portals = updAt s.portals p (fun _ => { q with la := some la, lth := some lth })
        ∧ (∀ z : Fin 32, s.zones[z].used = true → s.zones[z].portal = p →
            t.zones[z].lz = some (max r.interior (min r.ceiling (ceilDiv (lth * s.zones[z].ratio) 1000))))
        ∧ (∀ z : Fin 32, ¬ (s.zones[z].used = true ∧ s.zones[z].portal = p) → t.zones[z] = s.zones[z])
        ∧ (∀ k, k ∈ latched ∨ s.portalFlags[p].getLsbD k = true → t.portalFlags[p].getLsbD k = true)
        ∧ (∀ k, k ≠ 4 → t.portalFlags[p].getLsbD k = true → k ∈ latched ∨ s.portalFlags[p].getLsbD k = true)
        ∧ (∀ o : Fin 4, o ≠ p → t.portalFlags[o] = s.portalFlags[o])
        ∧ s.portalAlerts t p alerts
        ∧ t.exceptRegulation = (s.reach e).exceptRegulation
    (∀ a b, main = some a → reserve = some b →
        let apart := min a b * 1000 < max a b * (1000 - r.tolerance)
        result { base with state := .tracking, lastGoodLa := some (max a b), disagree := decide apart } (max a b)
          (if apart ∧ r.disagree = false then [2] else [])
          ((22, max a b) :: if apart ∧ r.disagree = false then [((18 : Byte), min a b)] else []))
      ∧ (∀ a, (main = some a ∧ reserve = none) ∨ (main = none ∧ reserve = some a) →
        result { base with state := .tracking, lastGoodLa := some a } a [] [(22, a)])
      ∧ (main = none → reserve = none →
        result { base with state := .fallback } r.fallbackLuminance [1] [(17, r.fallbackLuminance)])

/-- Step 4 of a pass, for each zone of the portal (R98 to R110): MF and S_g of its groups, the eligibility of its reserve, its level
target, and its deficit, whose onset latches DEFICIT and whose onset and end each offer an ALERT with the zone and the amount (R162).
Under AUTO the on set and d_cmd are those of the selection: an ineligible reserve is shed (R103), stages go on, and only where none did
and none was shed does one go off, never the base stage (SwitchOnHandover, SwitchOffHandover); no eligible stage is off while S_on is
below L_z; and where the on set changed, each PART-owned group whose level changed is offered it, and no other (R108, log 16). Under an
override the selection stands and nothing is offered. -/
def Obligations.PassSelectsStages : Prop :=
  ∀ (p : Fin 4) (e : Time) (s : State), s.live = true → s.configSound → s.portals[p].passTimer = some e →
    ∃ t, exec (.passTimerExpiry p) s = .next t
      ∧ ∀ z : Fin 32, s.zones[z].used = true → s.zones[z].portal = p →
        let x := s.zones[z]
        let y := t.zones[z]
        let lz := y.lz.getD 0
        let sOn := y.sOn t.sg
        let sAll := (y.stages.map t.sg).sum + (if y.reserveEligible then (y.reserve.toList.map t.sg).sum else 0)
        (∀ g ∈ y.standing,
            let mf := if s.groups[g].burnKnown then
                max s.groups[g].mfFloor (1000 - s.groups[g].burnMinutes / 60 * s.groups[g].depreciation / 10000)
              else s.groups[g].mfFloor
            t.groups[g].mf = some mf ∧ t.groups[g].sg = some (s.groups[g].available mf (s.listedStates g)))
          ∧ (y.reserveEligible = true ↔ y.reserve.isSome = true ∧ ∃ g ∈ y.stages, ∃ d : Fin 160, s.drivers[d].used = true
              ∧ s.drivers[d].group = g
              ∧ (s.drivers[d].state = .degraded ∨ s.drivers[d].state = .failed ∨ s.drivers[d].state = .absent))
          ∧ y.deficit = decide (sAll < lz) ∧ y.deficitAmount = (if sAll < lz then lz - sAll else 0)
          ∧ (sAll < lz → x.deficit = false → t.portalFlags[p].getLsbD 4 = true
              ∧ s.alerted t s.device.portalAlert[p] 20 (BitVec.ofNat 8 z.val) (lz - sAll))
          ∧ (lz ≤ sAll → x.deficit = true → s.alerted t s.device.portalAlert[p] 21 (BitVec.ofNat 8 z.val) 0)
          ∧ (x.override = none →
              y.selectedFrom x t.sg t.groups lz
                ∧ y.dTarget = some (if sOn = 0 then 1000 else min 1000 (max (y.dminOn t.groups) (ceilDiv (lz * 1000) sOn)))
                ∧ (y.onReserve = true → y.reserve.isSome = true → y.reserveEligible = true)
                ∧ (sOn < lz → ∀ q ∈ y.places, (q.1 = .reserve → y.reserveEligible = true) → y.isOn q.1 = true)
                ∧ (∀ q o, x.isOn q = true → y.isOn q = false → x.isOn o = true → y.isOn o = false → q = o)
                ∧ (x.isOn (.stage 0) = true → y.isOn (.stage 0) = true))
          ∧ (x.override ≠ none →
              y.onStages = x.onStages ∧ y.onReserve = x.onReserve ∧ y.dCmd = x.dCmd ∧ y.dTarget = x.dTarget)
          ∧ (s.queuesSound → ∀ (place : Place) (g : Fin 48), (place, g) ∈ y.places → s.slotCount g = 1 →
              let level := fun u : Zone => if u.isOn place = true ∧ s.groups[g].dmin ≤ u.dCmd then u.dCmd else 0
              let offered := x.override = none ∧ s.groups[g].owner = .part
                ∧ (y.onStages ≠ x.onStages ∨ y.onReserve ≠ x.onReserve) ∧ level y ≠ level x
              (offered → s.levelOffered t g (level y) .autoManual (max s.now e)) ∧ (¬ offered → s.noLevelOffered t g))

/-- The available output of a group: its rated output reduced by MF, then by the units of its listed drivers, which are the used driver
records whose group field names the group, each once (R99); 0 with none listed, and 0 for a LINE-owned group (R95). -/
def Obligations.AvailableOutput : Prop :=
  (∀ (g : Fin 48) (s : State), ∃ l : List (Fin 160), l.Nodup ∧ s.listedStates g = l.map (fun d => s.drivers[d].state)
      ∧ ∀ d, d ∈ l ↔ s.drivers[d].used = true ∧ s.drivers[d].group = g)
    ∧ ∀ (g : Group) (mf : Nat) (drivers : List DriverState),
    let units := (drivers.map fun d =>
      match d with
      | .unknown | .ok => 2
      | .degraded => 1
      | .failed | .absent | .unused => 0).sum
    (g.owner = .part → drivers ≠ [] → g.available mf drivers = g.rated * mf / 1000 * units / (2 * drivers.length))
      ∧ (drivers = [] → g.available mf drivers = 0) ∧ (g.owner = .line → g.available mf drivers = 0)
      ∧ (mf ≤ 1000 → g.available mf drivers ≤ g.rated)

/-- The switch-on (R104, R105): in list order each stage that is off goes on while S_on, with the stages before it on, is below L_z, and
last the reserve, where it is eligible. The handover is made once when a stage went on; d_cmd is the quotient rounded down but not below
the minimum level of the new on set, or that minimum when S_on was 0; it is at most the old d_cmd or that minimum, and the commanded
luminance does not rise but by that minimum. S_on is the sum of S_g over the stages that are on (R102), and the minimum level is the
largest dmin of the PART-owned groups that are on, 1 with none (R105). -/
def Obligations.SwitchOnHandover : Prop :=
  (∀ (z : Zone) (sg : Fin 48 → Nat) (groups : Vector Group 48) (eligible : Bool) (lz : Nat),
    let y := z.switchOn sg groups eligible lz
    let sOld := z.sOn sg
    let sNew := y.sOn sg
    let dmin := y.dminOn groups
    let upTo := fun k : Nat =>
      ({ z with onStages := Vector.ofFn fun m => z.onStages[m] || decide (m.val < k ∧ m.val < z.stages.length) } : Zone)
    (y = { z with onStages := y.onStages, onReserve := y.onReserve, dCmd := y.dCmd })
      ∧ (∀ n : Fin 4, y.onStages[n] = (z.onStages[n] || decide (n.val < z.stages.length ∧ (upTo n.val).sOn sg < lz)))
      ∧ y.onReserve = (z.onReserve || decide (z.reserve.isSome = true ∧ eligible = true ∧ (upTo 4).sOn sg < lz))
      ∧ (y.sameOnSet z = true → y = z)
      ∧ (y.sameOnSet z = false →
          (sOld = 0 → y.dCmd = dmin) ∧ (sOld ≠ 0 → y.dCmd = max dmin (z.dCmd * sOld / sNew))
            ∧ y.dCmd ≤ max dmin z.dCmd ∧ (y.dCmd = dmin ∨ y.dCmd * sNew ≤ z.dCmd * sOld))
      ∧ (∀ q, z.isOn q = true → y.isOn q = true))
    ∧ ∀ (z : Zone) (sg : Fin 48 → Nat) (groups : Vector Group 48),
      let regular := ((List.finRange 4).map fun n => if z.onStages[n] then (z.stages[n.val]?.map sg).getD 0 else 0).sum
      let reserve := if z.onReserve then (z.reserve.map sg).getD 0 else 0
      let counts := fun (q : Place) (g : Fin 48) => z.isOn q = true ∧ groups[g].owner = .part
        ∧ ((∃ n : Fin 4, q = .stage n ∧ z.stages[n.val]? = some g) ∨ (q = .reserve ∧ z.reserve = some g))
      z.sOn sg = regular + reserve
        ∧ (∀ q g, counts q g → groups[g].dmin ≤ z.dminOn groups)
        ∧ ((∃ q g, counts q g ∧ z.dminOn groups = groups[g].dmin) ∨ ((∀ q g, ¬ counts q g) ∧ z.dminOn groups = 1))

/-- The switch-off of one stage (R106, R107): the candidate is the reserve when it is on, otherwise the highest-numbered regular stage
that is on, and never the base stage. It goes off exactly when the hysteresis test and the handover limit allow; d_cmd becomes the
quotient rounded up, so the commanded luminance does not fall and rises by less than S_without. The shedding of a reserve (R103): it
goes off untested, and d_cmd becomes the quotient rounded up but at most 1,000, or 1,000 when nothing is left. -/
def Obligations.SwitchOffHandover : Prop :=
  ∀ (z : Zone) (sg : Fin 48 → Nat) (lz : Nat),
    let y := z.switchOff sg lz
    let reserveOn := z.onReserve = true ∧ z.reserve.isSome = true
    let stageOn := fun n : Fin 4 => n.val < z.stages.length ∧ z.onStages[n] = true
    (reserveOn → z.offCandidate = some .reserve)
      ∧ (∀ n : Fin 4, ¬ reserveOn → 1 ≤ n.val → stageOn n → (∀ m : Fin 4, n < m → ¬ stageOn m) → z.offCandidate = some (.stage n))
      ∧ (¬ reserveOn → (∀ n : Fin 4, 1 ≤ n.val → ¬ stageOn n) → z.offCandidate = none)
      ∧ (z.offCandidate = none → y = z)
      ∧ (∀ q, z.offCandidate = some q → z.isOn q = true →
        let without := (z.setOn q false).sOn sg
        let d := ceilDiv (z.dCmd * z.sOn sg) without
        (lz < without * (1000 - z.hysteresis) / 1000 ∧ d ≤ 1000 → y = { z.setOn q false with dCmd := d }
            ∧ z.dCmd * z.sOn sg ≤ d * without ∧ d * without < z.dCmd * z.sOn sg + without)
          ∧ (¬ (lz < without * (1000 - z.hysteresis) / 1000 ∧ d ≤ 1000) → y = z))
      ∧ (let without := ({ z with onReserve := false } : Zone).sOn sg
         z.shedReserve sg = { z with
           onReserve := false
           dCmd := if without = 0 then 1000 else min 1000 (ceilDiv (z.dCmd * z.sOn sg) without) })

/-! ### Ramp -/

/-- RAMP_TIMER_EXPIRY, the stepping (R79, R115): the ramp timer restarts; d_cmd of each zone under AUTO or MANUAL with a target moves
toward it by the rise or fall step; nothing else of any zone changes, and no other portal. Each zone whose step the rise step cut short
counts one under code 10, for this portal. The timer restarts as the expiry is taken (log 37). -/
def Obligations.RampStepsZones : Prop :=
  ∀ (p : Fin 4) (e : Time) (s : State), s.live = true → s.configSound → s.portals[p].rampTimer = some e →
    let r := s.portals[p]
    ∃ t, exec (.rampTimerExpiry p) s = .next t
      ∧ t.portals = (updAt s.portals p fun r => { r with rampTimer := some (max s.now e + r.rampPeriod * msTicks) })
      ∧ (∀ (z : Fin 32) (target : Nat), s.zones[z].used = true → s.zones[z].portal = p → s.zones[z].dTarget = some target →
          (∀ o, s.zones[z].override = some o → o.kind = .manual) →
          let d := s.zones[z].dCmd
          let stepped := if d < target then min target (d + r.riseStep) else if target < d then max target (d - r.fallStep) else d
          t.zones[z] = { s.zones[z] with dCmd := stepped })
      ∧ (∀ z : Fin 32, s.zones[z].used = false ∨ s.zones[z].portal ≠ p ∨ s.zones[z].dTarget = none
            ∨ (∃ o, s.zones[z].override = some o ∧ o.kind = .fire) →
          t.zones[z] = s.zones[z])
      ∧ (∃ limited : List (Fin 32), limited.Nodup
          ∧ (∀ z, z ∈ limited ↔ s.zones[z].used = true ∧ s.zones[z].portal = p
              ∧ (∀ o, s.zones[z].override = some o → o.kind = .manual)
              ∧ ∃ target, s.zones[z].dTarget = some target ∧ s.zones[z].dCmd + r.riseStep < target)
          ∧ ∀ c : Fin 8, s.counters[c].select = 10 → t.counters[c].value =
              if s.counters[c].scope = .all ∨ s.counters[c].scope = .portal p then
                s.counters[c].value + BitVec.ofNat 32 limited.length
              else s.counters[c].value)
      ∧ t.portalFlags = s.portalFlags ∧ t.exceptRegulation = (s.reach e).exceptRegulation

/-- RAMP_TIMER_EXPIRY, the offers (R116 to R119): a PART-owned group in one slot of a zone of the portal is offered its level exactly
when one of the five conditions holds; accepted, the level is its sent level and waits in the F queue, of kind FIRE where the zone is
under FIRE or the entry it is folded into was of that kind; refused, its due mark is set. No step at all offers a LEVEL for a
LINE-owned group (R121). -/
def Obligations.RampOffersLevels : Prop :=
  (∀ (g : Fin 48) (level : Nat) (kind : LevelKind) (s t : State), s.groups[g].owner = .line → step s = .next t →
      FEntry.level g level kind ∈ t.fQueue → FEntry.level g level kind ∈ s.fQueue)
    ∧ ∀ (p : Fin 4) (e : Time) (z : Fin 32) (place : Place) (g : Fin 48) (s : State), s.live = true → s.configSound → s.queuesSound →
    s.portals[p].rampTimer = some e → s.zones[z].used = true → s.zones[z].portal = p → (place, g) ∈ s.zones[z].places →
    s.slotCount g = 1 → s.groups[g].owner = .part → (s.zones[z].dTarget.isSome = true ∨ ∃ o, s.zones[z].override = some o ∧ o.kind = .fire) →
    ∃ t, exec (.rampTimerExpiry p) s = .next t
      ∧ (let d := t.zones[z].dCmd
         let level := if s.zones[z].isOn place = true ∧ s.groups[g].dmin ≤ d then d else 0
         let sent := s.groups[g].sent
         let offered := s.portals[p].deadband ≤ max level sent - min level sent
           ∨ (s.zones[z].dTarget = some level ∧ level ≠ sent) ∨ (level = 0 ∧ sent ≠ 0)
           ∨ s.portals[p].refreshInterval * secTicks ≤ min (65535 * secTicks) (max s.now e - s.groups[g].refreshFrom)
           ∨ s.groups[g].due = true
         (¬ offered → t.groups[g] = s.groups[g])
           ∧ (offered →
              (t.groups[g] = { s.groups[g] with sent := level, refreshFrom := max s.now e, due := false, pendingMark := true }
                  ∧ ∃ k, FEntry.level g level k ∈ t.fQueue
                    ∧ (k = .fire ↔ (∃ o, s.zones[z].override = some o ∧ o.kind = .fire)
                      ∨ ∃ l, FEntry.level g l .fire ∈ s.fQueue))
                ∨ (t.groups[g] = { s.groups[g] with due := true } ∧ s.groups[g].pendingMark = false ∧ t.fQueue.length = 32)))

/-! ### Management requests

`s.answered h r data` is the state in which nothing changed but that the time passed and the response `r` with `data` joined the C
queue. -/

/-- GET (R145, R147, R148, R168): the value the field holds at its execution, to a source that holds either right, and nothing changes.
The values of every field of the eleven tables, in the order of their identifiers (Table 11-10), in the codes and packings of Tables
11-9, 11-11 and 11-12: an absent value reads 4,294,967,295, a stopped timer 0. A running timer reads its whole milliseconds, or one more
for a part of one (log 8). The scope bit of a portal's override is log 31, an absent last sample log 38, and field 5 of row 0 of FLAGS
is left open (log 10). -/
def Obligations.GetAnswersValue : Prop :=
  ∀ (h : ReqHead) (more : List Byte) (s : State), s.engineFree → s.roomInC →
    s.holdsControl h.src = true ∨ s.holdsMaintenance h.src = true →
    let asked := fun (table row field : Byte) => exec (.get h (table :: row :: field :: more)) s
    let answer := fun v : Word => Host.Outcome.next (s.answered h .ok (wordBytes v))
    let now := s.now + h.dt
    let reads := fun (table row : Nat) (values : List (Option Word)) => ∀ (k : Nat) (v : Word), values[k]? = some (some v) →
      asked (BitVec.ofNat 8 table) (BitVec.ofNat 8 row) (BitVec.ofNat 8 k) = answer v
    let num := fun n : Nat => some (BitVec.ofNat 32 n)
    let byte := fun b : Byte => some (b.setWidth 32)
    let bit := fun b : Bool => some (if b then (1 : Word) else 0)
    let opt := fun o : Option Nat => some ((o.map fun n => BitVec.ofNat 32 n).getD (-1 : Word))
    let index := fun o : Option Nat => some (BitVec.ofNat 32 (o.getD 255))
    let edge := fun o : Option (BitVec 48) => some ((o.map fun t => t.setWidth 32).getD (0 : Word))
    let sample := fun o : Option Sample => some ((o.map fun x => BitVec.ofNat 32 (x.luminance + (if x.saturated then 2 ^ 16 else 0)
      + match x.origin with
        | .entry i => i.val * 2 ^ 17
        | .pulse n => n.val * 2 ^ 17 + 2 ^ 21)).getD (-1 : Word))
    let kindBit := fun k : OverrideKind => if k = .manual then 2 ^ 16 else 2 ^ 17
    let timer := fun (table row field : Byte) (ends : Option Time) =>
      (ends = none → asked table row field = answer 0)
        ∧ ∀ e, ends = some e → asked table row field = answer (BitVec.ofNat 32 ((e - now) / msTicks))
          ∨ ((e - now) % msTicks ≠ 0 ∧ asked table row field = answer (BitVec.ofNat 32 ((e - now) / msTicks + 1)))
    (∀ (table row field : Byte) (t : Target), Target.resolve table row field = .ok t →
        asked table row field = answer ((s.elapse h.dt).read t))
      ∧ reads 0 0 [num 740, num 1, num (184 + s.addrPins.toNat), num (if s.mode = .running then 1 else 0), bit s.restartPending,
          byte s.device.controlOwner, byte s.device.maintenanceOwner, bit s.device.rollover, num s.device.pollInterval,
          num s.device.replyWindow, num s.device.missLimit, bit s.device.deviceAlert, bit s.device.portalAlert[0],
          bit s.device.portalAlert[1], bit s.device.portalAlert[2], bit s.device.portalAlert[3], num s.cursor.val,
          num (if s.rescan = .none then 0 else 1), num s.rescanPosition]
      ∧ (∀ i : Fin 16, let r := s.accept[i]
          reads 1 i.val [bit r.enable, num (match r.ports with | .c => 0 | .f => 1 | .both => 2), some r.mask, some r.value,
            num (match r.action with | .sample => 0 | .traffic => 1 | .pass => 2 | .drop => 3), num r.sensor.val, bit r.forward,
            some r.hits])
      ∧ (∀ i : Fin 8, let r := s.sensors[i]
          reads 2 i.val [bit r.used, num (match r.source with | .line => 0 | .pulse n => n.val + 1), num r.staleTimeout,
            num (match r.state with | .unused => 0 | .wait => 1 | .valid => 2 | .stale => 3 | .fault => 4), num r.rejects,
            num r.good, num r.history.length, opt (medianOf r.history), sample r.history[0]?, sample r.history[1]?,
            sample r.history[2]?, sample r.history[3]?, sample r.history[4]?, sample r.probation[0]?, sample r.probation[1]?]
            ∧ timer 2 (BitVec.ofNat 8 i.val) 15 r.ageTimer)
      ∧ (∀ n : Fin 4, let r := s.pulses[n]
          reads 3 n.val [bit r.enable, num r.gateLength, num r.scale, num r.count, bit r.lastEdge.isSome, edge r.lastEdge,
            bit r.reference.isSome, edge r.reference, sample r.lastSample])
      ∧ (∀ p : Fin 4, let r := s.portals[p]
          reads 4 p.val [bit r.used, num r.bore.val, num r.mainSensor.val, index (r.reserveSensor.map (·.val)), num r.tolerance,
            num r.fallbackLuminance, num r.holdTime, num r.ceiling, num r.interior, num r.passPeriod, num r.rampPeriod,
            num r.riseStep, num r.fallStep, num r.deadband, num r.refreshInterval, num r.initialSpeed.val, num r.initialTraffic.val,
            num (match r.state with | .unused => 0 | .standby => 1 | .fallback => 2 | .hold => 3 | .tracking => 4), num r.speed.val,
            num r.traffic.val, opt r.la, opt r.lastGoodLa, opt r.lth, none, bit r.disagree,
            num ((r.override.map fun o => o.level + kindBit o.kind + 2 ^ 22).getD 0)]
            ∧ timer 4 (BitVec.ofNat 8 p.val) 23 r.holdTimer)
      ∧ (∀ i : Fin 128, reads 5 i.val [num s.kTable[i]])
      ∧ (∀ i : Fin 32, let r := s.zones[i]
          let slot := fun k : Nat => ((r.stages[k]?).map (·.val)).getD 255
          let on := fun k : Fin 4 => if r.onStages[k] then 2 ^ k.val else 0
          reads 6 i.val [bit r.used, num r.portal.val, num r.position,
            num (slot 0 * 2 ^ 24 + slot 1 * 2 ^ 16 + slot 2 * 2 ^ 8 + slot 3), index (r.reserve.map (·.val)), num r.ratio,
            num r.hysteresis, opt r.lz, num (on 0 + on 1 + on 2 + on 3 + if r.onReserve then 16 else 0), num r.dCmd, opt r.dTarget,
            bit r.deficit, num r.deficitAmount,
            num ((r.override.map fun o => o.level + kindBit o.kind + if o.scope = .portal then 2 ^ 22 else 0).getD 0),
            bit r.reserveEligible])
      ∧ (∀ g : Fin 48, let r := s.groups[g]
          reads 7 g.val [bit r.used, byte r.address, num r.rated, num r.dmin, num (if r.owner = .line then 1 else 0),
            num r.depreciation, num r.mfFloor, num (r.burnMinutes / 60), num r.sent, bit r.pendingMark, bit r.due,
            num (min 65535 ((now - r.refreshFrom) / secTicks)), num r.burnMinutes, num r.burnSub, bit r.burnKnown, opt r.mf, opt r.sg])
      ∧ (∀ d : Fin 160, let r := s.drivers[d]
          reads 8 d.val [bit r.used, byte r.address, num r.group.val,
            num (match r.state with | .unused => 0 | .unknown => 1 | .ok => 2 | .degraded => 3 | .failed => 4 | .absent => 5),
            num r.misses, opt (r.lastCondition.map (·.toNat)), opt (r.lastLevel.map (·.toNat))])
      ∧ (∀ i : Fin 8, let r := s.counters[i]
          reads 9 i.val [num r.select.val, num (match r.scope with | .portal p => p.val | .all => 4), some r.value, bit r.sticky])
      ∧ (let f := s.deviceFlags
         reads 10 0 [bit f[0], bit f[1], bit f[2], bit f[3], bit f[4], none, none, none, some (f.setWidth 32)])
      ∧ ∀ p : Fin 4, let f := s.portalFlags[p]
          reads 10 (p.val + 1) [bit f[0], bit f[1], bit f[2], bit f[3], bit f[4], bit f[5], none, none, some (f.setWidth 32)]

/-- Accepted SETs of every field that is not structural: acceptance entries, whose hits go to 0 (R25, R32), stale timeout (R53), pulse
enable, gate length and scale (R65), the portal parameters (R73), the ceiling and L_int of a regulating portal not past one another
(R75), the k table (R76), zone ratio and hysteresis (R93), rated output, dmin, dep and MF floor (R94), burn hours (R97), owner (R121),
the DEVICE fields (R151), in TRANSPARENT its owner addresses (R150), and select code and scope of a counter (R164), whose value and mark
are kept. A SET of burn hours beyond what the minutes can hold is held at 4,294,967,295 (log 21). That a SET of pulse enable keeps the
moment of the last edge is log 23. -/
def Obligations.ParameterSets : Prop :=
  (∀ (h : ReqHead) (v : Word) (s : State), s.engineFree → s.roomInC → s.holdsControl h.src = true →
    let done := s.answered h .ok (wordBytes v)
    let now := s.now + h.dt
    (∀ (i : Fin 16) (field : Byte) (e : AcceptEntry),
        (∃ b : Bool, field = 0 ∧ v = (if b then 1 else 0) ∧ e = { s.accept[i] with enable := b, hits := 0 })
          ∨ (∃ q : PortSelector, field = 1 ∧ v = BitVec.ofNat 32 q.code ∧ e = { s.accept[i] with ports := q, hits := 0 })
          ∨ (field = 2 ∧ e = { s.accept[i] with mask := v, hits := 0 })
          ∨ (field = 3 ∧ e = { s.accept[i] with value := v, hits := 0 })
          ∨ (∃ a : Action, field = 4 ∧ v = BitVec.ofNat 32 a.code ∧ e = { s.accept[i] with action := a, hits := 0 })
          ∨ (∃ n : Fin 8, field = 5 ∧ v = BitVec.ofNat 32 n.val ∧ e = { s.accept[i] with sensor := n, hits := 0 })
          ∨ (∃ b : Bool, field = 6 ∧ v = (if b then 1 else 0) ∧ e = { s.accept[i] with forward := b, hits := 0 }) →
        exec (.setAcceptField h (BitVec.ofNat 8 i.val) field v) s
          = .next { done with accept := updAt s.accept i fun _ => e })
      ∧ (∀ i : Fin 128, v.toNat ≤ 2000 →
        exec (.set h ([5, BitVec.ofNat 8 i.val, 0] ++ wordBytes v)) s
          = .next { done with kTable := updAt s.kTable i fun _ => v.toNat })
      ∧ (∀ n : Fin 4, v.toNat ≤ 1 →
        exec (.setPulseEnable h (BitVec.ofNat 8 n.val) v) s = .next { done with pulses := updAt s.pulses n fun r =>
          if v = 1 ∧ r.enable = false then
            { r with enable := true, count := 0, lastEdge := none, reference := none, cleared := none,
                     gate := some { ends := now + r.gateLength * msTicks, length := r.gateLength } }
          else if v = 0 ∧ r.enable = true then
            { r with enable := false, count := 0, lastEdge := none, reference := none, cleared := none, gate := none }
          else r })
      ∧ (∀ z : Fin 32, v.toNat ≤ 1000 →
        let tested := s.zones[z].used = true ∧ s.regulating s.zones[z].portal = true
        let neighbour := fun (j : Fin 32) (k : Nat) =>
          s.zones[j].used = true ∧ s.zones[j].portal = s.zones[z].portal ∧ s.zones[j].position = k
        let inOrder := ∀ j : Fin 32, (neighbour j (s.zones[z].position + 1) → s.zones[j].ratio ≤ v.toNat)
          ∧ (∀ k, k + 1 = s.zones[z].position → neighbour j k → v.toNat ≤ s.zones[j].ratio)
        ((tested → inOrder) → exec (.setZoneRatio h (BitVec.ofNat 8 z.val) v) s
            = .next { done with zones := updAt s.zones z fun r => { r with ratio := v.toNat } })
          ∧ (¬ (tested → inOrder) → exec (.setZoneRatio h (BitVec.ofNat 8 z.val) v) s = .next (s.answered h .badValue [])))
      ∧ (∀ g : Fin 48, v.toNat ≤ 500000 →
        let minutes := if s.groups[g].burnKnown then v.toNat * 60 else min 4294967295 (v.toNat * 60 + s.groups[g].burnMinutes)
        exec (.setBurnHours h (BitVec.ofNat 8 g.val) v) s
          = .next { s.answered h .ok (wordBytes (BitVec.ofNat 32 (minutes / 60))) with
              groups := updAt s.groups g fun r => { r with burnMinutes := minutes, burnKnown := true } })
      ∧ (∀ g : Fin 48, v.toNat ≤ 1 →
        exec (.setGroupOwner h (BitVec.ofNat 8 g.val) v) s = .next { done with groups := updAt s.groups g fun r =>
          if v = 0 ∧ r.owner = .line then { r with owner := .part, due := true }
          else if v = 1 ∧ r.owner = .part then { r with owner := .line, due := false }
          else r })
      ∧ (∀ owner : OwnerField, v.toNat ≤ 255 → s.mode = .transparent →
        exec (.setOwnerAddress h owner v) s = .next { done with device :=
          match owner with
          | .control => { s.device with controlOwner := BitVec.ofNat 8 v.toNat }
          | .maintenance => { s.device with maintenanceOwner := BitVec.ofNat 8 v.toNat } })
      ∧ (let n := v.toNat
         let set := fun (table row field : Nat) =>
           exec (.set h ([BitVec.ofNat 8 table, BitVec.ofNat 8 row, BitVec.ofNat 8 field] ++ wordBytes v)) s
         (∀ i : Fin 8, within 1 120 n →
            set 2 i.val 2 = .next { done with sensors := updAt s.sensors i fun r => { r with staleTimeout := n } })
          ∧ (∀ i : Fin 4, n = 125 ∨ n = 250 ∨ n = 500 ∨ n = 1000 →
            set 3 i.val 1 = .next { done with pulses := updAt s.pulses i fun r => { r with gateLength := n } })
          ∧ (∀ i : Fin 4, within 1 4000 n →
            set 3 i.val 2 = .next { done with pulses := updAt s.pulses i fun r => { r with scale := n } })
          ∧ (∀ (p : Fin 4) (field : Nat) (q : Portal),
            let r := s.portals[p]
            let free := ¬ s.regulating p = true
            (field = 4 ∧ n ≤ 500 ∧ q = { r with tolerance := n })
                ∨ (field = 5 ∧ n ≤ 20000 ∧ q = { r with fallbackLuminance := n })
                ∨ (field = 6 ∧ n ≤ 600 ∧ q = { r with holdTime := n })
                ∨ (field = 7 ∧ within 10 40000 n ∧ (free ∨ r.interior ≤ n) ∧ q = { r with ceiling := n })
                ∨ (field = 8 ∧ within 10 500 n ∧ (free ∨ n ≤ r.ceiling) ∧ q = { r with interior := n })
                ∨ (field = 9 ∧ within 1 60 n ∧ q = { r with passPeriod := n })
                ∨ (field = 10 ∧ within 100 2000 n ∧ q = { r with rampPeriod := n })
                ∨ (field = 11 ∧ within 1 1000 n ∧ q = { r with riseStep := n })
                ∨ (field = 12 ∧ within 1 1000 n ∧ q = { r with fallStep := n })
                ∨ (field = 13 ∧ n ≤ 50 ∧ q = { r with deadband := n })
                ∨ (field = 14 ∧ within 5 300 n ∧ q = { r with refreshInterval := n })
                ∨ (∃ x : Fin 8, field = 15 ∧ x.val = n ∧ q = { r with initialSpeed := x })
                ∨ (∃ x : Fin 4, field = 16 ∧ x.val = n ∧ q = { r with initialTraffic := x }) →
            set 4 p.val field = .next { done with portals := updAt s.portals p fun _ => q })
          ∧ (∀ z : Fin 32, n ≤ 300 →
            set 6 z.val 6 = .next { done with zones := updAt s.zones z fun r => { r with hysteresis := n } })
          ∧ (∀ (g : Fin 48) (field : Nat) (q : Group),
            let r := s.groups[g]
            let burning := r.owner = .part ∧ ∃ z : Fin 32, s.zones[z].used = true ∧ s.regulating s.zones[z].portal = true
              ∧ (∃ place, (place, g) ∈ s.zones[z].places ∧ s.zones[z].isOn place = true)
              ∧ min s.zones[z].dCmd (s.zones[z].dTarget.getD 0) < n
            (field = 2 ∧ within 1 20000 n ∧ q = { r with rated := n })
                ∨ (field = 3 ∧ within 1 500 n ∧ ¬ burning ∧ q = { r with dmin := n })
                ∨ (field = 5 ∧ n ≤ 500 ∧ q = { r with depreciation := n })
                ∨ (field = 6 ∧ within 500 1000 n ∧ q = { r with mfFloor := n }) →
            set 7 g.val field = .next { done with groups := updAt s.groups g fun _ => q })
          ∧ ∀ (field : Nat) (d : Device),
            (field = 7 ∧ n ≤ 1 ∧ d = { s.device with rollover := decide (n = 1) })
                ∨ (field = 8 ∧ within 50 2000 n ∧ d = { s.device with pollInterval := n })
                ∨ (field = 9 ∧ within 5 100 n ∧ d = { s.device with replyWindow := n })
                ∨ (field = 10 ∧ within 1 7 n ∧ d = { s.device with missLimit := n })
                ∨ (field = 11 ∧ n ≤ 1 ∧ d = { s.device with deviceAlert := decide (n = 1) })
                ∨ (∃ p : Fin 4, field = 12 + p.val ∧ n ≤ 1
                  ∧ d = { s.device with portalAlert := updAt s.device.portalAlert p fun _ => decide (n = 1) }) →
            set 0 0 field = .next { done with device := d }))
    ∧ ∀ (h : ReqHead) (i : Fin 8) (field : Nat) (c : Counter) (v : Word) (s : State), s.engineFree → s.roomInC →
      (if i.val < 4 then s.holdsControl h.src else s.holdsMaintenance h.src) = true →
      (∃ x : Fin 16, field = 0 ∧ v.toNat = x.val ∧ c = { s.counters[i] with select := x })
          ∨ (∃ x : CounterScope, field = 1 ∧ v.toNat = (match x with | .portal p => p.val | .all => 4)
            ∧ c = { s.counters[i] with scope := x }) →
      exec (.set h ([9, BitVec.ofNat 8 i.val, BitVec.ofNat 8 field] ++ wordBytes v)) s
        = .next { s.answered h .ok (wordBytes v) with counters := updAt s.counters i fun _ => c }

/-- Accepted SETs of structural fields (R52, R74, R92, R94, R131); that a change of a zone's used field also clears its eligibility and
override is log 20. A SET is taken in TRANSPARENT, and in RUNNING when no portal it concerns is regulating and the law of the tables
stands after it (R150). -/
def Obligations.StructuralSets : Prop :=
  ∀ (h : ReqHead) (v : Word) (s after : State), s.engineFree → s.roomInC → s.holdsControl h.src = true →
    let done := s.answered h .ok (wordBytes v)
    let taken := fun t : Target => s.mode = .transparent
      ∨ ((∀ p ∈ s.concerned t v.toNat, s.regulating p = false) ∧ after.lawBroken = none)
    (∀ (i : Fin 8) (f : SensorStructural) (q : Sensor),
        (f = .used ∧ (∃ b : Bool, v = (if b then 1 else 0) ∧ q =
            if b = s.sensors[i].used then s.sensors[i]
            else { s.sensors[i] with used := b, state := if b then .wait else .unused, history := [], probation := [], rejects := 0,
                                     good := 0, ageTimer := none }) ∧ taken (.sensor i .used))
          ∨ (f = .source ∧ (∃ x : Source, v = BitVec.ofNat 32 x.code ∧ q =
            if x = s.sensors[i].source then s.sensors[i]
            else if s.sensors[i].used then
              { s.sensors[i] with source := x, state := .wait, history := [], probation := [], rejects := 0, good := 0,
                                  ageTimer := none }
            else { s.sensors[i] with source := x }) ∧ taken (.sensor i .source)) →
        after = { done with sensors := updAt s.sensors i fun _ => q } →
        exec (.setSensorStructural h (BitVec.ofNat 8 i.val) f v) s = .next after)
      ∧ (∀ (p : Fin 4) (f : PortalStructural) (q : Portal),
        (f = .used ∧ (∃ b : Bool, v = (if b then 1 else 0) ∧ q =
            if b = s.portals[p].used then s.portals[p]
            else if b then { s.portals[p] with used := true, state := .standby }
            else { s.portals[p] with used := false, state := .unused, passTimer := none, rampTimer := none, holdTimer := none,
                                     override := none, disagree := false, la := none, lth := none, lastGoodLa := none })
              ∧ taken (.portal p .used))
          ∨ (f = .bore ∧ (∃ x : Fin 2, v = BitVec.ofNat 32 x.val ∧ q = { s.portals[p] with bore := x }) ∧ taken (.portal p .bore))
          ∨ (f = .mainSensor ∧ (∃ x : Fin 8, v = BitVec.ofNat 32 x.val ∧ q = { s.portals[p] with mainSensor := x })
              ∧ taken (.portal p .mainSensor))
          ∨ (f = .reserveSensor ∧ ((v = 255 ∧ q = { s.portals[p] with reserveSensor := none })
              ∨ ∃ x : Fin 8, v = BitVec.ofNat 32 x.val ∧ q = { s.portals[p] with reserveSensor := some x })
              ∧ taken (.portal p .reserveSensor)) →
        after = { done with portals := updAt s.portals p fun _ => q } →
        exec (.setPortalStructural h (BitVec.ofNat 8 p.val) f v) s = .next after)
      ∧ (∀ (z : Fin 32) (f : ZoneStructural) (q : Zone),
        (f = .used ∧ (∃ b : Bool, v = (if b then 1 else 0) ∧ q =
            if b = s.zones[z].used then s.zones[z]
            else { s.zones[z] with used := b, lz := none, dTarget := none, onStages := Vector.replicate 4 false,
                                   onReserve := false, dCmd := 0, deficit := false, deficitAmount := 0, override := none,
                                   reserveEligible := false }) ∧ taken (.zone z .used))
          ∨ (f = .portal ∧ (∃ x : Fin 4, v = BitVec.ofNat 32 x.val ∧ q = { s.zones[z] with portal := x }) ∧ taken (.zone z .portal))
          ∨ (f = .position ∧ 1 ≤ v.toNat ∧ v.toNat ≤ 8 ∧ q = { s.zones[z] with position := v.toNat } ∧ taken (.zone z .position))
          ∨ (f = .stageList ∧ (∃ l : List (Fin 48), l.length ≤ 4
              ∧ wordBytes v = l.map (fun g => BitVec.ofNat 8 g.val) ++ List.replicate (4 - l.length) 255
              ∧ q = { s.zones[z] with stages := l }) ∧ taken (.zone z .stageList))
          ∨ (f = .reserveGroup ∧ ((v = 255 ∧ q = { s.zones[z] with reserve := none })
              ∨ ∃ x : Fin 48, v = BitVec.ofNat 32 x.val ∧ q = { s.zones[z] with reserve := some x }) ∧ taken (.zone z .reserve)) →
        after = { done with zones := updAt s.zones z fun _ => q } →
        exec (.setZoneStructural h (BitVec.ofNat 8 z.val) f v) s = .next after)
      ∧ (∀ (g : Fin 48) (f : GroupStructural) (q : Group),
        (f = .used ∧ (∃ b : Bool, v = (if b then 1 else 0) ∧ q =
            if b = s.groups[g].used then s.groups[g]
            else { s.groups[g] with used := b, mf := none, sg := none, due := false }) ∧ taken (.group g .used))
          ∨ (f = .groupAddress ∧ 200 ≤ v.toNat ∧ v.toNat ≤ 254
              ∧ q = { s.groups[g] with address := BitVec.ofNat 8 v.toNat } ∧ taken (.group g .groupAddress)) →
        after = { done with groups := updAt s.groups g fun _ => q } →
        exec (.setGroupStructural h (BitVec.ofNat 8 g.val) f v) s = .next after)
      ∧ (∀ (d : Fin 160) (f : DriverStructural) (q : Driver),
        let renewed := fun r : Driver => if r.used then { r with state := .unknown, misses := 0 } else r
        (f = .used ∧ (∃ b : Bool, v = (if b then 1 else 0) ∧ q =
            if b = s.drivers[d].used then s.drivers[d]
            else { s.drivers[d] with used := b, state := if b then .unknown else .unused, misses := 0 }) ∧ taken (.driver d .used))
          ∨ (f = .lineAddress ∧ 1 ≤ v.toNat ∧ v.toNat ≤ 183 ∧ (q =
              if BitVec.ofNat 8 v.toNat = s.drivers[d].address then s.drivers[d]
              else renewed { s.drivers[d] with address := BitVec.ofNat 8 v.toNat }) ∧ taken (.driver d .lineAddress))
          ∨ (f = .group ∧ (∃ x : Fin 48, v = BitVec.ofNat 32 x.val ∧ q =
              if x = s.drivers[d].group then s.drivers[d] else renewed { s.drivers[d] with group := x }) ∧ taken (.driver d .group)) →
        after = { done with drivers := updAt s.drivers d fun _ => q } →
        exec (.setDriverStructural h (BitVec.ofNat 8 d.val) f v) s = .next after)

/-- The order of the tests of a SET (R149, R150): writability, mode and state, value, table consistency; the first that fails is
answered and nothing changes. In RUNNING an owner field is not taken, and a structural field is not while a portal it concerns
regulates (Table 9-5). Which fields can be written, which of them are structural or owner fields, and the values each takes: the ranges
of its table, tested whole, and the tests against a regulating portal (R75, R92 to R94, R168). -/
def Obligations.SetRefusals : Prop :=
  (∀ (h : ReqHead) (table row field : Byte) (v : Word) (more : List Byte) (t : Target) (s : State), s.engineFree → s.roomInC →
      Target.resolve table row field = .ok t → s.grants h.src (.set t v) = true →
      let command := Instr.set h ([table, row, field] ++ wordBytes v ++ more)
      let free := s.mode = .transparent ∨ (t.restriction ≠ .owner
        ∧ (t.restriction = .structural → ∀ p ∈ s.concerned t v.toNat, s.regulating p = false))
      (t.writable = false → exec command s = .next (s.answered h .badField []))
        ∧ (t.writable = true → ¬ free → exec command s = .next (s.answered h .wrongState []))
        ∧ (t.writable = true → free → (s.elapse h.dt).write t v = none → exec command s = .next (s.answered h .badValue []))
        ∧ ∀ (after : State) (f : Failure), t.writable = true → free → (s.elapse h.dt).write t v = some after →
          s.mode = .running → t.restriction = .structural → after.lawBroken = some f →
          exec command s = .next (s.answered h .checkFailed [BitVec.ofNat 8 f.check, BitVec.ofNat 8 f.row]))
    ∧ (∀ (v : Nat) (p : Fin 4) (s : State),
      let standsWith := fun g : Fin 48 => ∃ z : Fin 32, s.zones[z].used = true ∧ g ∈ s.zones[z].standing ∧ s.zones[z].portal = p
      (∀ i f, p ∈ s.concerned (.sensor i f) v ↔ s.portals[p].used = true
          ∧ (s.portals[p].mainSensor = i ∨ s.portals[p].reserveSensor = some i))
        ∧ (∀ q f, p ∈ s.concerned (.portal q f) v ↔ p = q)
        ∧ (∀ z f, p ∈ s.concerned (.zone z f) v ↔ p = s.zones[z].portal ∨ (f = .portal ∧ p.val = v))
        ∧ (∀ g f, p ∈ s.concerned (.group g f) v ↔ standsWith g)
        ∧ (∀ d f, p ∈ s.concerned (.driver d f) v ↔
          standsWith s.drivers[d].group ∨ (f = .group ∧ ∃ g : Fin 48, g.val = v ∧ standsWith g)))
    ∧ (∀ t : Target,
      (t.writable = true ↔ match t with
        | .device f => f ∉ [.familyCode, .revision, .ownAddress, .mode, .restartPending, .cursor, .rescanInProgress, .rescanPosition]
        | .accept _ f => f ≠ .hits
        | .sensor _ f => f = .used ∨ f = .source ∨ f = .staleTimeout
        | .pulse _ f => f = .enable ∨ f = .gateLength ∨ f = .scale
        | .portal _ f => f ∉ [.state, .speed, .traffic, .la, .lastGoodLa, .lth, .holdTimer, .disagree, .override]
        | .kTable _ => True
        | .zone _ f => f ∈ [.used, .portal, .position, .stageList, .reserve, .ratio, .hysteresis]
        | .group _ f => f ∈ [.used, .groupAddress, .rated, .dmin, .owner, .depreciation, .mfFloor, .burnHours]
        | .driver _ f => f = .used ∨ f = .lineAddress ∨ f = .group
        | .counter _ f => f = .select ∨ f = .scope
        | .flags _ _ => False)
      ∧ (t.restriction = .owner ↔ t = .device .controlOwner ∨ t = .device .maintenanceOwner)
      ∧ (t.restriction = .structural ↔ match t with
        | .sensor _ f => f = .used ∨ f = .source
        | .portal _ f => f = .used ∨ f = .bore ∨ f = .mainSensor ∨ f = .reserveSensor
        | .zone _ f => f ∈ [.used, .portal, .position, .stageList, .reserve]
        | .group _ f => f = .used ∨ f = .groupAddress
        | .driver _ f => f = .used ∨ f = .lineAddress ∨ f = .group
        | .device _ | .accept _ _ | .pulse _ _ | .kTable _ | .counter _ _ | .flags _ _ => False))
    ∧ ∀ (t : Target) (v : Word) (s : State), t.writable = true →
      let n := v.toNat
      let orNone := fun k : Nat => n < k ∨ n = 255
      ((s.write t v).isSome = true ↔ match t with
        | .device .controlOwner | .device .maintenanceOwner => n ≤ 255
        | .device .pollInterval => within 50 2000 n
        | .device .replyWindow => within 5 100 n
        | .device .missLimit => within 1 7 n
        | .device _ => n ≤ 1
        | .accept _ .mask | .accept _ .value => True
        | .accept _ .ports => n ≤ 2
        | .accept _ .action => n ≤ 3
        | .accept _ .sensor => n ≤ 7
        | .accept _ _ => n ≤ 1
        | .sensor _ .source => n ≤ 4
        | .sensor _ .staleTimeout => within 1 120 n
        | .sensor _ _ => n ≤ 1
        | .pulse _ .gateLength => n = 125 ∨ n = 250 ∨ n = 500 ∨ n = 1000
        | .pulse _ .scale => within 1 4000 n
        | .pulse _ _ => n ≤ 1
        | .portal _ .mainSensor | .portal _ .initialSpeed => n ≤ 7
        | .portal _ .reserveSensor => orNone 8
        | .portal _ .tolerance => n ≤ 500
        | .portal _ .fallbackLuminance => n ≤ 20000
        | .portal _ .holdTime => n ≤ 600
        | .portal p .ceiling => within 10 40000 n ∧ (s.regulating p = true → s.portals[p].interior ≤ n)
        | .portal p .interior => within 10 500 n ∧ (s.regulating p = true → n ≤ s.portals[p].ceiling)
        | .portal _ .passPeriod => within 1 60 n
        | .portal _ .rampPeriod => within 100 2000 n
        | .portal _ .riseStep | .portal _ .fallStep => within 1 1000 n
        | .portal _ .deadband => n ≤ 50
        | .portal _ .refreshInterval => within 5 300 n
        | .portal _ .initialTraffic => n ≤ 3
        | .portal _ _ => n ≤ 1
        | .kTable _ => n ≤ 2000
        | .zone _ .portal => n ≤ 3
        | .zone _ .position => within 1 8 n
        | .zone _ .stageList => ∃ l : List (Fin 48), l.length ≤ 4
            ∧ wordBytes v = l.map (fun g => BitVec.ofNat 8 g.val) ++ List.replicate (4 - l.length) 255
        | .zone _ .reserve => orNone 48
        | .zone z .ratio => n ≤ 1000 ∧ (s.zones[z].used = true → s.regulating s.zones[z].portal = true → ∀ j : Fin 32,
            s.zones[j].used = true → s.zones[j].portal = s.zones[z].portal →
            (s.zones[j].position = s.zones[z].position + 1 → s.zones[j].ratio ≤ n)
              ∧ (s.zones[j].position + 1 = s.zones[z].position → n ≤ s.zones[j].ratio))
        | .zone _ .hysteresis => n ≤ 300
        | .zone _ _ => n ≤ 1
        | .group _ .groupAddress => within 200 254 n
        | .group _ .rated => within 1 20000 n
        | .group g .dmin => within 1 500 n ∧ ¬ (s.groups[g].owner = .part ∧ ∃ z : Fin 32, s.zones[z].used = true
            ∧ s.regulating s.zones[z].portal = true
            ∧ (∃ place, (place, g) ∈ s.zones[z].places ∧ s.zones[z].isOn place = true)
            ∧ min s.zones[z].dCmd (s.zones[z].dTarget.getD 0) < n)
        | .group _ .depreciation => n ≤ 500
        | .group _ .mfFloor => within 500 1000 n
        | .group _ .burnHours => n ≤ 500000
        | .group _ _ => n ≤ 1
        | .driver _ .lineAddress => within 1 183 n
        | .driver _ .group => n ≤ 47
        | .driver _ _ => n ≤ 1
        | .counter _ .select => n ≤ 15
        | .counter _ _ => n ≤ 4
        | .flags _ _ => False)

/-- Requests refused by their shape (R146 (1) to (4)): answered with the first result that applies, and nothing else changes. The
addressing of GET and SET, the eleven SET rows among them, is tested by table, row and field identifier (R32, Tables 9-4 and 11-10);
field 5 of row 0 of FLAGS is left open (log 10). -/
def Obligations.MalformedRequests : Prop :=
  ∀ (h : ReqHead) (s : State), s.engineFree → s.roomInC →
    let refused := fun r : Result => Host.Outcome.next (s.answered h r [])
    exec (.unknownRequest h.dt h.src []) s = .next (s.answered { h with tag := 0 } .unknownRequest [])
      ∧ exec (.unknownRequest h.dt h.src [h.tag]) s = refused .unknownRequest
      ∧ (∀ code more, code = 0 ∨ 13 ≤ code.toNat → exec (.unknownRequest h.dt h.src (h.tag :: code :: more)) s = refused .unknownRequest)
      ∧ (∀ ops, ops.length < 3 → exec (.get h ops) s = refused .badValue)
      ∧ (∀ ops, ops.length < 7 → exec (.set h ops) s = refused .badValue)
      ∧ (exec (.standby h []) s = refused .badValue ∧ exec (.resume h []) s = refused .badValue)
      ∧ (∀ ops, ops.length < 5 → exec (.force h ops) s = refused .badValue)
      ∧ (∀ ops, ops.length < 2 → exec (.release h ops) s = refused .badValue ∧ exec (.clearFlags h ops) s = refused .badValue
          ∧ exec (.readCounter h ops) s = refused .badValue)
      ∧ (∀ (table row field code : Byte) (more : List Byte) (i : Instr),
          requestOf i = some (h.dt, h.src, h.tag :: code :: table :: row :: field :: more) →
          code = 1 ∨ (code = 2 ∧ 4 ≤ more.length) →
          let rows := [1, 16, 8, 4, 4, 128, 32, 48, 160, 8, 5]
          let fields := [19, 8, 16, 9, 26, 1, 15, 17, 7, 4]
          let misnamed := (∃ k, fields[table.toNat]? = some k ∧ k ≤ field.toNat)
            ∨ (table = 10 ∧ (field = 6 ∨ field = 7 ∨ 9 ≤ field.toNat))
          (11 ≤ table.toNat → exec i s = refused .badTable)
            ∧ (∀ n, rows[table.toNat]? = some n → n ≤ row.toNat → exec i s = refused .badRow)
            ∧ (∀ n, rows[table.toNat]? = some n → row.toNat < n → misnamed → exec i s = refused .badField))
      ∧ (∀ (p : Byte) (more : List Byte), 4 ≤ p.toNat →
          exec (.standby h (p :: more)) s = refused .badRow ∧ exec (.resume h (p :: more)) s = refused .badRow)
      ∧ (∀ (scope index kind hi lo : Byte) (more : List Byte),
          (2 ≤ scope.toNat → exec (.force h (scope :: index :: kind :: hi :: lo :: more)) s = refused .badValue
              ∧ exec (.release h (scope :: index :: more)) s = refused .badValue)
            ∧ (scope = 0 ∧ 32 ≤ index.toNat ∨ scope = 1 ∧ 4 ≤ index.toNat →
              exec (.force h (scope :: index :: kind :: hi :: lo :: more)) s = refused .badRow
                ∧ exec (.release h (scope :: index :: more)) s = refused .badRow))
      ∧ ∀ (n m : Byte) (more : List Byte),
          (5 ≤ n.toNat → exec (.clearFlags h (n :: m :: more)) s = refused .badRow)
            ∧ (8 ≤ n.toNat → exec (.readCounter h (n :: m :: more)) s = refused .badRow)

/-- Access (R147, Table 9-3): a request of good shape from a source that may not make it is answered with DENIED and changes nothing.
Which right each request takes; that a SET of the value or mark of a bank B counter, which cannot be written, takes both is the model's
choice (log 14). -/
def Obligations.DeniedRequests : Prop :=
  (∀ (i : Instr) (dt : Nat) (src tag : Byte) (rest : List Byte) (q : Request) (s : State), s.engineFree → s.roomInC →
      requestOf i = some (dt, src, tag :: rest) → Request.ofPayload (tag :: rest) = .ok q → s.grants src q = false →
      exec i s = .next (s.answered { dt := dt, src := src, tag := tag } .denied []))
    ∧ ∀ (src : Byte) (s : State),
      let control := s.device.controlOwner = 0 ∨ s.device.controlOwner = src
      let maintenance := s.device.maintenanceOwner = 0 ∨ s.device.maintenanceOwner = src
      (s.holdsControl src = true ↔ control) ∧ (s.holdsMaintenance src = true ↔ maintenance)
        ∧ (∀ t, s.grants src (.get t) = true ↔ control ∨ maintenance)
        ∧ (∀ g v, s.grants src (.set (.group g .burnHours) v) = true ↔ control ∨ maintenance)
        ∧ (∀ i v, s.grants src (.set (.counter i .select) v) = true ↔ if i.val < 4 then control else maintenance)
        ∧ (∀ i v, s.grants src (.set (.counter i .scope) v) = true ↔ if i.val < 4 then control else maintenance)
        ∧ (∀ i f v, f = .value ∨ f = .sticky →
          (s.grants src (.set (.counter i f) v) = true ↔ control ∧ (4 ≤ i.val → maintenance)))
        ∧ (∀ t v, (∀ g, t ≠ .group g .burnHours) → (∀ i f, t ≠ .counter i f) → (s.grants src (.set t v) = true ↔ control))
        ∧ (∀ i c, s.grants src (.readCounter i c) = true ↔ if i.val < 4 then control else maintenance)
        ∧ ∀ q, q = .activate ∨ q = .deactivate ∨ q = .rescan ∨ q = .restart ∨ (∃ p, q = .standby p) ∨ (∃ p, q = .resume p)
            ∨ (∃ r k l, q = .force r k l) ∨ (∃ r, q = .release r) ∨ (∃ n m, q = .clearFlags n m) →
          (s.grants src q = true ↔ control)

/-- ACTIVATE (R142, R152, R88, R111): refused in RUNNING; a failed check is answered with its number and row and changes nothing; else
the part is RUNNING, its drivers UNKNOWN, the poller started, and every used portal regulates from its initial classes with its timers
started. Each zone starts with every stage on, no override and d_cmd at 1,000; its immediate pass selects from there and offers every
PART-owned group its level (log 32). After these offers the rescan offers its first SCAN POLL, or skips it at a full F queue and ends
where no driver is left (R136, R137, log 18). -/
def Obligations.ActivateStartsRegulation : Prop :=
  ∀ (h : ReqHead) (s : State), s.engineFree → s.roomInC → s.holdsControl h.src = true →
    let now := s.now + h.dt
    (s.mode = .running → exec (.activate h) s = .next (s.answered h .wrongState []))
      ∧ (∀ f, s.mode = .transparent → s.consistency none = some f →
        exec (.activate h) s = .next (s.answered h .checkFailed [BitVec.ofNat 8 f.check, BitVec.ofNat 8 f.row]))
      ∧ (s.mode = .transparent → s.consistency none = none →
        ∃ t, exec (.activate h) s = .next t ∧ t.mode = .running ∧ t.responded (s.responseEntry h .ok [] false)
          ∧ (∀ d : Fin 160, t.drivers[d] =
              if s.drivers[d].used then { s.drivers[d] with state := .unknown, misses := 0 } else s.drivers[d])
          ∧ t.cursor = 0 ∧ t.pollTimer = some (now + s.device.pollInterval * msTicks)
          ∧ (∀ p : Fin 4, s.portals[p].used = false → t.portals[p] = s.portals[p])
          ∧ (∀ p : Fin 4, s.portals[p].used = true →
              let r := s.portals[p]
              let main := s.validMedian r.mainSensor
              let reserve := r.reserveSensor.bind s.validMedian
              t.portals[p].state = (if main = none ∧ reserve = none then .fallback else .tracking)
                ∧ (main = none → reserve = none → t.portals[p].la = some r.fallbackLuminance)
                ∧ (∀ a b, main = some a → reserve = some b → t.portals[p].la = some (max a b))
                ∧ (∀ a, (main = some a ∧ reserve = none) ∨ (main = none ∧ reserve = some a) → t.portals[p].la = some a)
                ∧ t.portals[p].speed = r.initialSpeed ∧ t.portals[p].traffic = r.initialTraffic
                ∧ t.portals[p].override = none ∧ t.portals[p].holdTimer = none
                ∧ t.portals[p].passTimer = some (now + r.passPeriod * secTicks)
                ∧ t.portals[p].rampTimer = some (now + r.rampPeriod * msTicks))
          ∧ (∀ z : Fin 32, s.zones[z].used = true → t.zones[z].override = none ∧ t.zones[z].lz.isSome = true)
          ∧ (s.configSound → s.queuesSound →
              (∀ z : Fin 32, s.zones[z].used = true → let y := t.zones[z]
                y.selectedFrom { s.zones[z] with
                    onStages := Vector.ofFn fun n => decide (n.val < s.zones[z].stages.length), onReserve := false, dCmd := 1000 }
                    t.sg t.groups (y.lz.getD 0)
                  ∧ ∀ (place : Place) (g : Fin 48), (place, g) ∈ y.places → s.groups[g].owner = .part →
                    s.levelOffered t g (if y.isOn place = true ∧ s.groups[g].dmin ≤ y.dCmd then y.dCmd else 0) .autoManual now)
                ∧ (∀ g : Fin 48, s.groups[g].owner = .line → s.noLevelOffered t g)
                ∧ ∀ d : Fin 160, s.drivers[d].used = true → (∀ m : Fin 160, m < d → s.drivers[m].used = false) →
                  (t.fQueue.getLast? = some (.poll d .scan) ∧ t.rescan = .awaitWindow ∧ t.rescanPosition = 0)
                    ∨ (t.fQueue.length = 32 ∧ ((∃ n : Fin 160, d < n ∧ s.drivers[n].used = true) →
                        t.rescan = .awaitTimer ∧ t.rescanPosition = d.val + 1)
                      ∧ ((∀ n : Fin 160, d < n → s.drivers[n].used = false) →
                        t.rescan = .none ∧ t.rescanPosition = 160 ∧ t.deviceFlags.getLsbD 3 = true)))
          ∧ ((∀ d : Fin 160, s.drivers[d].used = false) →
              t.rescan = .none ∧ t.rescanPosition = 160 ∧ t.deviceFlags.getLsbD 3 = true)
          ∧ t.exceptRegulation.exceptPolling
              = { s with mode := .running, now := now, placed := s.placed + 1, slot0 := t.slot0 }.exceptRegulation.exceptPolling
          ∧ (∀ g : Fin 48, t.groups[g].burnMinutes = s.groups[g].burnMinutes ∧ t.groups[g].burnSub = s.groups[g].burnSub
              ∧ t.groups[g].burnKnown = s.groups[g].burnKnown))

/-- What the consistency check asks of the tables (R153, Table 9-7), and of the records that concern one portal at its RESUME (R154): it
passes exactly when the nine conditions hold. Where it fails it reports the first check that fails, in the order of the table, and the
row of the first record that fails that check, in index order; of a pair the higher index. The rows of several failing pairs, of the
zones after a gap and of a driver that fails twice are the model's choice (log 12), as is that check 5 looks at the reserve (log 13). -/
def Obligations.ConsistencyCheckMeaning : Prop :=
  ∀ (scope : Option (Fin 4)) (s : State), s.configSound → (∀ p, scope = some p → s.portals[p].used = true) →
    let stands := fun (g : Fin 48) (p : Fin 4) =>
      ∃ z : Fin 32, s.zones[z].used = true ∧ s.zones[z].portal = p ∧ g ∈ s.zones[z].standing
    let portal := fun p : Fin 4 => s.portals[p].used = true ∧ ∀ q, scope = some q → p = q
    let zone := fun z : Fin 32 => s.zones[z].used = true ∧ ∀ q, scope = some q → s.zones[z].portal = q
    let group := fun g : Fin 48 => s.groups[g].used = true ∧ ∀ q, scope = some q → stands g q
    let driver := fun d : Fin 160 => s.drivers[d].used = true ∧ ∀ q, scope = some q → stands s.drivers[d].group q
    let sensor := fun i : Fin 8 => s.sensors[i].used = true
      ∧ ∀ q, scope = some q → s.portals[q].mainSensor = i ∨ s.portals[q].reserveSensor = some i
    let complete := fun p : Fin 4 => s.sensors[s.portals[p].mainSensor].used = true
      ∧ (∀ i, s.portals[p].reserveSensor = some i → s.sensors[i].used = true)
      ∧ (∃ z : Fin 32, s.zones[z].used = true ∧ s.zones[z].portal = p)
      ∧ s.portals[p].interior ≤ s.portals[p].ceiling
    let beside := fun y z : Fin 32 => y ≠ z ∧ s.zones[y].used = true ∧ s.zones[y].portal = s.zones[z].portal
    let taken := fun (p : Fin 4) (k : Nat) => ∃ y : Fin 32, s.zones[y].used = true ∧ s.zones[y].portal = p ∧ s.zones[y].position = k
    let listed := fun z : Fin 32 => s.zones[z].stages ≠ [] ∧ ∀ g ∈ s.zones[z].standing, s.groups[g].used = true
    let sameGroup := fun g j : Fin 48 => j ≠ g ∧ s.groups[j].used = true ∧ s.groups[j].address = s.groups[g].address
    let sameDriver := fun d j : Fin 160 => j ≠ d ∧ s.drivers[j].used = true ∧ s.drivers[j].address = s.drivers[d].address
    let owned := fun d : Fin 160 => s.groups[s.drivers[d].group].used = true
    let shares := fun (i : Fin 8) (n : Fin 4) (j : Fin 8) => j ≠ i ∧ s.sensors[j].used = true ∧ s.sensors[j].source = .pulse n
    let some1 := ∃ p : Fin 4, s.portals[p].used = true
    (s.consistency scope = none ↔
      some1 ∧ (∀ p, portal p → complete p)
        ∧ (∀ z, zone z → s.portals[s.zones[z].portal].used = true ∧ (∀ y, beside y z → s.zones[y].position ≠ s.zones[z].position)
            ∧ ∀ k, 1 ≤ k → k < s.zones[z].position → taken s.zones[z].portal k)
        ∧ (∀ y z, zone z → beside y z → s.zones[y].position ≤ s.zones[z].position → s.zones[z].ratio ≤ s.zones[y].ratio)
        ∧ (∀ z, zone z → listed z)
        ∧ (∀ g, group g → s.slotCount g = 1)
        ∧ (∀ g j, group g → ¬ sameGroup g j)
        ∧ (∀ d, driver d → owned d ∧ ∀ j, ¬ sameDriver d j)
        ∧ (∀ i, sensor i → s.roleCount i = 1
            ∧ ∀ n, s.sensors[i].source = .pulse n → s.pulses[n].enable = true ∧ ∀ j, ¬ shares i n j))
      ∧ (let higher := fun {n : Nat} (i : Fin n) (clash : Fin n → Prop) (row : Nat) =>
          ∃ j, lowestWith clash j ∧ row = max i.val j.val
        let fails2 := fun (p : Fin 4) (row : Nat) => ¬ complete p ∧ row = p.val
        let fails3 := fun (z : Fin 32) (row : Nat) =>
          let q := s.zones[z].portal
          let k := s.zones[z].position
          let repeats := fun y => beside y z ∧ s.zones[y].position = k
          if s.portals[q].used = false then row = z.val
          else higher z repeats row ∨ ((∀ y, ¬ repeats y) ∧ row = z.val
            ∧ ∃ gap, 1 ≤ gap ∧ gap < k ∧ ¬ taken q gap ∧ (∀ m, 1 ≤ m → m < gap → taken q m) ∧ ∀ m, gap < m → m < k → ¬ taken q m)
        let fails4 := fun (z : Fin 32) (row : Nat) => higher z (fun y => beside y z
          ∧ ((s.zones[y].position + 1 = s.zones[z].position ∧ s.zones[y].ratio < s.zones[z].ratio)
            ∨ (s.zones[z].position + 1 = s.zones[y].position ∧ s.zones[z].ratio < s.zones[y].ratio))) row
        let fails5 := fun (z : Fin 32) (row : Nat) => ¬ listed z ∧ row = z.val
        let fails6 := fun (g : Fin 48) (row : Nat) => s.slotCount g ≠ 1 ∧ row = g.val
        let fails7 := fun (g : Fin 48) (row : Nat) => higher g (sameGroup g) row
        let fails8 := fun (d : Fin 160) (row : Nat) => (¬ owned d ∧ row = d.val) ∨ (owned d ∧ higher d (sameDriver d) row)
        let fails9 := fun (i : Fin 8) (row : Nat) => (s.roleCount i ≠ 1 ∧ row = i.val)
          ∨ (s.roleCount i = 1 ∧ ∃ n, s.sensors[i].source = .pulse n
            ∧ ((s.pulses[n].enable = false ∧ row = i.val) ∨ (s.pulses[n].enable = true ∧ higher i (shares i n) row)))
        let pass2 := some1 ∧ noneFails portal fails2
        let pass3 := pass2 ∧ noneFails zone fails3
        let pass4 := pass3 ∧ noneFails zone fails4
        let pass5 := pass4 ∧ noneFails zone fails5
        let pass6 := pass5 ∧ noneFails group fails6
        let pass7 := pass6 ∧ noneFails group fails7
        let pass8 := pass7 ∧ noneFails driver fails8
        ∀ check row, s.consistency scope = some { check := check, row := row } ↔
          (check = 1 ∧ ¬ some1 ∧ row = 255) ∨ (check = 2 ∧ some1 ∧ firstReports portal fails2 row)
            ∨ (check = 3 ∧ pass2 ∧ firstReports zone fails3 row) ∨ (check = 4 ∧ pass3 ∧ firstReports zone fails4 row)
            ∨ (check = 5 ∧ pass4 ∧ firstReports zone fails5 row) ∨ (check = 6 ∧ pass5 ∧ firstReports group fails6 row)
            ∨ (check = 7 ∧ pass6 ∧ firstReports group fails7 row) ∨ (check = 8 ∧ pass7 ∧ firstReports driver fails8 row)
            ∨ (check = 9 ∧ pass8 ∧ firstReports sensor fails9 row))

/-- DEACTIVATE (R48, R91, R112, R129, R141, R155): refused in TRANSPARENT; else regulation, overrides, own queue entries, the poll timer
and a rescan end, and everything else is kept; what the model remembers of a SCAN POLL on the segment is log 19. -/
def Obligations.DeactivateStopsRegulation : Prop :=
  ∀ (h : ReqHead) (s : State), s.engineFree → s.roomInC → s.holdsControl h.src = true → s.queuesSound →
    (s.mode = .transparent → exec (.deactivate h) s = .next (s.answered h .wrongState []))
      ∧ (s.mode = .running → exec (.deactivate h) s = .next { s.answered h .ok [] with
          mode := .transparent
          fQueue := s.fQueue.filter fun e =>
            match e with
            | .passThrough _ => true
            | .level _ _ _ | .poll _ _ => false
          portals := updAll s.portals fun _ r =>
            if r.used then
              { r with state := .standby, passTimer := none, rampTimer := none, holdTimer := none, override := none,
                       disagree := false, la := none, lth := none, lastGoodLa := none }
            else r
          zones := updAll s.zones fun _ z =>
            { z with lz := none, dTarget := none, onStages := Vector.replicate 4 false, onReserve := false, dCmd := 0,
                     deficit := false, deficitAmount := 0, override := none, reserveEligible := false }
          groups := updAll s.groups fun _ g => { g with mf := none, sg := none, due := false, pendingMark := false }
          pollTimer := none
          rescan := .none
          scanOrphan := s.fTx.holdsScan })

/-- STANDBY (R90, R112, R129): refused in TRANSPARENT and on an unused portal; OK and nothing more on a portal in STANDBY; a regulating
portal stops, its overrides, deficits and due marks cleared, its luminances kept. -/
def Obligations.StandbyStopsPortal : Prop :=
  ∀ (h : ReqHead) (p : Fin 4) (more : List Byte) (s : State), s.engineFree → s.roomInC → s.holdsControl h.src = true →
    let command := Instr.standby h (BitVec.ofNat 8 p.val :: more)
    (s.mode = .transparent ∨ s.portals[p].used = false → exec command s = .next (s.answered h .wrongState []))
      ∧ (s.mode = .running → s.portals[p].used = true → s.portals[p].state.regulating = false →
        exec command s = .next (s.answered h .ok []))
      ∧ (s.mode = .running → s.portals[p].used = true → s.portals[p].state.regulating = true →
        ∃ t, exec command s = .next t
          ∧ t = { s.answered h .ok [] with
                    groups := t.groups
                    portals := updAt s.portals p fun r => { r with state := .standby, passTimer := none, rampTimer := none,
                                                                   holdTimer := none, override := none, disagree := false }
                    zones := updAll s.zones fun _ z => if z.used = true ∧ z.portal = p then
                        { z with override := none, deficit := false, deficitAmount := 0 } else z }
          ∧ ∀ g : Fin 48,
              ((∃ z : Fin 32, s.zones[z].used = true ∧ s.zones[z].portal = p ∧ g ∈ s.zones[z].standing) →
                t.groups[g] = { s.groups[g] with due := false })
              ∧ ((¬ ∃ z : Fin 32, s.zones[z].used = true ∧ s.zones[z].portal = p ∧ g ∈ s.zones[z].standing) →
                t.groups[g] = s.groups[g]))

/-- RESUME (R88, R89, R154): refused unless RUNNING and the portal in STANDBY; a failed check is answered and changes nothing; else the
portal starts from its initial classes with an immediate pass, and other portals and their zones are untouched. Each zone of the portal
starts with every stage on and d_cmd at 1,000; the pass selects from there and offers every PART-owned group its level (R111, log 32). -/
def Obligations.ResumeStartsPortal : Prop :=
  ∀ (h : ReqHead) (p : Fin 4) (more : List Byte) (s : State), s.engineFree → s.roomInC → s.holdsControl h.src = true →
    let command := Instr.resume h (BitVec.ofNat 8 p.val :: more)
    let r := s.portals[p]
    let now := s.now + h.dt
    let ready := s.mode = .running ∧ r.used = true ∧ r.state.regulating = false
    (¬ ready → exec command s = .next (s.answered h .wrongState []))
      ∧ (∀ f, ready → s.consistency (some p) = some f →
        exec command s = .next (s.answered h .checkFailed [BitVec.ofNat 8 f.check, BitVec.ofNat 8 f.row]))
      ∧ (ready → s.consistency (some p) = none →
        let main := s.validMedian r.mainSensor
        let reserve := r.reserveSensor.bind s.validMedian
        ∃ t, exec command s = .next t ∧ t.responded (s.responseEntry h .ok [] false)
          ∧ t.portals[p].state = (if main = none ∧ reserve = none then .fallback else .tracking)
          ∧ (main = none → reserve = none → t.portals[p].la = some r.fallbackLuminance)
          ∧ (∀ a b, main = some a → reserve = some b → t.portals[p].la = some (max a b))
          ∧ (∀ a, (main = some a ∧ reserve = none) ∨ (main = none ∧ reserve = some a) → t.portals[p].la = some a)
          ∧ t.portals[p].speed = r.initialSpeed ∧ t.portals[p].traffic = r.initialTraffic ∧ t.portals[p].override = none
          ∧ t.portals[p].passTimer = some (now + r.passPeriod * secTicks)
          ∧ t.portals[p].rampTimer = some (now + r.rampPeriod * msTicks)
          ∧ (∀ o : Fin 4, o ≠ p → t.portals[o] = s.portals[o])
          ∧ (∀ z : Fin 32, ¬ (s.zones[z].used = true ∧ s.zones[z].portal = p) → t.zones[z] = s.zones[z])
          ∧ (∀ z : Fin 32, s.zones[z].used = true → s.zones[z].portal = p →
              t.zones[z].override = none ∧ t.zones[z].lz.isSome = true)
          ∧ (s.configSound → s.queuesSound → ∀ z : Fin 32, s.zones[z].used = true → s.zones[z].portal = p → let y := t.zones[z]
              y.selectedFrom { s.zones[z] with
                  onStages := Vector.ofFn fun n => decide (n.val < s.zones[z].stages.length), onReserve := false, dCmd := 1000 }
                  t.sg t.groups (y.lz.getD 0)
                ∧ ∀ (place : Place) (g : Fin 48), (place, g) ∈ y.places → s.groups[g].owner = .part →
                  s.levelOffered t g (if y.isOn place = true ∧ s.groups[g].dmin ≤ y.dCmd then y.dCmd else 0) .autoManual now)
          ∧ t.exceptRegulation = { s with now := now, placed := s.placed + 1, slot0 := t.slot0 }.exceptRegulation)

/-- FORCE (R122 to R126): refused unless RUNNING with the zone used and its portal regulating, or the portal regulating; an unknown kind
is BAD_VALUE; else each zone reached carries the override at its clamped level, MANUAL with the handover of the stages it puts on, FIRE
with every stage on and its level at once; every PART-owned group of a FIRE zone is offered its level, and of a MANUAL zone each whose
level differs from its sent level; no other group is, and the record of a group in no slot of the zones reached is kept. -/
def Obligations.ForceOverrides : Prop :=
  ∀ (h : ReqHead) (kind hi lo : Byte) (more : List Byte) (s : State), s.engineFree → s.roomInC → s.holdsControl h.src = true →
    s.configSound → s.queuesSound →
    let asked := min 1000 (hi.toNat * 256 + lo.toNat)
    let forced := fun (z y : Zone) (scope : OverrideScope) =>
      let allOn : Zone := { z with onStages := Vector.ofFn fun n => z.onStages[n] || decide (n.val < z.stages.length) }
      let withReserve : Zone := { allOn with onReserve := z.reserve.isSome }
      let clamped := fun d => if 1 ≤ asked ∧ asked < d then d else asked
      (kind = 1 →
          let dmin := allOn.dminOn s.groups
          let l := clamped dmin
          let d := if allOn.onStages = z.onStages then z.dCmd
            else if z.sOn s.sg = 0 then dmin else max dmin (z.dCmd * z.sOn s.sg / allOn.sOn s.sg)
          y = { allOn with dCmd := d, dTarget := some l, override := some { kind := .manual, level := l, scope := scope } })
        ∧ (kind = 2 →
          let l := clamped (withReserve.dminOn s.groups)
          y = { withReserve with dCmd := l, dTarget := some l, override := some { kind := .fire, level := l, scope := scope } })
    let offered := fun (t : State) (z : Fin 32) => ∀ (place : Place) (g : Fin 48), (place, g) ∈ s.zones[z].places →
      s.slotCount g = 1 →
      let level := if t.zones[z].isOn place = true ∧ s.groups[g].dmin ≤ t.zones[z].dCmd then t.zones[z].dCmd else 0
      let now := s.now + h.dt
      t.groups[g] = { s.groups[g] with sent := t.groups[g].sent, refreshFrom := t.groups[g].refreshFrom, due := t.groups[g].due,
                                       pendingMark := t.groups[g].pendingMark }
        ∧ (s.groups[g].owner = .line → s.noLevelOffered t g)
        ∧ (s.groups[g].owner = .part → kind = 2 → s.levelOffered t g level .fire now)
        ∧ (s.groups[g].owner = .part → kind = 1 →
          (level ≠ s.groups[g].sent → s.levelOffered t g level .autoManual now)
            ∧ (level = s.groups[g].sent → s.noLevelOffered t g))
    let frame := fun t : State =>
      t.responded (s.responseEntry h .ok [] false) ∧ t.portalFlags = s.portalFlags
        ∧ t.exceptRegulation = { s with now := s.now + h.dt, placed := s.placed + 1, slot0 := t.slot0 }.exceptRegulation
    (∀ z : Fin 32, let command := Instr.force h (0 :: BitVec.ofNat 8 z.val :: kind :: hi :: lo :: more)
        let allowed := s.mode = .running ∧ s.zones[z].used = true ∧ s.regulating s.zones[z].portal = true
        (¬ allowed → exec command s = .next (s.answered h .wrongState []))
          ∧ (allowed → kind ≠ 1 → kind ≠ 2 → exec command s = .next (s.answered h .badValue []))
          ∧ (allowed → kind = 1 ∨ kind = 2 → ∃ t, exec command s = .next t ∧ frame t ∧ t.portals = s.portals
              ∧ forced s.zones[z] t.zones[z] .zone ∧ (∀ o : Fin 32, o ≠ z → t.zones[o] = s.zones[o]) ∧ offered t z
              ∧ ∀ g : Fin 48, g ∉ s.zones[z].standing → t.groups[g] = s.groups[g]))
      ∧ ∀ p : Fin 4, let command := Instr.force h (1 :: BitVec.ofNat 8 p.val :: kind :: hi :: lo :: more)
        let allowed := s.mode = .running ∧ s.regulating p = true
        (¬ allowed → exec command s = .next (s.answered h .wrongState []))
          ∧ (allowed → kind ≠ 1 → kind ≠ 2 → exec command s = .next (s.answered h .badValue []))
          ∧ (∀ k, allowed → (kind = 1 ∧ k = OverrideKind.manual) ∨ (kind = 2 ∧ k = OverrideKind.fire) →
              ∃ t, exec command s = .next t ∧ frame t
              ∧ t.portals = (updAt s.portals p fun r => { r with override := some { kind := k, level := asked } })
              ∧ (∀ g : Fin 48, (∀ z : Fin 32, s.zones[z].used = true → s.zones[z].portal = p → g ∉ s.zones[z].standing) →
                  t.groups[g] = s.groups[g])
              ∧ ∀ z : Fin 32, (s.zones[z].used = true → s.zones[z].portal = p →
                  forced s.zones[z] t.zones[z] .portal ∧ offered t z)
                ∧ (¬ (s.zones[z].used = true ∧ s.zones[z].portal = p) → t.zones[z] = s.zones[z]))

/-- RELEASE (R127): refused unless RUNNING with the zone used and its portal regulating, or the portal regulating; else the override of
the zone, or those of the portal and its used zones, are cleared and nothing else changes. -/
def Obligations.ReleaseClearsOverrides : Prop :=
  ∀ (h : ReqHead) (more : List Byte) (s : State), s.engineFree → s.roomInC → s.holdsControl h.src = true →
    (∀ z : Fin 32, let command := Instr.release h (0 :: BitVec.ofNat 8 z.val :: more)
        let allowed := s.mode = .running ∧ s.zones[z].used = true ∧ s.regulating s.zones[z].portal = true
        (¬ allowed → exec command s = .next (s.answered h .wrongState []))
          ∧ (allowed → exec command s = .next { s.answered h .ok [] with
              zones := updAt s.zones z fun r => { r with override := none } }))
      ∧ ∀ p : Fin 4, let command := Instr.release h (1 :: BitVec.ofNat 8 p.val :: more)
        let allowed := s.mode = .running ∧ s.regulating p = true
        (¬ allowed → exec command s = .next (s.answered h .wrongState []))
          ∧ (allowed → exec command s = .next { s.answered h .ok [] with
              portals := updAt s.portals p fun r => { r with override := none }
              zones := updAll s.zones fun _ z => if z.used = true ∧ z.portal = p then { z with override := none } else z })

/-- RESCAN (R136, R137, R139): WRONG_STATE in TRANSPARENT, BUSY while one is in progress; else the SCAN POLL of the first used driver is
offered, and with no used driver the rescan ends as it starts. -/
def Obligations.RescanStarts : Prop :=
  ∀ (h : ReqHead) (s : State), s.engineFree → s.roomInC → s.holdsControl h.src = true →
    (s.mode = .transparent → exec (.rescan h) s = .next (s.answered h .wrongState []))
      ∧ (s.mode = .running → s.rescan ≠ .none → exec (.rescan h) s = .next (s.answered h .busy []))
      ∧ (∀ d : Fin 160, s.mode = .running → s.rescan = .none → s.drivers[d].used = true →
          (∀ m : Fin 160, m < d → s.drivers[m].used = false) → s.fQueue.length < 32 →
        exec (.rescan h) s = .next { s.answered h .ok [] with
          rescan := .awaitWindow, rescanPosition := 0, fQueue := s.fQueue ++ [.poll d .scan] })
      ∧ (∀ d n : Fin 160, s.mode = .running → s.rescan = .none → s.drivers[d].used = true →
          (∀ m : Fin 160, m < d → s.drivers[m].used = false) → s.fQueue.length = 32 → d < n → s.drivers[n].used = true →
        exec (.rescan h) s = .next { s.answered h .ok [] with rescan := .awaitTimer, rescanPosition := d.val + 1 })
      ∧ (s.mode = .running → s.rescan = .none → (∀ d : Fin 160, s.drivers[d].used = false) →
        ∃ t, exec (.rescan h) s = .next t ∧ t.rescan = .none ∧ t.rescanPosition = 160 ∧ t.deviceFlags.getLsbD 3 = true
          ∧ t.drivers = s.drivers ∧ t.fQueue = s.fQueue ∧ t.responded (s.responseEntry h .ok [] false))

/-- CLEAR_FLAGS and READ_COUNTER (R157, R166): the named flags are cleared and the set as it then stands is answered; the counter's
value and mark are answered as read and, with the clear mark yes, are then 0 and clear. -/
def Obligations.FlagsAndCountersRead : Prop :=
  ∀ (h : ReqHead) (more : List Byte) (s : State), s.engineFree → s.roomInC →
    (∀ mask : Byte, s.holdsControl h.src = true →
        (32 ≤ mask.toNat → exec (.clearFlags h (0 :: mask :: more)) s = .next (s.answered h .badField []))
          ∧ (mask.toNat < 32 →
            let left := s.deviceFlags &&& ~~~(mask.setWidth 5)
            exec (.clearFlags h (0 :: mask :: more)) s
              = .next { s.answered h .ok [left.setWidth 8] with deviceFlags := left }))
      ∧ (∀ (p : Fin 4) (mask : Byte), s.holdsControl h.src = true →
        (64 ≤ mask.toNat → exec (.clearFlags h (BitVec.ofNat 8 (p.val + 1) :: mask :: more)) s = .next (s.answered h .badField []))
          ∧ (mask.toNat < 64 →
            let left := s.portalFlags[p] &&& ~~~(mask.setWidth 6)
            exec (.clearFlags h (BitVec.ofNat 8 (p.val + 1) :: mask :: more)) s
              = .next { s.answered h .ok [left.setWidth 8] with portalFlags := updAt s.portalFlags p fun _ => left }))
      ∧ ∀ (i : Fin 8) (clear : Byte), (if i.val < 4 then s.holdsControl h.src else s.holdsMaintenance h.src) = true →
        let c := s.counters[i]
        let read := s.answered h .ok (wordBytes c.value ++ [if c.sticky then 1 else 0])
        (clear = 0 → exec (.readCounter h (BitVec.ofNat 8 i.val :: clear :: more)) s = .next read)
          ∧ (clear = 1 → exec (.readCounter h (BitVec.ofNat 8 i.val :: clear :: more)) s
              = .next { read with counters := updAt s.counters i fun c => { c with value := 0, sticky := false } })
          ∧ (2 ≤ clear.toNat → exec (.readCounter h (BitVec.ofNat 8 i.val :: clear :: more)) s = .next (s.answered h .badValue []))

/-- RESTART and the slots (R41, R144, R145, R158): RESTART is answered OK and is then pending; while it is pending a request is placed
and not executed; a GET answered at a full C queue waits in its slot; with slot 0 occupied the next request takes slot 1 when rollover
allows; a request that finds no slot is dropped, counted under code 12, and then latches MGMT_OVR, an order the manual does not give
(log 28). The number of a placing is the model's own (log 34). -/
def Obligations.RestartAndSlots : Prop :=
  (∀ (h : ReqHead) (s : State), s.engineFree → s.roomInC → s.holdsControl h.src = true →
      exec (.restart h) s = .next { s.elapse h.dt with
        placed := s.placed + 1, restartPending := true, cQueue := s.cQueue ++ [s.responseEntry h .ok [] true] })
    ∧ ∀ (i : Instr) (dt : Nat) (src : Byte) (payload : List Byte) (s : State), s.live = true →
      requestOf i = some (dt, src, payload) →
      let request : Frame := { dest := s.ownAddress, src := src, cls := clsMreq, payload := payload }
      let held : Slot := { request := request, moment := s.now + dt, number := s.placed, response := none }
      let later := { s.elapse dt with placed := s.placed + 1 }
      (s.restartPending = true → s.slot0 = none → exec i s = .next { later with slot0 := some held })
        ∧ (s.restartPending = true → s.slot0.isSome = true → s.device.rollover = true → s.slot1 = none →
            exec i s = .next { later with slot1 := some held })
        ∧ (s.slot0.isSome = true → s.device.rollover = false ∨ s.slot1.isSome = true →
            exec i s = .next (((s.elapse dt).count 12 (unscoped 1)).deviceEvent .mgmtOvr src 0))
        ∧ ∀ (h : ReqHead) (table row field : Byte) (more : List Byte) (t : Target), i = .get h (table :: row :: field :: more) →
            s.restartPending = false → Target.resolve table row field = .ok t → s.holdsControl src = true →
            s.cQueue.length = 16 →
            let answer := s.responseEntry h .ok (wordBytes ((s.elapse dt).read t)) false
            (s.slot0 = none → exec i s = .next { later with slot0 := some { held with response := some answer } })
              ∧ (s.slot0.isSome = true → s.device.rollover = true → s.slot1 = none →
                exec i s = .next { later with slot1 := some { held with response := some answer } })

/-! ### Laws that every step keeps -/

/-- The queues keep their sizes and their pending marks, and a request slot is held only by a waiting response or a pending RESTART
(R34, R39, R41, R144). -/
def Obligations.StepKeepsQueuesAndSlots : Prop :=
  ∀ s t : State, s.queuesSound ∧ s.slotsSound → step s = .next t → t.queuesSound ∧ t.slotsSound

/-- Every sensor record stays as its state says (R54 to R61, Table 4-3). -/
def Obligations.StepKeepsSensorsSound : Prop := ∀ s t : State, s.sensorsSound → step s = .next t → t.sensorsSound

/-- Portals regulate only in RUNNING, with their timers running and L_int not above the threshold ceiling (R75, R78, R79, R86). -/
def Obligations.StepKeepsRegulationSound : Prop :=
  ∀ s t : State, s.regulationSound ∧ s.interiorBelowCeiling → step s = .next t → t.regulationSound ∧ t.interiorBelowCeiling

/-- No level is ever above 1,000 (R34, R115, R123, Tables 6-1 and 6-2). -/
def Obligations.StepKeepsLevelsWithinRange : Prop := ∀ s t : State, s.levelsSound → step s = .next t → t.levelsSound

/-- In RUNNING the tables stay whole: every used group in exactly one slot, every used driver in a used group, line addresses unique
(R150). -/
def Obligations.StepKeepsTablesWhole : Prop := ∀ s t : State, s.tablesWhole → step s = .next t → t.tablesWhole

/-- Every configuration field stays in its range (R73, R76, R92 to R94, R131, R151, R168). -/
def Obligations.StepKeepsConfigurationInRange : Prop := ∀ s t : State, s.configSound → step s = .next t → t.configSound

/-- The laws hold right after reset, whatever the levels at the pins. That State.reset is the part with all of them low is the model's
choice (log 5). -/
def Obligations.LawsHoldAfterPowerOn : Prop :=
  ∀ (addr : BitVec 4) (rate : BitVec 2),
    let s := State.powerOn addr rate
    s.receiversSound ∧ s.queuesSound ∧ s.slotsSound ∧ s.sensorsSound ∧ s.regulationSound ∧ s.interiorBelowCeiling ∧ s.levelsSound
      ∧ s.tablesWhole ∧ s.configSound ∧ s.relayFollows ∧ State.reset = State.powerOn 0 0
end

