-- ==== Sys2Proof/Laws/State.lean ====
section
/-! SUPPORT. What each shared update of the state leaves in each field: one lemma per field. -/

namespace Sys2Proof.Machine

variable (s : State)

/-! ### elapse -/

@[simp] theorem State.elapse_supply (dt : Time) : (s.elapse dt).supply = s.supply := rfl
@[simp] theorem State.elapse_resetLow (dt : Time) : (s.elapse dt).resetLow = s.resetLow := rfl
@[simp] theorem State.elapse_relayDriven (dt : Time) : (s.elapse dt).relayDriven = s.relayDriven := rfl
@[simp] theorem State.elapse_addrPins (dt : Time) : (s.elapse dt).addrPins = s.addrPins := rfl
@[simp] theorem State.elapse_ratePins (dt : Time) : (s.elapse dt).ratePins = s.ratePins := rfl
@[simp] theorem State.elapse_now (dt : Time) : (s.elapse dt).now = s.now + dt := rfl
@[simp] theorem State.elapse_cRx (dt : Time) : (s.elapse dt).cRx = s.cRx := rfl
@[simp] theorem State.elapse_fRx (dt : Time) : (s.elapse dt).fRx = s.fRx := rfl
@[simp] theorem State.elapse_cTx (dt : Time) : (s.elapse dt).cTx = s.cTx := rfl
@[simp] theorem State.elapse_fTx (dt : Time) : (s.elapse dt).fTx = s.fTx := rfl
@[simp] theorem State.elapse_fQueue (dt : Time) : (s.elapse dt).fQueue = s.fQueue := rfl
@[simp] theorem State.elapse_cQueue (dt : Time) : (s.elapse dt).cQueue = s.cQueue := rfl
@[simp] theorem State.elapse_accept (dt : Time) : (s.elapse dt).accept = s.accept := rfl
@[simp] theorem State.elapse_sensors (dt : Time) : (s.elapse dt).sensors = s.sensors := rfl
@[simp] theorem State.elapse_pulses (dt : Time) : (s.elapse dt).pulses = s.pulses := rfl
@[simp] theorem State.elapse_portals (dt : Time) : (s.elapse dt).portals = s.portals := rfl
@[simp] theorem State.elapse_kTable (dt : Time) : (s.elapse dt).kTable = s.kTable := rfl
@[simp] theorem State.elapse_zones (dt : Time) : (s.elapse dt).zones = s.zones := rfl
@[simp] theorem State.elapse_groups (dt : Time) : (s.elapse dt).groups = s.groups := rfl
@[simp] theorem State.elapse_drivers (dt : Time) : (s.elapse dt).drivers = s.drivers := rfl
@[simp] theorem State.elapse_counters (dt : Time) : (s.elapse dt).counters = s.counters := rfl
@[simp] theorem State.elapse_deviceFlags (dt : Time) : (s.elapse dt).deviceFlags = s.deviceFlags := rfl
@[simp] theorem State.elapse_portalFlags (dt : Time) : (s.elapse dt).portalFlags = s.portalFlags := rfl
@[simp] theorem State.elapse_device (dt : Time) : (s.elapse dt).device = s.device := rfl
@[simp] theorem State.elapse_mode (dt : Time) : (s.elapse dt).mode = s.mode := rfl
@[simp] theorem State.elapse_restartPending (dt : Time) : (s.elapse dt).restartPending = s.restartPending := rfl
@[simp] theorem State.elapse_slot0 (dt : Time) : (s.elapse dt).slot0 = s.slot0 := rfl
@[simp] theorem State.elapse_slot1 (dt : Time) : (s.elapse dt).slot1 = s.slot1 := rfl
@[simp] theorem State.elapse_placed (dt : Time) : (s.elapse dt).placed = s.placed := rfl
@[simp] theorem State.elapse_pollTimer (dt : Time) : (s.elapse dt).pollTimer = s.pollTimer := rfl
@[simp] theorem State.elapse_cursor (dt : Time) : (s.elapse dt).cursor = s.cursor := rfl
@[simp] theorem State.elapse_rescan (dt : Time) : (s.elapse dt).rescan = s.rescan := rfl
@[simp] theorem State.elapse_rescanPosition (dt : Time) : (s.elapse dt).rescanPosition = s.rescanPosition := rfl
@[simp] theorem State.elapse_scanOrphan (dt : Time) : (s.elapse dt).scanOrphan = s.scanOrphan := rfl
@[simp] theorem State.elapse_secondTimer (dt : Time) : (s.elapse dt).secondTimer = s.secondTimer := rfl
@[simp] theorem State.elapse_pending (dt : Time) : (s.elapse dt).pending = s.pending := rfl

/-! ### reach -/

@[simp] theorem State.reach_supply (t : Time) : (s.reach t).supply = s.supply := rfl
@[simp] theorem State.reach_resetLow (t : Time) : (s.reach t).resetLow = s.resetLow := rfl
@[simp] theorem State.reach_relayDriven (t : Time) : (s.reach t).relayDriven = s.relayDriven := rfl
@[simp] theorem State.reach_addrPins (t : Time) : (s.reach t).addrPins = s.addrPins := rfl
@[simp] theorem State.reach_ratePins (t : Time) : (s.reach t).ratePins = s.ratePins := rfl
@[simp] theorem State.reach_now (t : Time) : (s.reach t).now = max s.now t := rfl
@[simp] theorem State.reach_cRx (t : Time) : (s.reach t).cRx = s.cRx := rfl
@[simp] theorem State.reach_fRx (t : Time) : (s.reach t).fRx = s.fRx := rfl
@[simp] theorem State.reach_cTx (t : Time) : (s.reach t).cTx = s.cTx := rfl
@[simp] theorem State.reach_fTx (t : Time) : (s.reach t).fTx = s.fTx := rfl
@[simp] theorem State.reach_fQueue (t : Time) : (s.reach t).fQueue = s.fQueue := rfl
@[simp] theorem State.reach_cQueue (t : Time) : (s.reach t).cQueue = s.cQueue := rfl
@[simp] theorem State.reach_accept (t : Time) : (s.reach t).accept = s.accept := rfl
@[simp] theorem State.reach_sensors (t : Time) : (s.reach t).sensors = s.sensors := rfl
@[simp] theorem State.reach_pulses (t : Time) : (s.reach t).pulses = s.pulses := rfl
@[simp] theorem State.reach_portals (t : Time) : (s.reach t).portals = s.portals := rfl
@[simp] theorem State.reach_kTable (t : Time) : (s.reach t).kTable = s.kTable := rfl
@[simp] theorem State.reach_zones (t : Time) : (s.reach t).zones = s.zones := rfl
@[simp] theorem State.reach_groups (t : Time) : (s.reach t).groups = s.groups := rfl
@[simp] theorem State.reach_drivers (t : Time) : (s.reach t).drivers = s.drivers := rfl
@[simp] theorem State.reach_counters (t : Time) : (s.reach t).counters = s.counters := rfl
@[simp] theorem State.reach_deviceFlags (t : Time) : (s.reach t).deviceFlags = s.deviceFlags := rfl
@[simp] theorem State.reach_portalFlags (t : Time) : (s.reach t).portalFlags = s.portalFlags := rfl
@[simp] theorem State.reach_device (t : Time) : (s.reach t).device = s.device := rfl
@[simp] theorem State.reach_mode (t : Time) : (s.reach t).mode = s.mode := rfl
@[simp] theorem State.reach_restartPending (t : Time) : (s.reach t).restartPending = s.restartPending := rfl
@[simp] theorem State.reach_slot0 (t : Time) : (s.reach t).slot0 = s.slot0 := rfl
@[simp] theorem State.reach_slot1 (t : Time) : (s.reach t).slot1 = s.slot1 := rfl
@[simp] theorem State.reach_placed (t : Time) : (s.reach t).placed = s.placed := rfl
@[simp] theorem State.reach_pollTimer (t : Time) : (s.reach t).pollTimer = s.pollTimer := rfl
@[simp] theorem State.reach_cursor (t : Time) : (s.reach t).cursor = s.cursor := rfl
@[simp] theorem State.reach_rescan (t : Time) : (s.reach t).rescan = s.rescan := rfl
@[simp] theorem State.reach_rescanPosition (t : Time) : (s.reach t).rescanPosition = s.rescanPosition := rfl
@[simp] theorem State.reach_scanOrphan (t : Time) : (s.reach t).scanOrphan = s.scanOrphan := rfl
@[simp] theorem State.reach_secondTimer (t : Time) : (s.reach t).secondTimer = s.secondTimer := rfl
@[simp] theorem State.reach_pending (t : Time) : (s.reach t).pending = s.pending := rfl

/-! ### withReport -/

@[simp] theorem State.withReport_supply (r : Report) : (s.withReport r).supply = s.supply := rfl
@[simp] theorem State.withReport_resetLow (r : Report) : (s.withReport r).resetLow = s.resetLow := rfl
@[simp] theorem State.withReport_relayDriven (r : Report) : (s.withReport r).relayDriven = s.relayDriven := rfl
@[simp] theorem State.withReport_addrPins (r : Report) : (s.withReport r).addrPins = s.addrPins := rfl
@[simp] theorem State.withReport_ratePins (r : Report) : (s.withReport r).ratePins = s.ratePins := rfl
@[simp] theorem State.withReport_now (r : Report) : (s.withReport r).now = s.now := rfl
@[simp] theorem State.withReport_cRx (r : Report) : (s.withReport r).cRx = s.cRx := rfl
@[simp] theorem State.withReport_fRx (r : Report) : (s.withReport r).fRx = s.fRx := rfl
@[simp] theorem State.withReport_cTx (r : Report) : (s.withReport r).cTx = s.cTx := rfl
@[simp] theorem State.withReport_fTx (r : Report) : (s.withReport r).fTx = s.fTx := rfl
@[simp] theorem State.withReport_fQueue (r : Report) : (s.withReport r).fQueue = s.fQueue := rfl
@[simp] theorem State.withReport_cQueue (r : Report) : (s.withReport r).cQueue = r.cQueue := rfl
@[simp] theorem State.withReport_accept (r : Report) : (s.withReport r).accept = s.accept := rfl
@[simp] theorem State.withReport_sensors (r : Report) : (s.withReport r).sensors = s.sensors := rfl
@[simp] theorem State.withReport_pulses (r : Report) : (s.withReport r).pulses = s.pulses := rfl
@[simp] theorem State.withReport_portals (r : Report) : (s.withReport r).portals = s.portals := rfl
@[simp] theorem State.withReport_kTable (r : Report) : (s.withReport r).kTable = s.kTable := rfl
@[simp] theorem State.withReport_zones (r : Report) : (s.withReport r).zones = s.zones := rfl
@[simp] theorem State.withReport_groups (r : Report) : (s.withReport r).groups = s.groups := rfl
@[simp] theorem State.withReport_drivers (r : Report) : (s.withReport r).drivers = s.drivers := rfl
@[simp] theorem State.withReport_counters (r : Report) : (s.withReport r).counters = r.counters := rfl
@[simp] theorem State.withReport_deviceFlags (r : Report) : (s.withReport r).deviceFlags = r.deviceFlags := rfl
@[simp] theorem State.withReport_portalFlags (r : Report) : (s.withReport r).portalFlags = s.portalFlags := rfl
@[simp] theorem State.withReport_device (r : Report) : (s.withReport r).device = s.device := rfl
@[simp] theorem State.withReport_mode (r : Report) : (s.withReport r).mode = s.mode := rfl
@[simp] theorem State.withReport_restartPending (r : Report) : (s.withReport r).restartPending = s.restartPending := rfl
@[simp] theorem State.withReport_slot0 (r : Report) : (s.withReport r).slot0 = s.slot0 := rfl
@[simp] theorem State.withReport_slot1 (r : Report) : (s.withReport r).slot1 = s.slot1 := rfl
@[simp] theorem State.withReport_placed (r : Report) : (s.withReport r).placed = s.placed := rfl
@[simp] theorem State.withReport_pollTimer (r : Report) : (s.withReport r).pollTimer = s.pollTimer := rfl
@[simp] theorem State.withReport_cursor (r : Report) : (s.withReport r).cursor = s.cursor := rfl
@[simp] theorem State.withReport_rescan (r : Report) : (s.withReport r).rescan = s.rescan := rfl
@[simp] theorem State.withReport_rescanPosition (r : Report) : (s.withReport r).rescanPosition = s.rescanPosition := rfl
@[simp] theorem State.withReport_scanOrphan (r : Report) : (s.withReport r).scanOrphan = s.scanOrphan := rfl
@[simp] theorem State.withReport_secondTimer (r : Report) : (s.withReport r).secondTimer = s.secondTimer := rfl
@[simp] theorem State.withReport_pending (r : Report) : (s.withReport r).pending = s.pending := rfl

/-! ### count -/

@[simp] theorem State.count_supply (c : Fin 16) (a : CounterScope → Nat) : (s.count c a).supply = s.supply :=
  s.withReport_supply _
@[simp] theorem State.count_resetLow (c : Fin 16) (a : CounterScope → Nat) : (s.count c a).resetLow = s.resetLow :=
  s.withReport_resetLow _
@[simp] theorem State.count_relayDriven (c : Fin 16) (a : CounterScope → Nat) : (s.count c a).relayDriven = s.relayDriven :=
  s.withReport_relayDriven _
@[simp] theorem State.count_addrPins (c : Fin 16) (a : CounterScope → Nat) : (s.count c a).addrPins = s.addrPins :=
  s.withReport_addrPins _
@[simp] theorem State.count_ratePins (c : Fin 16) (a : CounterScope → Nat) : (s.count c a).ratePins = s.ratePins :=
  s.withReport_ratePins _
@[simp] theorem State.count_now (c : Fin 16) (a : CounterScope → Nat) : (s.count c a).now = s.now :=
  s.withReport_now _
@[simp] theorem State.count_cRx (c : Fin 16) (a : CounterScope → Nat) : (s.count c a).cRx = s.cRx :=
  s.withReport_cRx _
@[simp] theorem State.count_fRx (c : Fin 16) (a : CounterScope → Nat) : (s.count c a).fRx = s.fRx :=
  s.withReport_fRx _
@[simp] theorem State.count_cTx (c : Fin 16) (a : CounterScope → Nat) : (s.count c a).cTx = s.cTx :=
  s.withReport_cTx _
@[simp] theorem State.count_fTx (c : Fin 16) (a : CounterScope → Nat) : (s.count c a).fTx = s.fTx :=
  s.withReport_fTx _
@[simp] theorem State.count_fQueue (c : Fin 16) (a : CounterScope → Nat) : (s.count c a).fQueue = s.fQueue :=
  s.withReport_fQueue _
@[simp] theorem State.count_accept (c : Fin 16) (a : CounterScope → Nat) : (s.count c a).accept = s.accept :=
  s.withReport_accept _
@[simp] theorem State.count_sensors (c : Fin 16) (a : CounterScope → Nat) : (s.count c a).sensors = s.sensors :=
  s.withReport_sensors _
@[simp] theorem State.count_pulses (c : Fin 16) (a : CounterScope → Nat) : (s.count c a).pulses = s.pulses :=
  s.withReport_pulses _
@[simp] theorem State.count_portals (c : Fin 16) (a : CounterScope → Nat) : (s.count c a).portals = s.portals :=
  s.withReport_portals _
@[simp] theorem State.count_kTable (c : Fin 16) (a : CounterScope → Nat) : (s.count c a).kTable = s.kTable :=
  s.withReport_kTable _
@[simp] theorem State.count_zones (c : Fin 16) (a : CounterScope → Nat) : (s.count c a).zones = s.zones :=
  s.withReport_zones _
@[simp] theorem State.count_groups (c : Fin 16) (a : CounterScope → Nat) : (s.count c a).groups = s.groups :=
  s.withReport_groups _
@[simp] theorem State.count_drivers (c : Fin 16) (a : CounterScope → Nat) : (s.count c a).drivers = s.drivers :=
  s.withReport_drivers _
@[simp] theorem State.count_portalFlags (c : Fin 16) (a : CounterScope → Nat) : (s.count c a).portalFlags = s.portalFlags :=
  s.withReport_portalFlags _
@[simp] theorem State.count_device (c : Fin 16) (a : CounterScope → Nat) : (s.count c a).device = s.device :=
  s.withReport_device _
@[simp] theorem State.count_mode (c : Fin 16) (a : CounterScope → Nat) : (s.count c a).mode = s.mode :=
  s.withReport_mode _
@[simp] theorem State.count_restartPending (c : Fin 16) (a : CounterScope → Nat) : (s.count c a).restartPending = s.restartPending :=
  s.withReport_restartPending _
@[simp] theorem State.count_slot0 (c : Fin 16) (a : CounterScope → Nat) : (s.count c a).slot0 = s.slot0 :=
  s.withReport_slot0 _
@[simp] theorem State.count_slot1 (c : Fin 16) (a : CounterScope → Nat) : (s.count c a).slot1 = s.slot1 :=
  s.withReport_slot1 _
@[simp] theorem State.count_placed (c : Fin 16) (a : CounterScope → Nat) : (s.count c a).placed = s.placed :=
  s.withReport_placed _
@[simp] theorem State.count_pollTimer (c : Fin 16) (a : CounterScope → Nat) : (s.count c a).pollTimer = s.pollTimer :=
  s.withReport_pollTimer _
@[simp] theorem State.count_cursor (c : Fin 16) (a : CounterScope → Nat) : (s.count c a).cursor = s.cursor :=
  s.withReport_cursor _
@[simp] theorem State.count_rescan (c : Fin 16) (a : CounterScope → Nat) : (s.count c a).rescan = s.rescan :=
  s.withReport_rescan _
@[simp] theorem State.count_rescanPosition (c : Fin 16) (a : CounterScope → Nat) : (s.count c a).rescanPosition = s.rescanPosition :=
  s.withReport_rescanPosition _
@[simp] theorem State.count_scanOrphan (c : Fin 16) (a : CounterScope → Nat) : (s.count c a).scanOrphan = s.scanOrphan :=
  s.withReport_scanOrphan _
@[simp] theorem State.count_secondTimer (c : Fin 16) (a : CounterScope → Nat) : (s.count c a).secondTimer = s.secondTimer :=
  s.withReport_secondTimer _
@[simp] theorem State.count_pending (c : Fin 16) (a : CounterScope → Nat) : (s.count c a).pending = s.pending :=
  s.withReport_pending _

/-! ### offerAlert -/

@[simp] theorem State.offerAlert_supply (en : Bool) (e o : Byte) (v : Nat) : (s.offerAlert en e o v).supply = s.supply :=
  s.withReport_supply _
@[simp] theorem State.offerAlert_resetLow (en : Bool) (e o : Byte) (v : Nat) : (s.offerAlert en e o v).resetLow = s.resetLow :=
  s.withReport_resetLow _
@[simp] theorem State.offerAlert_relayDriven (en : Bool) (e o : Byte) (v : Nat) : (s.offerAlert en e o v).relayDriven = s.relayDriven :=
  s.withReport_relayDriven _
@[simp] theorem State.offerAlert_addrPins (en : Bool) (e o : Byte) (v : Nat) : (s.offerAlert en e o v).addrPins = s.addrPins :=
  s.withReport_addrPins _
@[simp] theorem State.offerAlert_ratePins (en : Bool) (e o : Byte) (v : Nat) : (s.offerAlert en e o v).ratePins = s.ratePins :=
  s.withReport_ratePins _
@[simp] theorem State.offerAlert_now (en : Bool) (e o : Byte) (v : Nat) : (s.offerAlert en e o v).now = s.now :=
  s.withReport_now _
@[simp] theorem State.offerAlert_cRx (en : Bool) (e o : Byte) (v : Nat) : (s.offerAlert en e o v).cRx = s.cRx :=
  s.withReport_cRx _
@[simp] theorem State.offerAlert_fRx (en : Bool) (e o : Byte) (v : Nat) : (s.offerAlert en e o v).fRx = s.fRx :=
  s.withReport_fRx _
@[simp] theorem State.offerAlert_cTx (en : Bool) (e o : Byte) (v : Nat) : (s.offerAlert en e o v).cTx = s.cTx :=
  s.withReport_cTx _
@[simp] theorem State.offerAlert_fTx (en : Bool) (e o : Byte) (v : Nat) : (s.offerAlert en e o v).fTx = s.fTx :=
  s.withReport_fTx _
@[simp] theorem State.offerAlert_fQueue (en : Bool) (e o : Byte) (v : Nat) : (s.offerAlert en e o v).fQueue = s.fQueue :=
  s.withReport_fQueue _
@[simp] theorem State.offerAlert_accept (en : Bool) (e o : Byte) (v : Nat) : (s.offerAlert en e o v).accept = s.accept :=
  s.withReport_accept _
@[simp] theorem State.offerAlert_sensors (en : Bool) (e o : Byte) (v : Nat) : (s.offerAlert en e o v).sensors = s.sensors :=
  s.withReport_sensors _
@[simp] theorem State.offerAlert_pulses (en : Bool) (e o : Byte) (v : Nat) : (s.offerAlert en e o v).pulses = s.pulses :=
  s.withReport_pulses _
@[simp] theorem State.offerAlert_portals (en : Bool) (e o : Byte) (v : Nat) : (s.offerAlert en e o v).portals = s.portals :=
  s.withReport_portals _
@[simp] theorem State.offerAlert_kTable (en : Bool) (e o : Byte) (v : Nat) : (s.offerAlert en e o v).kTable = s.kTable :=
  s.withReport_kTable _
@[simp] theorem State.offerAlert_zones (en : Bool) (e o : Byte) (v : Nat) : (s.offerAlert en e o v).zones = s.zones :=
  s.withReport_zones _
@[simp] theorem State.offerAlert_groups (en : Bool) (e o : Byte) (v : Nat) : (s.offerAlert en e o v).groups = s.groups :=
  s.withReport_groups _
@[simp] theorem State.offerAlert_drivers (en : Bool) (e o : Byte) (v : Nat) : (s.offerAlert en e o v).drivers = s.drivers :=
  s.withReport_drivers _
@[simp] theorem State.offerAlert_portalFlags (en : Bool) (e o : Byte) (v : Nat) : (s.offerAlert en e o v).portalFlags = s.portalFlags :=
  s.withReport_portalFlags _
@[simp] theorem State.offerAlert_device (en : Bool) (e o : Byte) (v : Nat) : (s.offerAlert en e o v).device = s.device :=
  s.withReport_device _
@[simp] theorem State.offerAlert_mode (en : Bool) (e o : Byte) (v : Nat) : (s.offerAlert en e o v).mode = s.mode :=
  s.withReport_mode _
@[simp] theorem State.offerAlert_restartPending (en : Bool) (e o : Byte) (v : Nat) : (s.offerAlert en e o v).restartPending = s.restartPending :=
  s.withReport_restartPending _
@[simp] theorem State.offerAlert_slot0 (en : Bool) (e o : Byte) (v : Nat) : (s.offerAlert en e o v).slot0 = s.slot0 :=
  s.withReport_slot0 _
@[simp] theorem State.offerAlert_slot1 (en : Bool) (e o : Byte) (v : Nat) : (s.offerAlert en e o v).slot1 = s.slot1 :=
  s.withReport_slot1 _
@[simp] theorem State.offerAlert_placed (en : Bool) (e o : Byte) (v : Nat) : (s.offerAlert en e o v).placed = s.placed :=
  s.withReport_placed _
@[simp] theorem State.offerAlert_pollTimer (en : Bool) (e o : Byte) (v : Nat) : (s.offerAlert en e o v).pollTimer = s.pollTimer :=
  s.withReport_pollTimer _
@[simp] theorem State.offerAlert_cursor (en : Bool) (e o : Byte) (v : Nat) : (s.offerAlert en e o v).cursor = s.cursor :=
  s.withReport_cursor _
@[simp] theorem State.offerAlert_rescan (en : Bool) (e o : Byte) (v : Nat) : (s.offerAlert en e o v).rescan = s.rescan :=
  s.withReport_rescan _
@[simp] theorem State.offerAlert_rescanPosition (en : Bool) (e o : Byte) (v : Nat) : (s.offerAlert en e o v).rescanPosition = s.rescanPosition :=
  s.withReport_rescanPosition _
@[simp] theorem State.offerAlert_scanOrphan (en : Bool) (e o : Byte) (v : Nat) : (s.offerAlert en e o v).scanOrphan = s.scanOrphan :=
  s.withReport_scanOrphan _
@[simp] theorem State.offerAlert_secondTimer (en : Bool) (e o : Byte) (v : Nat) : (s.offerAlert en e o v).secondTimer = s.secondTimer :=
  s.withReport_secondTimer _
@[simp] theorem State.offerAlert_pending (en : Bool) (e o : Byte) (v : Nat) : (s.offerAlert en e o v).pending = s.pending :=
  s.withReport_pending _

/-! ### deviceEvent -/

@[simp] theorem State.deviceEvent_supply (f : DeviceFlag) (o : Byte) (v : Nat) : (s.deviceEvent f o v).supply = s.supply :=
  s.withReport_supply _
@[simp] theorem State.deviceEvent_resetLow (f : DeviceFlag) (o : Byte) (v : Nat) : (s.deviceEvent f o v).resetLow = s.resetLow :=
  s.withReport_resetLow _
@[simp] theorem State.deviceEvent_relayDriven (f : DeviceFlag) (o : Byte) (v : Nat) : (s.deviceEvent f o v).relayDriven = s.relayDriven :=
  s.withReport_relayDriven _
@[simp] theorem State.deviceEvent_addrPins (f : DeviceFlag) (o : Byte) (v : Nat) : (s.deviceEvent f o v).addrPins = s.addrPins :=
  s.withReport_addrPins _
@[simp] theorem State.deviceEvent_ratePins (f : DeviceFlag) (o : Byte) (v : Nat) : (s.deviceEvent f o v).ratePins = s.ratePins :=
  s.withReport_ratePins _
@[simp] theorem State.deviceEvent_now (f : DeviceFlag) (o : Byte) (v : Nat) : (s.deviceEvent f o v).now = s.now :=
  s.withReport_now _
@[simp] theorem State.deviceEvent_cRx (f : DeviceFlag) (o : Byte) (v : Nat) : (s.deviceEvent f o v).cRx = s.cRx :=
  s.withReport_cRx _
@[simp] theorem State.deviceEvent_fRx (f : DeviceFlag) (o : Byte) (v : Nat) : (s.deviceEvent f o v).fRx = s.fRx :=
  s.withReport_fRx _
@[simp] theorem State.deviceEvent_cTx (f : DeviceFlag) (o : Byte) (v : Nat) : (s.deviceEvent f o v).cTx = s.cTx :=
  s.withReport_cTx _
@[simp] theorem State.deviceEvent_fTx (f : DeviceFlag) (o : Byte) (v : Nat) : (s.deviceEvent f o v).fTx = s.fTx :=
  s.withReport_fTx _
@[simp] theorem State.deviceEvent_fQueue (f : DeviceFlag) (o : Byte) (v : Nat) : (s.deviceEvent f o v).fQueue = s.fQueue :=
  s.withReport_fQueue _
@[simp] theorem State.deviceEvent_accept (f : DeviceFlag) (o : Byte) (v : Nat) : (s.deviceEvent f o v).accept = s.accept :=
  s.withReport_accept _
@[simp] theorem State.deviceEvent_sensors (f : DeviceFlag) (o : Byte) (v : Nat) : (s.deviceEvent f o v).sensors = s.sensors :=
  s.withReport_sensors _
@[simp] theorem State.deviceEvent_pulses (f : DeviceFlag) (o : Byte) (v : Nat) : (s.deviceEvent f o v).pulses = s.pulses :=
  s.withReport_pulses _
@[simp] theorem State.deviceEvent_portals (f : DeviceFlag) (o : Byte) (v : Nat) : (s.deviceEvent f o v).portals = s.portals :=
  s.withReport_portals _
@[simp] theorem State.deviceEvent_kTable (f : DeviceFlag) (o : Byte) (v : Nat) : (s.deviceEvent f o v).kTable = s.kTable :=
  s.withReport_kTable _
@[simp] theorem State.deviceEvent_zones (f : DeviceFlag) (o : Byte) (v : Nat) : (s.deviceEvent f o v).zones = s.zones :=
  s.withReport_zones _
@[simp] theorem State.deviceEvent_groups (f : DeviceFlag) (o : Byte) (v : Nat) : (s.deviceEvent f o v).groups = s.groups :=
  s.withReport_groups _
@[simp] theorem State.deviceEvent_drivers (f : DeviceFlag) (o : Byte) (v : Nat) : (s.deviceEvent f o v).drivers = s.drivers :=
  s.withReport_drivers _
@[simp] theorem State.deviceEvent_portalFlags (f : DeviceFlag) (o : Byte) (v : Nat) : (s.deviceEvent f o v).portalFlags = s.portalFlags :=
  s.withReport_portalFlags _
@[simp] theorem State.deviceEvent_device (f : DeviceFlag) (o : Byte) (v : Nat) : (s.deviceEvent f o v).device = s.device :=
  s.withReport_device _
@[simp] theorem State.deviceEvent_mode (f : DeviceFlag) (o : Byte) (v : Nat) : (s.deviceEvent f o v).mode = s.mode :=
  s.withReport_mode _
@[simp] theorem State.deviceEvent_restartPending (f : DeviceFlag) (o : Byte) (v : Nat) : (s.deviceEvent f o v).restartPending = s.restartPending :=
  s.withReport_restartPending _
@[simp] theorem State.deviceEvent_slot0 (f : DeviceFlag) (o : Byte) (v : Nat) : (s.deviceEvent f o v).slot0 = s.slot0 :=
  s.withReport_slot0 _
@[simp] theorem State.deviceEvent_slot1 (f : DeviceFlag) (o : Byte) (v : Nat) : (s.deviceEvent f o v).slot1 = s.slot1 :=
  s.withReport_slot1 _
@[simp] theorem State.deviceEvent_placed (f : DeviceFlag) (o : Byte) (v : Nat) : (s.deviceEvent f o v).placed = s.placed :=
  s.withReport_placed _
@[simp] theorem State.deviceEvent_pollTimer (f : DeviceFlag) (o : Byte) (v : Nat) : (s.deviceEvent f o v).pollTimer = s.pollTimer :=
  s.withReport_pollTimer _
@[simp] theorem State.deviceEvent_cursor (f : DeviceFlag) (o : Byte) (v : Nat) : (s.deviceEvent f o v).cursor = s.cursor :=
  s.withReport_cursor _
@[simp] theorem State.deviceEvent_rescan (f : DeviceFlag) (o : Byte) (v : Nat) : (s.deviceEvent f o v).rescan = s.rescan :=
  s.withReport_rescan _
@[simp] theorem State.deviceEvent_rescanPosition (f : DeviceFlag) (o : Byte) (v : Nat) : (s.deviceEvent f o v).rescanPosition = s.rescanPosition :=
  s.withReport_rescanPosition _
@[simp] theorem State.deviceEvent_scanOrphan (f : DeviceFlag) (o : Byte) (v : Nat) : (s.deviceEvent f o v).scanOrphan = s.scanOrphan :=
  s.withReport_scanOrphan _
@[simp] theorem State.deviceEvent_secondTimer (f : DeviceFlag) (o : Byte) (v : Nat) : (s.deviceEvent f o v).secondTimer = s.secondTimer :=
  s.withReport_secondTimer _
@[simp] theorem State.deviceEvent_pending (f : DeviceFlag) (o : Byte) (v : Nat) : (s.deviceEvent f o v).pending = s.pending :=
  s.withReport_pending _

/-! ### latchPortal -/

@[simp] theorem State.latchPortal_supply (p : Fin 4) (f : PortalFlag) : (s.latchPortal p f).supply = s.supply :=
  rfl
@[simp] theorem State.latchPortal_resetLow (p : Fin 4) (f : PortalFlag) : (s.latchPortal p f).resetLow = s.resetLow :=
  rfl
@[simp] theorem State.latchPortal_relayDriven (p : Fin 4) (f : PortalFlag) : (s.latchPortal p f).relayDriven = s.relayDriven :=
  rfl
@[simp] theorem State.latchPortal_addrPins (p : Fin 4) (f : PortalFlag) : (s.latchPortal p f).addrPins = s.addrPins :=
  rfl
@[simp] theorem State.latchPortal_ratePins (p : Fin 4) (f : PortalFlag) : (s.latchPortal p f).ratePins = s.ratePins :=
  rfl
@[simp] theorem State.latchPortal_now (p : Fin 4) (f : PortalFlag) : (s.latchPortal p f).now = s.now := rfl
@[simp] theorem State.latchPortal_cRx (p : Fin 4) (f : PortalFlag) : (s.latchPortal p f).cRx = s.cRx := rfl
@[simp] theorem State.latchPortal_fRx (p : Fin 4) (f : PortalFlag) : (s.latchPortal p f).fRx = s.fRx := rfl
@[simp] theorem State.latchPortal_cTx (p : Fin 4) (f : PortalFlag) : (s.latchPortal p f).cTx = s.cTx := rfl
@[simp] theorem State.latchPortal_fTx (p : Fin 4) (f : PortalFlag) : (s.latchPortal p f).fTx = s.fTx := rfl
@[simp] theorem State.latchPortal_fQueue (p : Fin 4) (f : PortalFlag) : (s.latchPortal p f).fQueue = s.fQueue :=
  rfl
@[simp] theorem State.latchPortal_cQueue (p : Fin 4) (f : PortalFlag) : (s.latchPortal p f).cQueue = s.cQueue :=
  rfl
@[simp] theorem State.latchPortal_accept (p : Fin 4) (f : PortalFlag) : (s.latchPortal p f).accept = s.accept :=
  rfl
@[simp] theorem State.latchPortal_sensors (p : Fin 4) (f : PortalFlag) : (s.latchPortal p f).sensors = s.sensors :=
  rfl
@[simp] theorem State.latchPortal_pulses (p : Fin 4) (f : PortalFlag) : (s.latchPortal p f).pulses = s.pulses :=
  rfl
@[simp] theorem State.latchPortal_portals (p : Fin 4) (f : PortalFlag) : (s.latchPortal p f).portals = s.portals :=
  rfl
@[simp] theorem State.latchPortal_kTable (p : Fin 4) (f : PortalFlag) : (s.latchPortal p f).kTable = s.kTable :=
  rfl
@[simp] theorem State.latchPortal_zones (p : Fin 4) (f : PortalFlag) : (s.latchPortal p f).zones = s.zones := rfl
@[simp] theorem State.latchPortal_groups (p : Fin 4) (f : PortalFlag) : (s.latchPortal p f).groups = s.groups :=
  rfl
@[simp] theorem State.latchPortal_drivers (p : Fin 4) (f : PortalFlag) : (s.latchPortal p f).drivers = s.drivers :=
  rfl
@[simp] theorem State.latchPortal_counters (p : Fin 4) (f : PortalFlag) : (s.latchPortal p f).counters = s.counters :=
  rfl
@[simp] theorem State.latchPortal_deviceFlags (p : Fin 4) (f : PortalFlag) : (s.latchPortal p f).deviceFlags = s.deviceFlags :=
  rfl
@[simp] theorem State.latchPortal_portalFlags (p : Fin 4) (f : PortalFlag) : (s.latchPortal p f).portalFlags = updAt s.portalFlags p (· ||| BitVec.ofNat 6 (2 ^ f.bit)) :=
  rfl
@[simp] theorem State.latchPortal_device (p : Fin 4) (f : PortalFlag) : (s.latchPortal p f).device = s.device :=
  rfl
@[simp] theorem State.latchPortal_mode (p : Fin 4) (f : PortalFlag) : (s.latchPortal p f).mode = s.mode := rfl
@[simp] theorem State.latchPortal_restartPending (p : Fin 4) (f : PortalFlag) : (s.latchPortal p f).restartPending = s.restartPending :=
  rfl
@[simp] theorem State.latchPortal_slot0 (p : Fin 4) (f : PortalFlag) : (s.latchPortal p f).slot0 = s.slot0 := rfl
@[simp] theorem State.latchPortal_slot1 (p : Fin 4) (f : PortalFlag) : (s.latchPortal p f).slot1 = s.slot1 := rfl
@[simp] theorem State.latchPortal_placed (p : Fin 4) (f : PortalFlag) : (s.latchPortal p f).placed = s.placed :=
  rfl
@[simp] theorem State.latchPortal_pollTimer (p : Fin 4) (f : PortalFlag) : (s.latchPortal p f).pollTimer = s.pollTimer :=
  rfl
@[simp] theorem State.latchPortal_cursor (p : Fin 4) (f : PortalFlag) : (s.latchPortal p f).cursor = s.cursor :=
  rfl
@[simp] theorem State.latchPortal_rescan (p : Fin 4) (f : PortalFlag) : (s.latchPortal p f).rescan = s.rescan :=
  rfl
@[simp] theorem State.latchPortal_rescanPosition (p : Fin 4) (f : PortalFlag) : (s.latchPortal p f).rescanPosition = s.rescanPosition :=
  rfl
@[simp] theorem State.latchPortal_scanOrphan (p : Fin 4) (f : PortalFlag) : (s.latchPortal p f).scanOrphan = s.scanOrphan :=
  rfl
@[simp] theorem State.latchPortal_secondTimer (p : Fin 4) (f : PortalFlag) : (s.latchPortal p f).secondTimer = s.secondTimer :=
  rfl
@[simp] theorem State.latchPortal_pending (p : Fin 4) (f : PortalFlag) : (s.latchPortal p f).pending = s.pending :=
  rfl

/-! ### portalAlert -/

@[simp] theorem State.portalAlert_supply (p : Fin 4) (e o : Byte) (v : Nat) : (s.portalAlert p e o v).supply = s.supply :=
  s.offerAlert_supply _ _ _ _
@[simp] theorem State.portalAlert_resetLow (p : Fin 4) (e o : Byte) (v : Nat) : (s.portalAlert p e o v).resetLow = s.resetLow :=
  s.offerAlert_resetLow _ _ _ _
@[simp] theorem State.portalAlert_relayDriven (p : Fin 4) (e o : Byte) (v : Nat) : (s.portalAlert p e o v).relayDriven = s.relayDriven :=
  s.offerAlert_relayDriven _ _ _ _
@[simp] theorem State.portalAlert_addrPins (p : Fin 4) (e o : Byte) (v : Nat) : (s.portalAlert p e o v).addrPins = s.addrPins :=
  s.offerAlert_addrPins _ _ _ _
@[simp] theorem State.portalAlert_ratePins (p : Fin 4) (e o : Byte) (v : Nat) : (s.portalAlert p e o v).ratePins = s.ratePins :=
  s.offerAlert_ratePins _ _ _ _
@[simp] theorem State.portalAlert_now (p : Fin 4) (e o : Byte) (v : Nat) : (s.portalAlert p e o v).now = s.now :=
  s.offerAlert_now _ _ _ _
@[simp] theorem State.portalAlert_cRx (p : Fin 4) (e o : Byte) (v : Nat) : (s.portalAlert p e o v).cRx = s.cRx :=
  s.offerAlert_cRx _ _ _ _
@[simp] theorem State.portalAlert_fRx (p : Fin 4) (e o : Byte) (v : Nat) : (s.portalAlert p e o v).fRx = s.fRx :=
  s.offerAlert_fRx _ _ _ _
@[simp] theorem State.portalAlert_cTx (p : Fin 4) (e o : Byte) (v : Nat) : (s.portalAlert p e o v).cTx = s.cTx :=
  s.offerAlert_cTx _ _ _ _
@[simp] theorem State.portalAlert_fTx (p : Fin 4) (e o : Byte) (v : Nat) : (s.portalAlert p e o v).fTx = s.fTx :=
  s.offerAlert_fTx _ _ _ _
@[simp] theorem State.portalAlert_fQueue (p : Fin 4) (e o : Byte) (v : Nat) : (s.portalAlert p e o v).fQueue = s.fQueue :=
  s.offerAlert_fQueue _ _ _ _
@[simp] theorem State.portalAlert_accept (p : Fin 4) (e o : Byte) (v : Nat) : (s.portalAlert p e o v).accept = s.accept :=
  s.offerAlert_accept _ _ _ _
@[simp] theorem State.portalAlert_sensors (p : Fin 4) (e o : Byte) (v : Nat) : (s.portalAlert p e o v).sensors = s.sensors :=
  s.offerAlert_sensors _ _ _ _
@[simp] theorem State.portalAlert_pulses (p : Fin 4) (e o : Byte) (v : Nat) : (s.portalAlert p e o v).pulses = s.pulses :=
  s.offerAlert_pulses _ _ _ _
@[simp] theorem State.portalAlert_portals (p : Fin 4) (e o : Byte) (v : Nat) : (s.portalAlert p e o v).portals = s.portals :=
  s.offerAlert_portals _ _ _ _
@[simp] theorem State.portalAlert_kTable (p : Fin 4) (e o : Byte) (v : Nat) : (s.portalAlert p e o v).kTable = s.kTable :=
  s.offerAlert_kTable _ _ _ _
@[simp] theorem State.portalAlert_zones (p : Fin 4) (e o : Byte) (v : Nat) : (s.portalAlert p e o v).zones = s.zones :=
  s.offerAlert_zones _ _ _ _
@[simp] theorem State.portalAlert_groups (p : Fin 4) (e o : Byte) (v : Nat) : (s.portalAlert p e o v).groups = s.groups :=
  s.offerAlert_groups _ _ _ _
@[simp] theorem State.portalAlert_drivers (p : Fin 4) (e o : Byte) (v : Nat) : (s.portalAlert p e o v).drivers = s.drivers :=
  s.offerAlert_drivers _ _ _ _
@[simp] theorem State.portalAlert_portalFlags (p : Fin 4) (e o : Byte) (v : Nat) : (s.portalAlert p e o v).portalFlags = s.portalFlags :=
  s.offerAlert_portalFlags _ _ _ _
@[simp] theorem State.portalAlert_device (p : Fin 4) (e o : Byte) (v : Nat) : (s.portalAlert p e o v).device = s.device :=
  s.offerAlert_device _ _ _ _
@[simp] theorem State.portalAlert_mode (p : Fin 4) (e o : Byte) (v : Nat) : (s.portalAlert p e o v).mode = s.mode :=
  s.offerAlert_mode _ _ _ _
@[simp] theorem State.portalAlert_restartPending (p : Fin 4) (e o : Byte) (v : Nat) : (s.portalAlert p e o v).restartPending = s.restartPending :=
  s.offerAlert_restartPending _ _ _ _
@[simp] theorem State.portalAlert_slot0 (p : Fin 4) (e o : Byte) (v : Nat) : (s.portalAlert p e o v).slot0 = s.slot0 :=
  s.offerAlert_slot0 _ _ _ _
@[simp] theorem State.portalAlert_slot1 (p : Fin 4) (e o : Byte) (v : Nat) : (s.portalAlert p e o v).slot1 = s.slot1 :=
  s.offerAlert_slot1 _ _ _ _
@[simp] theorem State.portalAlert_placed (p : Fin 4) (e o : Byte) (v : Nat) : (s.portalAlert p e o v).placed = s.placed :=
  s.offerAlert_placed _ _ _ _
@[simp] theorem State.portalAlert_pollTimer (p : Fin 4) (e o : Byte) (v : Nat) : (s.portalAlert p e o v).pollTimer = s.pollTimer :=
  s.offerAlert_pollTimer _ _ _ _
@[simp] theorem State.portalAlert_cursor (p : Fin 4) (e o : Byte) (v : Nat) : (s.portalAlert p e o v).cursor = s.cursor :=
  s.offerAlert_cursor _ _ _ _
@[simp] theorem State.portalAlert_rescan (p : Fin 4) (e o : Byte) (v : Nat) : (s.portalAlert p e o v).rescan = s.rescan :=
  s.offerAlert_rescan _ _ _ _
@[simp] theorem State.portalAlert_rescanPosition (p : Fin 4) (e o : Byte) (v : Nat) : (s.portalAlert p e o v).rescanPosition = s.rescanPosition :=
  s.offerAlert_rescanPosition _ _ _ _
@[simp] theorem State.portalAlert_scanOrphan (p : Fin 4) (e o : Byte) (v : Nat) : (s.portalAlert p e o v).scanOrphan = s.scanOrphan :=
  s.offerAlert_scanOrphan _ _ _ _
@[simp] theorem State.portalAlert_secondTimer (p : Fin 4) (e o : Byte) (v : Nat) : (s.portalAlert p e o v).secondTimer = s.secondTimer :=
  s.offerAlert_secondTimer _ _ _ _
@[simp] theorem State.portalAlert_pending (p : Fin 4) (e o : Byte) (v : Nat) : (s.portalAlert p e o v).pending = s.pending :=
  s.offerAlert_pending _ _ _ _

/-! ### portalEvent -/

@[simp] theorem State.portalEvent_supply (p : Fin 4) (f : PortalFlag) (o : Byte) (v : Nat) : (s.portalEvent p f o v).supply = s.supply :=
  (s.latchPortal p f).portalAlert_supply _ _ _ _
@[simp] theorem State.portalEvent_resetLow (p : Fin 4) (f : PortalFlag) (o : Byte) (v : Nat) : (s.portalEvent p f o v).resetLow = s.resetLow :=
  (s.latchPortal p f).portalAlert_resetLow _ _ _ _
@[simp] theorem State.portalEvent_relayDriven (p : Fin 4) (f : PortalFlag) (o : Byte) (v : Nat) : (s.portalEvent p f o v).relayDriven = s.relayDriven :=
  (s.latchPortal p f).portalAlert_relayDriven _ _ _ _
@[simp] theorem State.portalEvent_addrPins (p : Fin 4) (f : PortalFlag) (o : Byte) (v : Nat) : (s.portalEvent p f o v).addrPins = s.addrPins :=
  (s.latchPortal p f).portalAlert_addrPins _ _ _ _
@[simp] theorem State.portalEvent_ratePins (p : Fin 4) (f : PortalFlag) (o : Byte) (v : Nat) : (s.portalEvent p f o v).ratePins = s.ratePins :=
  (s.latchPortal p f).portalAlert_ratePins _ _ _ _
@[simp] theorem State.portalEvent_now (p : Fin 4) (f : PortalFlag) (o : Byte) (v : Nat) : (s.portalEvent p f o v).now = s.now :=
  (s.latchPortal p f).portalAlert_now _ _ _ _
@[simp] theorem State.portalEvent_cRx (p : Fin 4) (f : PortalFlag) (o : Byte) (v : Nat) : (s.portalEvent p f o v).cRx = s.cRx :=
  (s.latchPortal p f).portalAlert_cRx _ _ _ _
@[simp] theorem State.portalEvent_fRx (p : Fin 4) (f : PortalFlag) (o : Byte) (v : Nat) : (s.portalEvent p f o v).fRx = s.fRx :=
  (s.latchPortal p f).portalAlert_fRx _ _ _ _
@[simp] theorem State.portalEvent_cTx (p : Fin 4) (f : PortalFlag) (o : Byte) (v : Nat) : (s.portalEvent p f o v).cTx = s.cTx :=
  (s.latchPortal p f).portalAlert_cTx _ _ _ _
@[simp] theorem State.portalEvent_fTx (p : Fin 4) (f : PortalFlag) (o : Byte) (v : Nat) : (s.portalEvent p f o v).fTx = s.fTx :=
  (s.latchPortal p f).portalAlert_fTx _ _ _ _
@[simp] theorem State.portalEvent_fQueue (p : Fin 4) (f : PortalFlag) (o : Byte) (v : Nat) : (s.portalEvent p f o v).fQueue = s.fQueue :=
  (s.latchPortal p f).portalAlert_fQueue _ _ _ _
@[simp] theorem State.portalEvent_accept (p : Fin 4) (f : PortalFlag) (o : Byte) (v : Nat) : (s.portalEvent p f o v).accept = s.accept :=
  (s.latchPortal p f).portalAlert_accept _ _ _ _
@[simp] theorem State.portalEvent_sensors (p : Fin 4) (f : PortalFlag) (o : Byte) (v : Nat) : (s.portalEvent p f o v).sensors = s.sensors :=
  (s.latchPortal p f).portalAlert_sensors _ _ _ _
@[simp] theorem State.portalEvent_pulses (p : Fin 4) (f : PortalFlag) (o : Byte) (v : Nat) : (s.portalEvent p f o v).pulses = s.pulses :=
  (s.latchPortal p f).portalAlert_pulses _ _ _ _
@[simp] theorem State.portalEvent_portals (p : Fin 4) (f : PortalFlag) (o : Byte) (v : Nat) : (s.portalEvent p f o v).portals = s.portals :=
  (s.latchPortal p f).portalAlert_portals _ _ _ _
@[simp] theorem State.portalEvent_kTable (p : Fin 4) (f : PortalFlag) (o : Byte) (v : Nat) : (s.portalEvent p f o v).kTable = s.kTable :=
  (s.latchPortal p f).portalAlert_kTable _ _ _ _
@[simp] theorem State.portalEvent_zones (p : Fin 4) (f : PortalFlag) (o : Byte) (v : Nat) : (s.portalEvent p f o v).zones = s.zones :=
  (s.latchPortal p f).portalAlert_zones _ _ _ _
@[simp] theorem State.portalEvent_groups (p : Fin 4) (f : PortalFlag) (o : Byte) (v : Nat) : (s.portalEvent p f o v).groups = s.groups :=
  (s.latchPortal p f).portalAlert_groups _ _ _ _
@[simp] theorem State.portalEvent_drivers (p : Fin 4) (f : PortalFlag) (o : Byte) (v : Nat) : (s.portalEvent p f o v).drivers = s.drivers :=
  (s.latchPortal p f).portalAlert_drivers _ _ _ _
@[simp] theorem State.portalEvent_portalFlags (p : Fin 4) (f : PortalFlag) (o : Byte) (v : Nat) : (s.portalEvent p f o v).portalFlags = updAt s.portalFlags p (· ||| BitVec.ofNat 6 (2 ^ f.bit)) :=
  (s.latchPortal p f).portalAlert_portalFlags _ _ _ _
@[simp] theorem State.portalEvent_device (p : Fin 4) (f : PortalFlag) (o : Byte) (v : Nat) : (s.portalEvent p f o v).device = s.device :=
  (s.latchPortal p f).portalAlert_device _ _ _ _
@[simp] theorem State.portalEvent_mode (p : Fin 4) (f : PortalFlag) (o : Byte) (v : Nat) : (s.portalEvent p f o v).mode = s.mode :=
  (s.latchPortal p f).portalAlert_mode _ _ _ _
@[simp] theorem State.portalEvent_restartPending (p : Fin 4) (f : PortalFlag) (o : Byte) (v : Nat) : (s.portalEvent p f o v).restartPending = s.restartPending :=
  (s.latchPortal p f).portalAlert_restartPending _ _ _ _
@[simp] theorem State.portalEvent_slot0 (p : Fin 4) (f : PortalFlag) (o : Byte) (v : Nat) : (s.portalEvent p f o v).slot0 = s.slot0 :=
  (s.latchPortal p f).portalAlert_slot0 _ _ _ _
@[simp] theorem State.portalEvent_slot1 (p : Fin 4) (f : PortalFlag) (o : Byte) (v : Nat) : (s.portalEvent p f o v).slot1 = s.slot1 :=
  (s.latchPortal p f).portalAlert_slot1 _ _ _ _
@[simp] theorem State.portalEvent_placed (p : Fin 4) (f : PortalFlag) (o : Byte) (v : Nat) : (s.portalEvent p f o v).placed = s.placed :=
  (s.latchPortal p f).portalAlert_placed _ _ _ _
@[simp] theorem State.portalEvent_pollTimer (p : Fin 4) (f : PortalFlag) (o : Byte) (v : Nat) : (s.portalEvent p f o v).pollTimer = s.pollTimer :=
  (s.latchPortal p f).portalAlert_pollTimer _ _ _ _
@[simp] theorem State.portalEvent_cursor (p : Fin 4) (f : PortalFlag) (o : Byte) (v : Nat) : (s.portalEvent p f o v).cursor = s.cursor :=
  (s.latchPortal p f).portalAlert_cursor _ _ _ _
@[simp] theorem State.portalEvent_rescan (p : Fin 4) (f : PortalFlag) (o : Byte) (v : Nat) : (s.portalEvent p f o v).rescan = s.rescan :=
  (s.latchPortal p f).portalAlert_rescan _ _ _ _
@[simp] theorem State.portalEvent_rescanPosition (p : Fin 4) (f : PortalFlag) (o : Byte) (v : Nat) : (s.portalEvent p f o v).rescanPosition = s.rescanPosition :=
  (s.latchPortal p f).portalAlert_rescanPosition _ _ _ _
@[simp] theorem State.portalEvent_scanOrphan (p : Fin 4) (f : PortalFlag) (o : Byte) (v : Nat) : (s.portalEvent p f o v).scanOrphan = s.scanOrphan :=
  (s.latchPortal p f).portalAlert_scanOrphan _ _ _ _
@[simp] theorem State.portalEvent_secondTimer (p : Fin 4) (f : PortalFlag) (o : Byte) (v : Nat) : (s.portalEvent p f o v).secondTimer = s.secondTimer :=
  (s.latchPortal p f).portalAlert_secondTimer _ _ _ _
@[simp] theorem State.portalEvent_pending (p : Fin 4) (f : PortalFlag) (o : Byte) (v : Nat) : (s.portalEvent p f o v).pending = s.pending :=
  (s.latchPortal p f).portalAlert_pending _ _ _ _

/-! ### mapPortal -/

@[simp] theorem State.mapPortal_supply (p : Fin 4) (f : Portal → Portal) : (s.mapPortal p f).supply = s.supply :=
  rfl
@[simp] theorem State.mapPortal_resetLow (p : Fin 4) (f : Portal → Portal) : (s.mapPortal p f).resetLow = s.resetLow :=
  rfl
@[simp] theorem State.mapPortal_relayDriven (p : Fin 4) (f : Portal → Portal) : (s.mapPortal p f).relayDriven = s.relayDriven :=
  rfl
@[simp] theorem State.mapPortal_addrPins (p : Fin 4) (f : Portal → Portal) : (s.mapPortal p f).addrPins = s.addrPins :=
  rfl
@[simp] theorem State.mapPortal_ratePins (p : Fin 4) (f : Portal → Portal) : (s.mapPortal p f).ratePins = s.ratePins :=
  rfl
@[simp] theorem State.mapPortal_now (p : Fin 4) (f : Portal → Portal) : (s.mapPortal p f).now = s.now := rfl
@[simp] theorem State.mapPortal_cRx (p : Fin 4) (f : Portal → Portal) : (s.mapPortal p f).cRx = s.cRx := rfl
@[simp] theorem State.mapPortal_fRx (p : Fin 4) (f : Portal → Portal) : (s.mapPortal p f).fRx = s.fRx := rfl
@[simp] theorem State.mapPortal_cTx (p : Fin 4) (f : Portal → Portal) : (s.mapPortal p f).cTx = s.cTx := rfl
@[simp] theorem State.mapPortal_fTx (p : Fin 4) (f : Portal → Portal) : (s.mapPortal p f).fTx = s.fTx := rfl
@[simp] theorem State.mapPortal_fQueue (p : Fin 4) (f : Portal → Portal) : (s.mapPortal p f).fQueue = s.fQueue :=
  rfl
@[simp] theorem State.mapPortal_cQueue (p : Fin 4) (f : Portal → Portal) : (s.mapPortal p f).cQueue = s.cQueue :=
  rfl
@[simp] theorem State.mapPortal_accept (p : Fin 4) (f : Portal → Portal) : (s.mapPortal p f).accept = s.accept :=
  rfl
@[simp] theorem State.mapPortal_sensors (p : Fin 4) (f : Portal → Portal) : (s.mapPortal p f).sensors = s.sensors :=
  rfl
@[simp] theorem State.mapPortal_pulses (p : Fin 4) (f : Portal → Portal) : (s.mapPortal p f).pulses = s.pulses :=
  rfl
@[simp] theorem State.mapPortal_portals (p : Fin 4) (f : Portal → Portal) : (s.mapPortal p f).portals = updAt s.portals p f :=
  rfl
@[simp] theorem State.mapPortal_kTable (p : Fin 4) (f : Portal → Portal) : (s.mapPortal p f).kTable = s.kTable :=
  rfl
@[simp] theorem State.mapPortal_zones (p : Fin 4) (f : Portal → Portal) : (s.mapPortal p f).zones = s.zones := rfl
@[simp] theorem State.mapPortal_groups (p : Fin 4) (f : Portal → Portal) : (s.mapPortal p f).groups = s.groups :=
  rfl
@[simp] theorem State.mapPortal_drivers (p : Fin 4) (f : Portal → Portal) : (s.mapPortal p f).drivers = s.drivers :=
  rfl
@[simp] theorem State.mapPortal_counters (p : Fin 4) (f : Portal → Portal) : (s.mapPortal p f).counters = s.counters :=
  rfl
@[simp] theorem State.mapPortal_deviceFlags (p : Fin 4) (f : Portal → Portal) : (s.mapPortal p f).deviceFlags = s.deviceFlags :=
  rfl
@[simp] theorem State.mapPortal_portalFlags (p : Fin 4) (f : Portal → Portal) : (s.mapPortal p f).portalFlags = s.portalFlags :=
  rfl
@[simp] theorem State.mapPortal_device (p : Fin 4) (f : Portal → Portal) : (s.mapPortal p f).device = s.device :=
  rfl
@[simp] theorem State.mapPortal_mode (p : Fin 4) (f : Portal → Portal) : (s.mapPortal p f).mode = s.mode := rfl
@[simp] theorem State.mapPortal_restartPending (p : Fin 4) (f : Portal → Portal) : (s.mapPortal p f).restartPending = s.restartPending :=
  rfl
@[simp] theorem State.mapPortal_slot0 (p : Fin 4) (f : Portal → Portal) : (s.mapPortal p f).slot0 = s.slot0 := rfl
@[simp] theorem State.mapPortal_slot1 (p : Fin 4) (f : Portal → Portal) : (s.mapPortal p f).slot1 = s.slot1 := rfl
@[simp] theorem State.mapPortal_placed (p : Fin 4) (f : Portal → Portal) : (s.mapPortal p f).placed = s.placed :=
  rfl
@[simp] theorem State.mapPortal_pollTimer (p : Fin 4) (f : Portal → Portal) : (s.mapPortal p f).pollTimer = s.pollTimer :=
  rfl
@[simp] theorem State.mapPortal_cursor (p : Fin 4) (f : Portal → Portal) : (s.mapPortal p f).cursor = s.cursor :=
  rfl
@[simp] theorem State.mapPortal_rescan (p : Fin 4) (f : Portal → Portal) : (s.mapPortal p f).rescan = s.rescan :=
  rfl
@[simp] theorem State.mapPortal_rescanPosition (p : Fin 4) (f : Portal → Portal) : (s.mapPortal p f).rescanPosition = s.rescanPosition :=
  rfl
@[simp] theorem State.mapPortal_scanOrphan (p : Fin 4) (f : Portal → Portal) : (s.mapPortal p f).scanOrphan = s.scanOrphan :=
  rfl
@[simp] theorem State.mapPortal_secondTimer (p : Fin 4) (f : Portal → Portal) : (s.mapPortal p f).secondTimer = s.secondTimer :=
  rfl
@[simp] theorem State.mapPortal_pending (p : Fin 4) (f : Portal → Portal) : (s.mapPortal p f).pending = s.pending :=
  rfl

/-! ### mapZone -/

@[simp] theorem State.mapZone_supply (i : Fin 32) (f : Zone → Zone) : (s.mapZone i f).supply = s.supply := rfl
@[simp] theorem State.mapZone_resetLow (i : Fin 32) (f : Zone → Zone) : (s.mapZone i f).resetLow = s.resetLow := rfl
@[simp] theorem State.mapZone_relayDriven (i : Fin 32) (f : Zone → Zone) : (s.mapZone i f).relayDriven = s.relayDriven :=
  rfl
@[simp] theorem State.mapZone_addrPins (i : Fin 32) (f : Zone → Zone) : (s.mapZone i f).addrPins = s.addrPins := rfl
@[simp] theorem State.mapZone_ratePins (i : Fin 32) (f : Zone → Zone) : (s.mapZone i f).ratePins = s.ratePins := rfl
@[simp] theorem State.mapZone_now (i : Fin 32) (f : Zone → Zone) : (s.mapZone i f).now = s.now := rfl
@[simp] theorem State.mapZone_cRx (i : Fin 32) (f : Zone → Zone) : (s.mapZone i f).cRx = s.cRx := rfl
@[simp] theorem State.mapZone_fRx (i : Fin 32) (f : Zone → Zone) : (s.mapZone i f).fRx = s.fRx := rfl
@[simp] theorem State.mapZone_cTx (i : Fin 32) (f : Zone → Zone) : (s.mapZone i f).cTx = s.cTx := rfl
@[simp] theorem State.mapZone_fTx (i : Fin 32) (f : Zone → Zone) : (s.mapZone i f).fTx = s.fTx := rfl
@[simp] theorem State.mapZone_fQueue (i : Fin 32) (f : Zone → Zone) : (s.mapZone i f).fQueue = s.fQueue := rfl
@[simp] theorem State.mapZone_cQueue (i : Fin 32) (f : Zone → Zone) : (s.mapZone i f).cQueue = s.cQueue := rfl
@[simp] theorem State.mapZone_accept (i : Fin 32) (f : Zone → Zone) : (s.mapZone i f).accept = s.accept := rfl
@[simp] theorem State.mapZone_sensors (i : Fin 32) (f : Zone → Zone) : (s.mapZone i f).sensors = s.sensors := rfl
@[simp] theorem State.mapZone_pulses (i : Fin 32) (f : Zone → Zone) : (s.mapZone i f).pulses = s.pulses := rfl
@[simp] theorem State.mapZone_portals (i : Fin 32) (f : Zone → Zone) : (s.mapZone i f).portals = s.portals := rfl
@[simp] theorem State.mapZone_kTable (i : Fin 32) (f : Zone → Zone) : (s.mapZone i f).kTable = s.kTable := rfl
@[simp] theorem State.mapZone_zones (i : Fin 32) (f : Zone → Zone) : (s.mapZone i f).zones = updAt s.zones i f :=
  rfl
@[simp] theorem State.mapZone_groups (i : Fin 32) (f : Zone → Zone) : (s.mapZone i f).groups = s.groups := rfl
@[simp] theorem State.mapZone_drivers (i : Fin 32) (f : Zone → Zone) : (s.mapZone i f).drivers = s.drivers := rfl
@[simp] theorem State.mapZone_counters (i : Fin 32) (f : Zone → Zone) : (s.mapZone i f).counters = s.counters := rfl
@[simp] theorem State.mapZone_deviceFlags (i : Fin 32) (f : Zone → Zone) : (s.mapZone i f).deviceFlags = s.deviceFlags :=
  rfl
@[simp] theorem State.mapZone_portalFlags (i : Fin 32) (f : Zone → Zone) : (s.mapZone i f).portalFlags = s.portalFlags :=
  rfl
@[simp] theorem State.mapZone_device (i : Fin 32) (f : Zone → Zone) : (s.mapZone i f).device = s.device := rfl
@[simp] theorem State.mapZone_mode (i : Fin 32) (f : Zone → Zone) : (s.mapZone i f).mode = s.mode := rfl
@[simp] theorem State.mapZone_restartPending (i : Fin 32) (f : Zone → Zone) : (s.mapZone i f).restartPending = s.restartPending :=
  rfl
@[simp] theorem State.mapZone_slot0 (i : Fin 32) (f : Zone → Zone) : (s.mapZone i f).slot0 = s.slot0 := rfl
@[simp] theorem State.mapZone_slot1 (i : Fin 32) (f : Zone → Zone) : (s.mapZone i f).slot1 = s.slot1 := rfl
@[simp] theorem State.mapZone_placed (i : Fin 32) (f : Zone → Zone) : (s.mapZone i f).placed = s.placed := rfl
@[simp] theorem State.mapZone_pollTimer (i : Fin 32) (f : Zone → Zone) : (s.mapZone i f).pollTimer = s.pollTimer :=
  rfl
@[simp] theorem State.mapZone_cursor (i : Fin 32) (f : Zone → Zone) : (s.mapZone i f).cursor = s.cursor := rfl
@[simp] theorem State.mapZone_rescan (i : Fin 32) (f : Zone → Zone) : (s.mapZone i f).rescan = s.rescan := rfl
@[simp] theorem State.mapZone_rescanPosition (i : Fin 32) (f : Zone → Zone) : (s.mapZone i f).rescanPosition = s.rescanPosition :=
  rfl
@[simp] theorem State.mapZone_scanOrphan (i : Fin 32) (f : Zone → Zone) : (s.mapZone i f).scanOrphan = s.scanOrphan :=
  rfl
@[simp] theorem State.mapZone_secondTimer (i : Fin 32) (f : Zone → Zone) : (s.mapZone i f).secondTimer = s.secondTimer :=
  rfl
@[simp] theorem State.mapZone_pending (i : Fin 32) (f : Zone → Zone) : (s.mapZone i f).pending = s.pending := rfl

/-! ### mapDriver -/

@[simp] theorem State.mapDriver_supply (d : Fin 160) (f : Driver → Driver) : (s.mapDriver d f).supply = s.supply :=
  rfl
@[simp] theorem State.mapDriver_resetLow (d : Fin 160) (f : Driver → Driver) : (s.mapDriver d f).resetLow = s.resetLow :=
  rfl
@[simp] theorem State.mapDriver_relayDriven (d : Fin 160) (f : Driver → Driver) : (s.mapDriver d f).relayDriven = s.relayDriven :=
  rfl
@[simp] theorem State.mapDriver_addrPins (d : Fin 160) (f : Driver → Driver) : (s.mapDriver d f).addrPins = s.addrPins :=
  rfl
@[simp] theorem State.mapDriver_ratePins (d : Fin 160) (f : Driver → Driver) : (s.mapDriver d f).ratePins = s.ratePins :=
  rfl
@[simp] theorem State.mapDriver_now (d : Fin 160) (f : Driver → Driver) : (s.mapDriver d f).now = s.now := rfl
@[simp] theorem State.mapDriver_cRx (d : Fin 160) (f : Driver → Driver) : (s.mapDriver d f).cRx = s.cRx := rfl
@[simp] theorem State.mapDriver_fRx (d : Fin 160) (f : Driver → Driver) : (s.mapDriver d f).fRx = s.fRx := rfl
@[simp] theorem State.mapDriver_cTx (d : Fin 160) (f : Driver → Driver) : (s.mapDriver d f).cTx = s.cTx := rfl
@[simp] theorem State.mapDriver_fTx (d : Fin 160) (f : Driver → Driver) : (s.mapDriver d f).fTx = s.fTx := rfl
@[simp] theorem State.mapDriver_fQueue (d : Fin 160) (f : Driver → Driver) : (s.mapDriver d f).fQueue = s.fQueue :=
  rfl
@[simp] theorem State.mapDriver_cQueue (d : Fin 160) (f : Driver → Driver) : (s.mapDriver d f).cQueue = s.cQueue :=
  rfl
@[simp] theorem State.mapDriver_accept (d : Fin 160) (f : Driver → Driver) : (s.mapDriver d f).accept = s.accept :=
  rfl
@[simp] theorem State.mapDriver_sensors (d : Fin 160) (f : Driver → Driver) : (s.mapDriver d f).sensors = s.sensors :=
  rfl
@[simp] theorem State.mapDriver_pulses (d : Fin 160) (f : Driver → Driver) : (s.mapDriver d f).pulses = s.pulses :=
  rfl
@[simp] theorem State.mapDriver_portals (d : Fin 160) (f : Driver → Driver) : (s.mapDriver d f).portals = s.portals :=
  rfl
@[simp] theorem State.mapDriver_kTable (d : Fin 160) (f : Driver → Driver) : (s.mapDriver d f).kTable = s.kTable :=
  rfl
@[simp] theorem State.mapDriver_zones (d : Fin 160) (f : Driver → Driver) : (s.mapDriver d f).zones = s.zones :=
  rfl
@[simp] theorem State.mapDriver_groups (d : Fin 160) (f : Driver → Driver) : (s.mapDriver d f).groups = s.groups :=
  rfl
@[simp] theorem State.mapDriver_drivers (d : Fin 160) (f : Driver → Driver) : (s.mapDriver d f).drivers = updAt s.drivers d f :=
  rfl
@[simp] theorem State.mapDriver_counters (d : Fin 160) (f : Driver → Driver) : (s.mapDriver d f).counters = s.counters :=
  rfl
@[simp] theorem State.mapDriver_deviceFlags (d : Fin 160) (f : Driver → Driver) : (s.mapDriver d f).deviceFlags = s.deviceFlags :=
  rfl
@[simp] theorem State.mapDriver_portalFlags (d : Fin 160) (f : Driver → Driver) : (s.mapDriver d f).portalFlags = s.portalFlags :=
  rfl
@[simp] theorem State.mapDriver_device (d : Fin 160) (f : Driver → Driver) : (s.mapDriver d f).device = s.device :=
  rfl
@[simp] theorem State.mapDriver_mode (d : Fin 160) (f : Driver → Driver) : (s.mapDriver d f).mode = s.mode := rfl
@[simp] theorem State.mapDriver_restartPending (d : Fin 160) (f : Driver → Driver) : (s.mapDriver d f).restartPending = s.restartPending :=
  rfl
@[simp] theorem State.mapDriver_slot0 (d : Fin 160) (f : Driver → Driver) : (s.mapDriver d f).slot0 = s.slot0 :=
  rfl
@[simp] theorem State.mapDriver_slot1 (d : Fin 160) (f : Driver → Driver) : (s.mapDriver d f).slot1 = s.slot1 :=
  rfl
@[simp] theorem State.mapDriver_placed (d : Fin 160) (f : Driver → Driver) : (s.mapDriver d f).placed = s.placed :=
  rfl
@[simp] theorem State.mapDriver_pollTimer (d : Fin 160) (f : Driver → Driver) : (s.mapDriver d f).pollTimer = s.pollTimer :=
  rfl
@[simp] theorem State.mapDriver_cursor (d : Fin 160) (f : Driver → Driver) : (s.mapDriver d f).cursor = s.cursor :=
  rfl
@[simp] theorem State.mapDriver_rescan (d : Fin 160) (f : Driver → Driver) : (s.mapDriver d f).rescan = s.rescan :=
  rfl
@[simp] theorem State.mapDriver_rescanPosition (d : Fin 160) (f : Driver → Driver) : (s.mapDriver d f).rescanPosition = s.rescanPosition :=
  rfl
@[simp] theorem State.mapDriver_scanOrphan (d : Fin 160) (f : Driver → Driver) : (s.mapDriver d f).scanOrphan = s.scanOrphan :=
  rfl
@[simp] theorem State.mapDriver_secondTimer (d : Fin 160) (f : Driver → Driver) : (s.mapDriver d f).secondTimer = s.secondTimer :=
  rfl
@[simp] theorem State.mapDriver_pending (d : Fin 160) (f : Driver → Driver) : (s.mapDriver d f).pending = s.pending :=
  rfl

end Sys2Proof.Machine
end

