-- ==== Sys2Proof/Laws/Tables.lean ====
section
/-! SUPPORT. What a table reads after one record, or every record, was replaced. -/

namespace Sys2Proof.Machine

variable {α : Type} {n : Nat}

/-- One record replaced, read at a number; `simp` brings every reading to this form. -/
@[simp] theorem updAt_getElem (v : Vector α n) (i : Fin n) (f : α → α) (j : Nat) (h : j < n) :
    (updAt v i f)[j] = if i.val = j then f v[j] else v[j] := by
  simp only [updAt, Vector.getElem_set]
  split
  · next e => subst e; rfl
  · rfl

/-- Every record replaced, read at a number. -/
@[simp] theorem updAll_getElem (v : Vector α n) (f : Fin n → α → α) (j : Nat) (h : j < n) :
    (updAll v f)[j] = f ⟨j, h⟩ v[j] := by
  simp [updAll]

theorem updAt_same (v : Vector α n) (i : Fin n) (f : α → α) : (updAt v i f)[i] = f v[i] := by
  simp

theorem updAt_get (v : Vector α n) (i j : Fin n) (f : α → α) : (updAt v i f)[j] = if i = j then f v[j] else v[j] := by
  simp [Fin.ext_iff]

theorem updAt_other (v : Vector α n) (i j : Fin n) (f : α → α) (h : i ≠ j) : (updAt v i f)[j] = v[j] := by
  rw [updAt_get, if_neg h]

theorem updAll_get (v : Vector α n) (f : Fin n → α → α) (i : Fin n) : (updAll v f)[i] = f i v[i] := by
  simp

/-- A property of records that the replacement of one keeps holds of the table after it. -/
theorem updAt_forall {P : α → Prop} (v : Vector α n) (i : Fin n) (f : α → α) (h : ∀ j : Fin n, P v[j]) (hf : P (f v[i])) :
    ∀ j : Fin n, P (updAt v i f)[j] := by
  intro j
  rw [updAt_get]
  split
  · next e => subst e; exact hf
  · exact h j

/-- A projection that the replacement keeps reads the same in every record. -/
theorem updAt_proj {β : Type} (g : α → β) (v : Vector α n) (i j : Fin n) (f : α → α) (hf : ∀ x, g (f x) = g x) :
    g (updAt v i f)[j] = g v[j] := by
  rw [updAt_get]
  split
  · exact hf _
  · rfl

end Sys2Proof.Machine
end

