-- ==== Sys2Proof/Laws/Frames.lean ====
section
/-! SUPPORT. What each shared operation leaves alone: one frame lemma per operation, in the words of Safety.lean. From
`h : t.exceptX = s.exceptX` any other field is read by `congrArg`. At the end, what the small operations on a receiver, a reply window and
a gate's reference do. -/

namespace Sys2Proof.Machine

/-- A reading of the state that every round keeps is kept by the whole fold. -/
theorem foldl_keeps {σ α β : Type} (g : σ → β) (f : σ → α → σ) (h : ∀ t x, g (f t x) = g t) (l : List α) (s : σ) :
    g (l.foldl f s) = g s := by
  induction l generalizing s with
  | nil => rfl
  | cons x l ih => rw [List.foldl_cons, ih, h]

/-- A property that every round keeps is kept by the whole fold. -/
theorem foldl_inv {σ α : Type} {P : σ → Prop} (f : σ → α → σ) (h : ∀ t x, P t → P (f t x)) (l : List α) (s : σ)
    (hs : P s) : P (l.foldl f s) := by
  induction l generalizing s with
  | nil => exact hs
  | cons x l ih => exact ih _ (h s x hs)

variable (s : State)

/-! ### Counting and alerting -/

theorem exceptReport_withReport (r : Report) : (s.withReport r).exceptReport = s.exceptReport := rfl
theorem exceptSensing_withReport (r : Report) : (s.withReport r).exceptSensing = s.exceptSensing := rfl
theorem exceptRegulation_withReport (r : Report) : (s.withReport r).exceptRegulation = s.exceptRegulation := rfl
theorem exceptPolling_withReport (r : Report) : (s.withReport r).exceptPolling = s.exceptPolling := rfl

@[simp] theorem exceptReport_count (c : Fin 16) (a : CounterScope → Nat) : (s.count c a).exceptReport = s.exceptReport :=
  exceptReport_withReport s _
@[simp] theorem exceptSensing_count (c : Fin 16) (a : CounterScope → Nat) : (s.count c a).exceptSensing = s.exceptSensing :=
  exceptSensing_withReport s _
@[simp] theorem exceptRegulation_count (c : Fin 16) (a : CounterScope → Nat) :
    (s.count c a).exceptRegulation = s.exceptRegulation := exceptRegulation_withReport s _
@[simp] theorem exceptPolling_count (c : Fin 16) (a : CounterScope → Nat) : (s.count c a).exceptPolling = s.exceptPolling :=
  exceptPolling_withReport s _

@[simp] theorem exceptReport_deviceEvent (f : DeviceFlag) (o : Byte) (v : Nat) :
    (s.deviceEvent f o v).exceptReport = s.exceptReport := exceptReport_withReport s _
@[simp] theorem exceptSensing_deviceEvent (f : DeviceFlag) (o : Byte) (v : Nat) :
    (s.deviceEvent f o v).exceptSensing = s.exceptSensing := exceptSensing_withReport s _
@[simp] theorem exceptPolling_deviceEvent (f : DeviceFlag) (o : Byte) (v : Nat) :
    (s.deviceEvent f o v).exceptPolling = s.exceptPolling := exceptPolling_withReport s _

@[simp] theorem exceptSensing_portalAlert (p : Fin 4) (e o : Byte) (v : Nat) :
    (s.portalAlert p e o v).exceptSensing = s.exceptSensing := exceptSensing_withReport s _
@[simp] theorem exceptRegulation_portalAlert (p : Fin 4) (e o : Byte) (v : Nat) :
    (s.portalAlert p e o v).exceptRegulation = s.exceptRegulation := exceptRegulation_withReport s _
@[simp] theorem exceptPolling_portalAlert (p : Fin 4) (e o : Byte) (v : Nat) :
    (s.portalAlert p e o v).exceptPolling = s.exceptPolling := exceptPolling_withReport s _

@[simp] theorem exceptSensing_portalEvent (p : Fin 4) (f : PortalFlag) (o : Byte) (v : Nat) :
    (s.portalEvent p f o v).exceptSensing = s.exceptSensing := exceptSensing_portalAlert (s.latchPortal p f) p _ o v
@[simp] theorem exceptRegulation_portalEvent (p : Fin 4) (f : PortalFlag) (o : Byte) (v : Nat) :
    (s.portalEvent p f o v).exceptRegulation = s.exceptRegulation := exceptRegulation_portalAlert (s.latchPortal p f) p _ o v
@[simp] theorem exceptPolling_portalEvent (p : Fin 4) (f : PortalFlag) (o : Byte) (v : Nat) :
    (s.portalEvent p f o v).exceptPolling = s.exceptPolling := exceptPolling_portalAlert (s.latchPortal p f) p _ o v

/-! ### Offers -/

@[simp] theorem exceptRegulation_offerLevel (g : Fin 48) (l : Nat) (k : LevelKind) :
    (s.offerLevel g l k).exceptRegulation = s.exceptRegulation := by
  unfold State.offerLevel
  split
  · rfl
  · split
    · rfl
    · rw [exceptRegulation_count]; rfl

@[simp] theorem exceptPolling_offerPoll (d : Fin 160) (o : PollOrigin) : (s.offerPoll d o).exceptPolling = s.exceptPolling := by
  unfold State.offerPoll
  split <;> rfl

/-! ### Sensing -/

@[simp] theorem exceptSensing_sensorGood (i : Fin 8) (x : Sample) : (s.sensorGood i x).exceptSensing = s.exceptSensing := rfl

theorem exceptSensing_withSensors (v : Vector Sensor 8) : ({ s with sensors := v } : State).exceptSensing = s.exceptSensing := rfl

@[simp] theorem exceptSensing_sensorReject (i : Fin 8) : (s.sensorReject i).exceptSensing = s.exceptSensing := by
  unfold State.sensorReject
  dsimp only
  split
  · rw [foldl_keeps State.exceptSensing _ (fun t p => exceptSensing_portalEvent t p _ _ _), exceptSensing_withSensors,
      exceptSensing_count]
  · rw [exceptSensing_withSensors, exceptSensing_count]

@[simp] theorem exceptSensing_offerCandidate (i : Fin 8) (c : Candidate) :
    (s.offerCandidate i c).exceptSensing = s.exceptSensing := by
  unfold State.offerCandidate
  split
  · split
    · rfl
    · exact exceptSensing_sensorReject s i
  · rfl

/-! ### The pass -/

@[simp] theorem exceptRegulation_mapPortal (p : Fin 4) (f : Portal → Portal) :
    (s.mapPortal p f).exceptRegulation = s.exceptRegulation := rfl

@[simp] theorem exceptRegulation_mapZone (i : Fin 32) (f : Zone → Zone) :
    (s.mapZone i f).exceptRegulation = s.exceptRegulation := rfl

@[simp] theorem exceptRegulation_enterTracking (p : Fin 4) (la : Nat) (d : Bool) :
    (s.enterTracking p la d).exceptRegulation = s.exceptRegulation := by
  unfold State.enterTracking
  dsimp only
  split
  · rfl
  · rw [exceptRegulation_portalAlert]; rfl

@[simp] theorem exceptRegulation_track (p : Fin 4) (la : Nat) (low : Option Nat) :
    (s.track p la low).exceptRegulation = s.exceptRegulation := by
  unfold State.track
  dsimp only
  split
  · split <;> simp
  · simp

@[simp] theorem exceptRegulation_enterFallback (p : Fin 4) : (s.enterFallback p).exceptRegulation = s.exceptRegulation := by
  unfold State.enterFallback
  rw [exceptRegulation_portalEvent]; rfl

@[simp] theorem exceptRegulation_lose (p : Fin 4) (b : Bool) : (s.lose p b).exceptRegulation = s.exceptRegulation := by
  unfold State.lose
  dsimp only
  split
  · split
    · rw [exceptRegulation_enterFallback, exceptRegulation_portalEvent]
    · rw [exceptRegulation_portalEvent]; rfl
  · split
    · exact exceptRegulation_enterFallback s p
    · rfl
  · rfl
  · rfl
  · rfl

@[simp] theorem exceptRegulation_passStep1 (p : Fin 4) (b : Bool) : (s.passStep1 p b).exceptRegulation = s.exceptRegulation := by
  unfold State.passStep1
  dsimp only
  split <;> simp

@[simp] theorem exceptRegulation_computeGroup (g : Fin 48) : (s.computeGroup g).exceptRegulation = s.exceptRegulation := rfl

@[simp] theorem exceptRegulation_deficitTest (i : Fin 32) (lz sAll : Nat) :
    (s.deficitTest i lz sAll).exceptRegulation = s.exceptRegulation := by
  unfold State.deficitTest
  dsimp only
  split
  · rw [exceptRegulation_portalEvent]; rfl
  · split
    · rw [exceptRegulation_portalAlert]; rfl
    · rfl

@[simp] theorem exceptRegulation_offerHandover (old new : Zone) (b : Bool) :
    (s.offerHandover old new b).exceptRegulation = s.exceptRegulation := by
  unfold State.offerHandover
  apply foldl_keeps State.exceptRegulation
  intro t p
  dsimp only
  split <;> simp

@[simp] theorem exceptRegulation_stageZone (i : Fin 32) (b : Bool) : (s.stageZone i b).exceptRegulation = s.exceptRegulation := by
  unfold State.stageZone
  have fig : (s.zones[i].standing.foldl (fun t g => t.computeGroup g) s).exceptRegulation = s.exceptRegulation :=
    foldl_keeps State.exceptRegulation _ (fun t g => exceptRegulation_computeGroup t g) _ s
  dsimp only
  split
  · rw [exceptRegulation_offerHandover, exceptRegulation_deficitTest]; exact fig
  · rw [exceptRegulation_deficitTest]; exact fig

/-- A pass writes portals, zones, groups, the F queue, portal flags and the report, and nothing else. -/
@[simp] theorem exceptRegulation_pass (p : Fin 4) (a b : Bool) : (s.pass p a b).exceptRegulation = s.exceptRegulation := by
  unfold State.pass
  dsimp only
  rw [foldl_keeps State.exceptRegulation _ (fun t z => exceptRegulation_stageZone t z b)]
  exact exceptRegulation_passStep1 s p a

@[simp] theorem exceptRegulation_startPortal (p : Fin 4) : (s.startPortal p).exceptRegulation = s.exceptRegulation := by
  unfold State.startPortal
  dsimp only
  rw [exceptRegulation_mapPortal, exceptRegulation_pass]; rfl

@[simp] theorem exceptRegulation_standbyPortal (p : Fin 4) : (s.standbyPortal p).exceptRegulation = s.exceptRegulation := rfl

@[simp] theorem exceptRegulation_discardRegulation : s.discardRegulation.exceptRegulation = s.exceptRegulation := rfl

/-! ### Ramps and overrides -/

@[simp] theorem exceptRegulation_offerRamp (p : Fin 4) (i : Fin 32) (k : LevelKind) :
    (s.offerRamp p i k).exceptRegulation = s.exceptRegulation := by
  unfold State.offerRamp
  apply foldl_keeps State.exceptRegulation
  intro t q
  dsimp only
  split <;> simp

@[simp] theorem exceptRegulation_rampZone (p : Fin 4) (i : Fin 32) : (s.rampZone p i).exceptRegulation = s.exceptRegulation := by
  unfold State.rampZone
  dsimp only
  split
  · simp
  · rfl
  · rw [exceptRegulation_offerRamp]
    split
    · rw [exceptRegulation_count]; rfl
    · rfl

@[simp] theorem exceptRegulation_offerForce (i : Fin 32) (k : OverrideKind) :
    (s.offerForce i k).exceptRegulation = s.exceptRegulation := by
  unfold State.offerForce
  apply foldl_keeps State.exceptRegulation
  intro t q
  dsimp only
  split <;> split <;> simp

@[simp] theorem exceptRegulation_forceZone (i : Fin 32) (k : OverrideKind) (l : Nat) (sc : OverrideScope) :
    (s.forceZone i k l sc).exceptRegulation = s.exceptRegulation := by
  unfold State.forceZone
  rw [exceptRegulation_offerForce]; rfl

@[simp] theorem exceptRegulation_forcePortal (p : Fin 4) (k : OverrideKind) (l : Nat) :
    (s.forcePortal p k l).exceptRegulation = s.exceptRegulation := by
  unfold State.forcePortal
  dsimp only
  rw [foldl_keeps State.exceptRegulation _ (fun t z => exceptRegulation_forceZone t z k l .portal)]; rfl

@[simp] theorem exceptRegulation_releasePortal (p : Fin 4) : (s.releasePortal p).exceptRegulation = s.exceptRegulation := rfl

/-! ### Drivers and the poller -/

@[simp] theorem exceptPolling_mapDriver (d : Fin 160) (f : Driver → Driver) :
    (s.mapDriver d f).exceptPolling = s.exceptPolling := rfl

@[simp] theorem exceptPolling_driverChanged (d : Fin 160) (a b : DriverState) :
    (s.driverChanged d a b).exceptPolling = s.exceptPolling := by
  unfold State.driverChanged
  split
  · rfl
  · split
    · rfl
    · split
      · simp
      · split <;> simp

@[simp] theorem exceptPolling_resync (d : Fin 160) (l : Nat) : (s.resync d l).exceptPolling = s.exceptPolling := by
  unfold State.resync
  dsimp only
  split
  · rfl
  · split <;> rfl

/-- A snooped STATUS writes driver records, due marks, portal flags and the report, and nothing else. -/
@[simp] theorem exceptPolling_snoop (d : Fin 160) (c : Byte) (l : BitVec 16) : (s.snoop d c l).exceptPolling = s.exceptPolling := by
  unfold State.snoop
  simp

@[simp] theorem exceptPolling_enterAbsent (d : Fin 160) : (s.enterAbsent d).exceptPolling = s.exceptPolling := by
  unfold State.enterAbsent
  simp

/-- A miss writes driver records, portal flags and the report, and nothing else. -/
@[simp] theorem exceptPolling_chargeMiss (d : Fin 160) (o : PollOrigin) : (s.chargeMiss d o).exceptPolling = s.exceptPolling := by
  unfold State.chargeMiss
  dsimp only
  split
  · cases o with
    | scan => simp
    | round => dsimp only; split <;> simp
  · rfl

@[simp] theorem exceptPolling_rescanEnd : s.rescanEnd.exceptPolling = s.exceptPolling := by
  unfold State.rescanEnd
  rw [exceptPolling_deviceEvent]; rfl

@[simp] theorem exceptPolling_rescanOffer : s.rescanOffer.exceptPolling = s.exceptPolling := by
  unfold State.rescanOffer
  split
  · simp
  · split
    · exact exceptPolling_offerPoll s _ _
    · dsimp only
      split
      · rfl
      · rw [exceptPolling_rescanEnd]; rfl

@[simp] theorem exceptPolling_rescanStart : s.rescanStart.exceptPolling = s.exceptPolling := by
  unfold State.rescanStart
  rw [exceptPolling_rescanOffer]; rfl

@[simp] theorem exceptPolling_scanWindowEnded (d : Fin 160) : (s.scanWindowEnded d).exceptPolling = s.exceptPolling := by
  unfold State.scanWindowEnded
  split
  · rfl
  · split
    · rw [exceptPolling_rescanOffer]; rfl
    · rfl

theorem exceptPolling_withDrivers (v : Vector Driver 160) : ({ s with drivers := v } : State).exceptPolling = s.exceptPolling := rfl

@[simp] theorem exceptPolling_driversUnknown : s.driversUnknown.exceptPolling = s.exceptPolling :=
  exceptPolling_withDrivers s _

@[simp] theorem exceptPolling_abandonRescan : s.abandonRescan.exceptPolling = s.exceptPolling := rfl

/-! ### Receivers -/

/-- Losing or discarding a byte leaves state, buffer, check register, count and gap timer alone. -/
@[simp] theorem Receiver.lostByte_state (r : Receiver) (now bt : Time) : (r.lostByte now bt).state = r.state := rfl
@[simp] theorem Receiver.lostByte_buffer (r : Receiver) (now bt : Time) : (r.lostByte now bt).buffer = r.buffer := rfl
@[simp] theorem Receiver.lostByte_check (r : Receiver) (now bt : Time) : (r.lostByte now bt).check = r.check := rfl
@[simp] theorem Receiver.lostByte_fragment (r : Receiver) (now bt : Time) : (r.lostByte now bt).fragment = r.fragment := rfl
@[simp] theorem Receiver.lostByte_counted (r : Receiver) (now bt : Time) : (r.lostByte now bt).counted = r.counted := rfl
@[simp] theorem Receiver.lostByte_gap (r : Receiver) (now bt : Time) : (r.lostByte now bt).gap = r.gap := rfl

@[simp] theorem Receiver.discard_state (r : Receiver) (now bt : Time) : (r.discard now bt).state = r.state := by
  unfold Receiver.discard; split <;> rfl
@[simp] theorem Receiver.discard_buffer (r : Receiver) (now bt : Time) : (r.discard now bt).buffer = r.buffer := by
  unfold Receiver.discard; split <;> rfl
@[simp] theorem Receiver.discard_check (r : Receiver) (now bt : Time) : (r.discard now bt).check = r.check := by
  unfold Receiver.discard; split <;> rfl
@[simp] theorem Receiver.discard_counted (r : Receiver) (now bt : Time) : (r.discard now bt).counted = r.counted := by
  unfold Receiver.discard; split <;> rfl

theorem Receiver.losesByte_iff (r : Receiver) (now : Time) : r.losesByte now = true ↔ ∃ t, r.lostUntil = some t ∧ now ≤ t := by
  unfold Receiver.losesByte
  cases r.lostUntil <;> simp

theorem Receiver.discard_of_lost {r : Receiver} {now bt : Time} (h : r.losesByte now = true) :
    r.discard now bt = r.lostByte now bt := if_pos h

theorem Receiver.discard_of_not_lost {r : Receiver} {now bt : Time} (h : r.losesByte now = false) :
    r.discard now bt = { r with fragment := r.fragment || !r.counted } := if_neg (by simp [h])

/-! ### The window after RESTART -/

@[simp] theorem FTx.disowned_idle : FTx.idle.disowned = .idle := rfl
@[simp] theorem FTx.disowned_sending (f : Frame) (own : Option OwnPoll) : (FTx.sending f own).disowned = .sending f none := rfl
@[simp] theorem FTx.disowned_awaitReply (w : Window) (ends : Time) :
    (FTx.awaitReply w ends).disowned = .awaitReply { w with owner := none, origin := none } ends := rfl

/-- After RESTART no SCAN POLL is on the segment. -/
@[simp] theorem FTx.holdsScan_disowned (t : FTx) : t.disowned.holdsScan = false := by
  cases t <;> rfl

/-- A window without owner charges no one (R45, R49). -/
theorem State.missWindow_of_owner_none {w : Window} (h : w.owner = none) : s.missWindow w = s := by
  unfold State.missWindow
  rw [h]
  cases s.mode <;> cases w.scope <;> rfl

/-! ### The window of a SCAN POLL -/

/-- A window left by an abandoned rescan moves no rescan on (R141, log 19). -/
theorem State.scanWindowEnded_of_orphan {d : Fin 160} (h : s.scanOrphan = true) :
    s.scanWindowEnded d = { s with scanOrphan := false } := if_pos h

theorem State.scanWindowEnded_of_walking {d : Fin 160} (h : s.scanOrphan = false) (hr : s.rescan = .awaitWindow) :
    s.scanWindowEnded d = { s with rescanPosition := d.val + 1 }.rescanOffer := by
  simp [State.scanWindowEnded, h, hr]

theorem State.scanWindowEnded_of_not_walking {d : Fin 160} (h : s.scanOrphan = false) (hr : s.rescan ≠ .awaitWindow) :
    s.scanWindowEnded d = s := by
  simp [State.scanWindowEnded, h, hr]

/-- No window is charged in TRANSPARENT (R45). -/
theorem State.missWindow_of_transparent {w : Window} (h : s.mode = .transparent) : s.missWindow w = s := by
  unfold State.missWindow
  rw [h]

/-! ### The reference of a gate -/

theorem PulseInput.referenceAt_of_not_cleared {r : PulseInput} {now : Time} (h : ∀ c, r.cleared = some c → c.moment ≠ now) :
    r.referenceAt now = r.reference := by
  unfold PulseInput.referenceAt
  split
  · rename_i c hc; exact if_neg (h c hc)
  · rfl

theorem PulseInput.referenceAt_of_cleared {r : PulseInput} {now : Time} {c : ClearedReference} (h : r.cleared = some c)
    (hm : c.moment = now) : r.referenceAt now = c.reference := by
  simp [PulseInput.referenceAt, h, hm]

theorem PulseInput.clearedNow_iff (r : PulseInput) (now : Time) :
    r.clearedNow now = true ↔ ∃ c, r.cleared = some c ∧ c.moment = now := by
  unfold PulseInput.clearedNow
  cases r.cleared <;> simp

end Sys2Proof.Machine
end

