-- ==== Sys2Proof/Laws/Report.lean ====
section
/-! SUPPORT. What counting and alerting do to the C queue and to the counters: they may add ALERTs while there is room, and an ALERT
offered touches no counter but those of code 11. -/

namespace Sys2Proof.Machine

/-- The queue has grown by ALERTs alone, within its 16 places. -/
def AlertsAdded (q q' : List CEntry) : Prop :=
  ∃ added, q' = q ++ added ∧ (∀ e ∈ added, e.kind = .alert) ∧ (q.length ≤ 16 → q'.length ≤ 16)

theorem AlertsAdded.refl (q : List CEntry) : AlertsAdded q q := ⟨[], by simp, by simp, id⟩

theorem AlertsAdded.of_eq {q q' : List CEntry} (h : q' = q) : AlertsAdded q q' := h ▸ AlertsAdded.refl q

theorem AlertsAdded.trans {q q' q'' : List CEntry} (h : AlertsAdded q q') (h' : AlertsAdded q' q'') : AlertsAdded q q'' := by
  obtain ⟨a, rfl, ka, la⟩ := h
  obtain ⟨b, rfl, kb, lb⟩ := h'
  refine ⟨a ++ b, by simp, ?_, fun hq => lb (la hq)⟩
  intro e he
  rcases List.mem_append.mp he with he | he
  · exact ka e he
  · exact kb e he

theorem AlertsAdded.bound {q q' : List CEntry} (h : AlertsAdded q q') (hq : q.length ≤ 16) : q'.length ≤ 16 := by
  obtain ⟨_, _, _, l⟩ := h
  exact l hq

/-- A full queue stays as it is. -/
theorem AlertsAdded.full {q q' : List CEntry} (h : AlertsAdded q q') (hq : q.length = 16) : q'.length = 16 := by
  have := h.bound (by omega)
  obtain ⟨a, rfl, _, _⟩ := h
  simp only [List.length_append] at *
  omega

/-- A fold whose rounds add ALERTs alone adds ALERTs alone. -/
theorem AlertsAdded.foldl {σ α : Type} (q : σ → List CEntry) (f : σ → α → σ) (h : ∀ t x, AlertsAdded (q t) (q (f t x)))
    (l : List α) (s : σ) : AlertsAdded (q s) (q (l.foldl f s)) := by
  induction l generalizing s with
  | nil => exact .refl _
  | cons x l ih => exact (h s x).trans (ih _)

/-! ### Reports -/

theorem Report.dropRound_cQueue (cfg : ReportCfg) (again : Report → Report) (h : ∀ r, (again r).cQueue = r.cQueue) (r : Report)
    (i : Fin 8) : (r.dropRound cfg again i).cQueue = r.cQueue := by
  unfold Report.dropRound
  dsimp only
  split
  · split
    · split
      · rw [h]; rfl
      · rfl
    · rfl
  · rfl

/-- Counting a dropped ALERT adds none: it is counted where the queue is full (R40). -/
theorem Report.countDropped_cQueue (cfg : ReportCfg) (fuel : Nat) (r : Report) :
    (Report.countDropped cfg fuel r).cQueue = r.cQueue := by
  unfold Report.countDropped
  induction fuel generalizing r with
  | zero => rfl
  | succ n ih => exact foldl_keeps Report.cQueue _ (fun t i => Report.dropRound_cQueue cfg _ ih t i) _ r

theorem Report.offerAlert_adds (cfg : ReportCfg) (en : Bool) (e o : Byte) (v : Nat) (r : Report) :
    AlertsAdded r.cQueue (r.offerAlert cfg en e o v).cQueue := by
  unfold Report.offerAlert
  split
  · split
    · next h => exact ⟨[_], rfl, by simp, fun _ => by simp; omega⟩
    · rw [Report.countDropped_cQueue]; exact .refl _
  · exact .refl _

theorem Report.count_adds (cfg : ReportCfg) (c : Fin 16) (a : CounterScope → Nat) (r : Report) :
    AlertsAdded r.cQueue (r.count cfg c a).cQueue := by
  unfold Report.count
  refine AlertsAdded.foldl Report.cQueue _ (fun t i => ?_) _ r
  dsimp only
  split
  · split
    · exact (Report.offerAlert_adds cfg _ _ _ _ (Report.latch { t with counters := _ } .cntOvf) :)
    · exact .refl _
  · exact .refl _

/-! ### States -/

theorem count_adds (s : State) (c : Fin 16) (a : CounterScope → Nat) : AlertsAdded s.cQueue (s.count c a).cQueue :=
  Report.count_adds _ c a s.report

theorem offerAlert_adds (s : State) (en : Bool) (e o : Byte) (v : Nat) : AlertsAdded s.cQueue (s.offerAlert en e o v).cQueue :=
  Report.offerAlert_adds _ en e o v s.report

theorem portalAlert_adds (s : State) (p : Fin 4) (e o : Byte) (v : Nat) : AlertsAdded s.cQueue (s.portalAlert p e o v).cQueue :=
  offerAlert_adds s _ e o v

theorem portalEvent_adds (s : State) (p : Fin 4) (f : PortalFlag) (o : Byte) (v : Nat) :
    AlertsAdded s.cQueue (s.portalEvent p f o v).cQueue :=
  portalAlert_adds (s.latchPortal p f) p _ o v

theorem deviceEvent_adds (s : State) (f : DeviceFlag) (o : Byte) (v : Nat) : AlertsAdded s.cQueue (s.deviceEvent f o v).cQueue :=
  Report.offerAlert_adds _ _ _ o v (s.report.latch f)

/-! ### What offering an ALERT does to the counters -/

/-- Selects and scopes are kept, and every counter that is not on code 11. -/
def OnlyCode11 (v w : Vector Counter 8) : Prop :=
  ∀ i : Fin 8, w[i].select = v[i].select ∧ w[i].scope = v[i].scope ∧ (v[i].select ≠ 11 → w[i] = v[i])

theorem OnlyCode11.refl (v : Vector Counter 8) : OnlyCode11 v v := fun _ => ⟨rfl, rfl, fun _ => rfl⟩

theorem OnlyCode11.of_eq {v w : Vector Counter 8} (h : w = v) : OnlyCode11 v w := h ▸ .refl v

theorem OnlyCode11.trans {u v w : Vector Counter 8} (h : OnlyCode11 u v) (h' : OnlyCode11 v w) : OnlyCode11 u w := fun i =>
  ⟨(h' i).1.trans (h i).1, (h' i).2.1.trans (h i).2.1, fun hn => ((h' i).2.2 (by rw [(h i).1]; exact hn)).trans ((h i).2.2 hn)⟩

/-- A fold whose rounds touch counters of code 11 alone touches those alone. -/
theorem OnlyCode11.foldl {σ α : Type} (c : σ → Vector Counter 8) (f : σ → α → σ) (h : ∀ t x, OnlyCode11 (c t) (c (f t x)))
    (l : List α) (s : σ) : OnlyCode11 (c s) (c (l.foldl f s)) := by
  induction l generalizing s with
  | nil => exact .refl _
  | cons x l ih => exact (h s x).trans (ih _)

theorem OnlyCode11.updAt {v : Vector Counter 8} {i : Fin 8} (n : Nat) (h : v[i].select = 11) :
    OnlyCode11 v (updAt v i (·.add n)) := by
  intro j
  rw [updAt_get]
  split
  · next e => subst e; exact ⟨rfl, rfl, fun hn => absurd h hn⟩
  · exact ⟨rfl, rfl, fun _ => rfl⟩

theorem Report.dropRound_only (cfg : ReportCfg) (again : Report → Report) (h : ∀ r, OnlyCode11 r.counters (again r).counters)
    (r : Report) (i : Fin 8) : OnlyCode11 r.counters (r.dropRound cfg again i).counters := by
  unfold Report.dropRound
  dsimp only
  split
  · next hi =>
    have added := OnlyCode11.updAt (v := r.counters) (i := i) 1 hi
    split
    · split
      · exact added.trans (h (Report.latch { r with counters := _ } .cntOvf) :)
      · exact added
    · exact added
  · exact .refl _

theorem Report.countDropped_only (cfg : ReportCfg) (fuel : Nat) (r : Report) :
    OnlyCode11 r.counters (Report.countDropped cfg fuel r).counters := by
  unfold Report.countDropped
  induction fuel generalizing r with
  | zero => exact .refl _
  | succ n ih => exact OnlyCode11.foldl Report.counters _ (fun t i => Report.dropRound_only cfg _ ih t i) _ r

/-- Offering an ALERT touches counters of code 11 alone (R40). -/
theorem Report.offerAlert_only (cfg : ReportCfg) (en : Bool) (e o : Byte) (v : Nat) (r : Report) :
    OnlyCode11 r.counters (r.offerAlert cfg en e o v).counters := by
  unfold Report.offerAlert
  split
  · split
    · exact .refl _
    · exact Report.countDropped_only cfg 9 r
  · exact .refl _

theorem portalAlert_only (s : State) (p : Fin 4) (e o : Byte) (v : Nat) :
    OnlyCode11 s.counters (s.portalAlert p e o v).counters := Report.offerAlert_only _ _ e o v s.report

theorem portalEvent_only (s : State) (p : Fin 4) (f : PortalFlag) (o : Byte) (v : Nat) :
    OnlyCode11 s.counters (s.portalEvent p f o v).counters := portalAlert_only (s.latchPortal p f) p _ o v

theorem deviceEvent_only (s : State) (f : DeviceFlag) (o : Byte) (v : Nat) :
    OnlyCode11 s.counters (s.deviceEvent f o v).counters := Report.offerAlert_only _ _ _ o v (s.report.latch f)

/-! ### What counting does to the counters -/

/-- With no counter on a code, counting it changes nothing (R165). -/
theorem count_none (s : State) (c : Fin 16) (a : CounterScope → Nat) (h : ∀ i : Fin 8, s.counters[i].select ≠ c) :
    s.count c a = s := by
  have key : ∀ (l : List (Fin 8)) (r : Report), r.counters = s.counters →
      l.foldl (init := r) (fun r i =>
        if r.counters[i].select = c then
          let n := a r.counters[i].scope
          let r' := { r with counters := updAt r.counters i (·.add n) }
          if r.counters[i].wraps n then
            (r'.latch .cntOvf).offerAlert s.reportCfg s.reportCfg.deviceAlert (DeviceFlag.event .cntOvf) (BitVec.ofNat 8 i.val) c.val
          else r'
        else r) = r := by
    intro l
    induction l with
    | nil => intro r _; rfl
    | cons i l ih =>
      intro r hr
      rw [List.foldl_cons, if_neg (by rw [hr]; exact h i)]
      exact ih r hr
  unfold State.count Report.count
  rw [key _ _ rfl]
  rfl

end Sys2Proof.Machine
end

