-- ==== Sys2Proof/Laws/Queues.lean ====
section
/-! SUPPORT. The two queues: what each operation may do to them. `Regular s t` says that the C queue grew by ALERTs alone and that
the law of the queues (R34, R39) was kept; it composes, and every shared operation of regulation, sensing and polling has it. -/

namespace Sys2Proof.Machine

/-! ### Picks (R35, R39) -/

/-- A pick takes one entry out of a queue and leaves the others in their order. -/
theorem pickLowest_split {α : Type} (prio : α → Nat) (q rest : List α) (e : α) (h : pickLowest prio q = some (e, rest)) :
    ∃ a b, q = a ++ e :: b ∧ rest = a ++ b ∧ (∀ x ∈ a, prio e < prio x) ∧ ∀ x ∈ b, prio e ≤ prio x := by
  induction q generalizing rest e with
  | nil => simp [pickLowest] at h
  | cons x q ih =>
    unfold pickLowest at h
    cases hq : pickLowest prio q with
    | none =>
      have : q = [] := by
        cases q with
        | nil => rfl
        | cons y q =>
          exfalso
          unfold pickLowest at hq
          split at hq
          · simp at hq
          · split at hq <;> simp at hq
      rw [hq] at h
      simp only [Option.some.injEq, Prod.mk.injEq] at h
      obtain ⟨rfl, rfl⟩ := h
      subst this
      exact ⟨[], [], rfl, rfl, by simp, by simp⟩
    | some p =>
      obtain ⟨e', rest'⟩ := p
      obtain ⟨a, b, hab, hr, ha, hb⟩ := ih rest' e' hq
      rw [hq] at h
      dsimp only at h
      split at h
      · next hle =>
        simp only [Option.some.injEq, Prod.mk.injEq] at h
        obtain ⟨rfl, rfl⟩ := h
        refine ⟨[], q, rfl, rfl, by simp, ?_⟩
        intro y hy
        rw [hab] at hy
        rcases List.mem_append.mp hy with hy | hy
        · have := ha y hy; omega
        · rcases List.mem_cons.mp hy with rfl | hy
          · exact hle
          · have := hb y hy; omega
      · next hlt =>
        simp only [Option.some.injEq, Prod.mk.injEq] at h
        obtain ⟨rfl, rfl⟩ := h
        refine ⟨x :: a, b, by rw [hab]; rfl, by rw [hr]; rfl, ?_, hb⟩
        intro y hy
        rcases List.mem_cons.mp hy with rfl | hy
        · omega
        · exact ha y hy

theorem pickLowest_length {α : Type} (prio : α → Nat) (q rest : List α) (e : α) (h : pickLowest prio q = some (e, rest)) :
    q.length = rest.length + 1 := by
  obtain ⟨a, b, rfl, rfl, _⟩ := pickLowest_split prio q rest e h
  simp; omega

/-! ### The law of the queues -/

/-- Same F queue, same pending marks, C queue grown by ALERTs: the law is kept. -/
theorem queuesSound_of_quiet {s t : State} (hf : t.fQueue = s.fQueue) (hc : AlertsAdded s.cQueue t.cQueue)
    (hm : ∀ g : Fin 48, t.groups[g].pendingMark = s.groups[g].pendingMark) (h : s.queuesSound) : t.queuesSound := by
  obtain ⟨h1, h2, h3⟩ := h
  refine ⟨by rw [hf]; exact h1, hc.bound h2, fun g => ?_⟩
  rw [hf, hm]
  exact h3 g

/-- ALERTs alone were added to the C queue, and the law of the queues was kept. -/
def Regular (s t : State) : Prop := AlertsAdded s.cQueue t.cQueue ∧ (s.queuesSound → t.queuesSound)

theorem Regular.refl (s : State) : Regular s s := ⟨.refl _, id⟩

theorem Regular.trans {s t u : State} (h : Regular s t) (h' : Regular t u) : Regular s u :=
  ⟨h.1.trans h'.1, fun hs => h'.2 (h.2 hs)⟩

theorem Regular.of_quiet {s t : State} (hf : t.fQueue = s.fQueue) (hc : AlertsAdded s.cQueue t.cQueue)
    (hm : ∀ g : Fin 48, t.groups[g].pendingMark = s.groups[g].pendingMark) : Regular s t :=
  ⟨hc, queuesSound_of_quiet hf hc hm⟩

/-- An update of fields that the queues do not read. -/
theorem Regular.of_same {s t : State} (hf : t.fQueue = s.fQueue) (hc : t.cQueue = s.cQueue) (hg : t.groups = s.groups) :
    Regular s t := .of_quiet hf (.of_eq hc) fun g => by rw [hg]

theorem Regular.withZones (s : State) (v : Vector Zone 32) : Regular s { s with zones := v } := .of_same rfl rfl rfl
theorem Regular.withDrivers (s : State) (v : Vector Driver 160) : Regular s { s with drivers := v } := .of_same rfl rfl rfl
theorem Regular.withSensors (s : State) (v : Vector Sensor 8) : Regular s { s with sensors := v } := .of_same rfl rfl rfl
theorem Regular.withPortals (s : State) (v : Vector Portal 4) : Regular s { s with portals := v } := .of_same rfl rfl rfl

theorem Regular.foldl {α : Type} (f : State → α → State) (h : ∀ t x, Regular t (f t x)) (l : List α) (s : State) :
    Regular s (l.foldl f s) := by
  induction l generalizing s with
  | nil => exact .refl _
  | cons x l ih => exact (h s x).trans (ih _)

variable (s : State)

theorem Regular.count (c : Fin 16) (a : CounterScope → Nat) : Regular s (s.count c a) :=
  .of_quiet (by simp) (count_adds s c a) fun g => by simp

theorem Regular.deviceEvent (f : DeviceFlag) (o : Byte) (v : Nat) : Regular s (s.deviceEvent f o v) :=
  .of_quiet (by simp) (deviceEvent_adds s f o v) fun g => by simp

theorem Regular.portalAlert (p : Fin 4) (e o : Byte) (v : Nat) : Regular s (s.portalAlert p e o v) :=
  .of_quiet (by simp) (portalAlert_adds s p e o v) fun g => by simp

theorem Regular.portalEvent (p : Fin 4) (f : PortalFlag) (o : Byte) (v : Nat) : Regular s (s.portalEvent p f o v) :=
  .of_quiet (by simp) (portalEvent_adds s p f o v) fun g => by simp

theorem Regular.withGroups (v : Vector Group 48) (h : ∀ g : Fin 48, v[g].pendingMark = s.groups[g].pendingMark) :
    Regular s { s with groups := v } := .of_quiet rfl (.refl _) h

/-! ### Offers to the F queue (R36 to R38) -/

theorem FEntry.isLevelOf_fold (g h : Fin 48) (l : Nat) (k : LevelKind) (e : FEntry) :
    (FEntry.fold g l k e).isLevelOf h = e.isLevelOf h := by
  cases e with
  | level g' l' k' =>
    simp only [FEntry.fold]
    split
    · next e => subst e; rfl
    · rfl
  | passThrough f => rfl
  | poll d o => rfl

/-- Every outcome of an own LEVEL offer keeps the law of the queues. -/
theorem Regular.offerLevel (g : Fin 48) (l : Nat) (k : LevelKind) : Regular s (s.offerLevel g l k) := by
  unfold State.offerLevel
  split
  · next hp =>
    refine ⟨.refl _, fun h => ?_⟩
    obtain ⟨h1, h2, h3⟩ := h
    refine ⟨by simpa using h1, h2, fun j => ?_⟩
    have hc : (s.fQueue.map (FEntry.fold g l k)).countP (·.isLevelOf j) = s.fQueue.countP (·.isLevelOf j) := by
      rw [List.countP_map]
      congr 1
      funext e
      exact FEntry.isLevelOf_fold g j l k e
    have hm : (updAt s.groups g (·.accepted s.now l))[j].pendingMark = s.groups[j].pendingMark := by
      rw [updAt_get]
      split
      · next e => subst e; exact hp.symm
      · rfl
    show (s.fQueue.map (FEntry.fold g l k)).countP (·.isLevelOf j) = _
    rw [hc, h3 j]
    show _ = if (updAt s.groups g (·.accepted s.now l))[j].pendingMark = true then 1 else 0
    rw [hm]
  · next hp =>
    split
    · next hl =>
      refine ⟨.refl _, fun h => ?_⟩
      obtain ⟨h1, h2, h3⟩ := h
      refine ⟨by simp; omega, h2, fun j => ?_⟩
      show (s.fQueue ++ [FEntry.level g l k]).countP (·.isLevelOf j)
        = if (updAt s.groups g (·.accepted s.now l))[j].pendingMark = true then 1 else 0
      rw [List.countP_append, h3 j, updAt_get]
      by_cases e : g = j
      · subst e
        have hp' : s.groups[g].pendingMark = false := by simpa using hp
        rw [if_pos rfl, hp']
        simp [FEntry.isLevelOf, Group.accepted]
      · rw [if_neg e]
        simp [FEntry.isLevelOf, e]
    · refine Regular.trans ?_ (Regular.count _ _ _)
      exact .withGroups s _ fun _ => updAt_proj Group.pendingMark _ _ _ _ fun _ => rfl

theorem Regular.offerPoll (d : Fin 160) (o : PollOrigin) : Regular s (s.offerPoll d o) := by
  unfold State.offerPoll
  split
  · next hl =>
    refine ⟨.refl _, fun h => ?_⟩
    obtain ⟨h1, h2, h3⟩ := h
    refine ⟨by simp; omega, h2, fun j => ?_⟩
    show (s.fQueue ++ [FEntry.poll d o]).countP (·.isLevelOf j) = _
    rw [List.countP_append, h3 j]
    rfl
  · exact .refl _

theorem Regular.offerPassF (f : Frame) : Regular s (s.offerPassF f) := by
  unfold State.offerPassF
  split
  · next hl =>
    refine ⟨.refl _, fun h => ?_⟩
    obtain ⟨h1, h2, h3⟩ := h
    refine ⟨by simp; omega, h2, fun j => ?_⟩
    show (s.fQueue ++ [FEntry.passThrough f]).countP (·.isLevelOf j) = _
    rw [List.countP_append, h3 j]
    rfl
  · exact (Regular.count s _ _).trans (Regular.deviceEvent _ _ _ _)

/-- A pass-through frame to the C queue keeps the law of the queues; it may add the frame besides ALERTs. -/
theorem queuesSound_offerPassC (f : Frame) (h : s.queuesSound) : (s.offerPassC f).queuesSound := by
  unfold State.offerPassC
  split
  · next hl =>
    obtain ⟨h1, h2, h3⟩ := h
    exact ⟨h1, by simp; omega, h3⟩
  · exact ((Regular.count s _ _).trans (Regular.deviceEvent _ _ _ _)).2 h

/-! ### Regulation -/

theorem Regular.mapPortal (p : Fin 4) (f : Portal → Portal) : Regular s (s.mapPortal p f) := .of_same rfl rfl rfl
theorem Regular.mapZone (i : Fin 32) (f : Zone → Zone) : Regular s (s.mapZone i f) := .of_same rfl rfl rfl
theorem Regular.reach (t : Time) : Regular s (s.reach t) := .of_same rfl rfl rfl
theorem Regular.elapse (t : Time) : Regular s (s.elapse t) := .of_same rfl rfl rfl

theorem Regular.computeGroup (g : Fin 48) : Regular s (s.computeGroup g) :=
  .withGroups s _ fun _ => updAt_proj Group.pendingMark _ _ _ _ fun _ => rfl

theorem Regular.enterTracking (p : Fin 4) (la : Nat) (d : Bool) : Regular s (s.enterTracking p la d) := by
  unfold State.enterTracking
  dsimp only
  split
  · exact .mapPortal _ _ _
  · exact (Regular.mapPortal _ _ _).trans (.portalAlert _ _ _ _ _)

theorem Regular.track (p : Fin 4) (la : Nat) (low : Option Nat) : Regular s (s.track p la low) := by
  unfold State.track
  dsimp only
  split
  · split
    · exact .enterTracking _ _ _ _
    · exact (Regular.enterTracking _ _ _ _).trans (.portalEvent _ _ _ _ _)
  · exact .enterTracking _ _ _ _

theorem Regular.enterFallback (p : Fin 4) : Regular s (s.enterFallback p) := by
  unfold State.enterFallback
  exact (Regular.mapPortal _ _ _).trans (.portalEvent _ _ _ _ _)

theorem Regular.lose (p : Fin 4) (b : Bool) : Regular s (s.lose p b) := by
  unfold State.lose
  dsimp only
  split
  · split
    · exact (Regular.portalEvent _ _ _ _ _).trans (.enterFallback _ _)
    · exact (Regular.mapPortal _ _ _).trans (.portalEvent _ _ _ _ _)
  · split
    · exact .enterFallback _ _
    · exact .mapPortal _ _ _
  · exact .mapPortal _ _ _
  · exact .refl _
  · exact .refl _

theorem Regular.passStep1 (p : Fin 4) (b : Bool) : Regular s (s.passStep1 p b) := by
  unfold State.passStep1
  dsimp only
  split
  · exact .track _ _ _ _
  · exact .track _ _ _ _
  · exact .track _ _ _ _
  · exact .lose _ _ _

theorem Regular.passStep2 (p : Fin 4) : Regular s (s.passStep2 p) := .mapPortal _ _ _
theorem Regular.passStep3 (p : Fin 4) : Regular s (s.passStep3 p) := by
  unfold State.passStep3
  dsimp only
  exact .withZones _ _

theorem Regular.deficitTest (i : Fin 32) (lz sAll : Nat) : Regular s (s.deficitTest i lz sAll) := by
  unfold State.deficitTest
  dsimp only
  split
  · exact Regular.trans (.of_same rfl rfl rfl) (.portalEvent _ _ _ _ _)
  · split
    · exact Regular.trans (.of_same rfl rfl rfl) (.portalAlert _ _ _ _ _)
    · exact .of_same rfl rfl rfl

theorem Regular.offerHandover (old new : Zone) (b : Bool) : Regular s (s.offerHandover old new b) := by
  unfold State.offerHandover
  apply Regular.foldl
  intro t p
  dsimp only
  split
  · exact .offerLevel _ _ _ _
  · exact .refl _

theorem Regular.selectedTest (v : Vector Zone 32) (i : Fin 32) (lz sAll : Nat) :
    Regular s (({ s with zones := v } : State).deficitTest i lz sAll) := (Regular.withZones s v).trans (.deficitTest _ _ _ _)

theorem Regular.selectedOffers (v : Vector Zone 32) (i : Fin 32) (lz sAll : Nat) (old new : Zone) (b : Bool) :
    Regular s ((({ s with zones := v } : State).deficitTest i lz sAll).offerHandover old new b) :=
  (Regular.selectedTest s v i lz sAll).trans (.offerHandover _ _ _ _)

theorem Regular.stageZone (i : Fin 32) (b : Bool) : Regular s (s.stageZone i b) := by
  unfold State.stageZone
  have fig : Regular s (s.zones[i].standing.foldl (fun t g => t.computeGroup g) s) :=
    Regular.foldl _ (fun t g => .computeGroup t g) _ s
  dsimp only
  refine fig.trans ?_
  generalize s.zones[i].standing.foldl (fun t g => t.computeGroup g) s = t
  split
  · exact Regular.selectedOffers t _ i _ _ _ _ b
  · exact Regular.selectedTest t _ i _ _

theorem Regular.pass (p : Fin 4) (a b : Bool) : Regular s (s.pass p a b) := by
  unfold State.pass
  dsimp only
  exact ((Regular.passStep1 s p a).trans ((Regular.passStep2 _ p).trans (.passStep3 _ p))).trans
    (Regular.foldl _ (fun t z => .stageZone t z b) _ _)

theorem Regular.passExpiry (p : Fin 4) : Regular s (s.passExpiry p) := by
  unfold State.passExpiry
  split
  · exact .refl _
  · exact (Regular.reach _ _).trans ((Regular.mapPortal _ _ _).trans (.pass _ _ _ _))

theorem Regular.holdExpiry (p : Fin 4) : Regular s (s.holdExpiry p) := by
  unfold State.holdExpiry
  split
  · exact .refl _
  · exact (Regular.reach _ _).trans ((Regular.mapPortal _ _ _).trans (.pass _ _ _ _))

theorem Regular.startPortal (p : Fin 4) : Regular s (s.startPortal p) := by
  unfold State.startPortal
  dsimp only
  exact ((Regular.mapPortal s p Portal.started).trans (.withZones _ _)).trans
    ((Regular.pass _ p false true).trans (.mapPortal _ p _))

theorem Regular.withZonesGroups (v : Vector Zone 32) (w : Vector Group 48)
    (h : ∀ g : Fin 48, w[g].pendingMark = s.groups[g].pendingMark) : Regular s { s with zones := v, groups := w } :=
  .of_quiet rfl (.refl _) h

theorem Regular.standbyPortal (p : Fin 4) : Regular s (s.standbyPortal p) := by
  unfold State.standbyPortal
  refine .trans (.mapPortal s p Portal.stopped) ?_
  dsimp only
  refine .withZonesGroups (s.mapPortal p Portal.stopped) _ _ fun g => ?_
  rw [updAll_get]
  show (if _ then { s.groups[g] with due := false } else s.groups[g]).pendingMark = s.groups[g].pendingMark
  split <;> rfl

theorem Regular.discardRegulation : Regular s s.discardRegulation := by
  unfold State.discardRegulation
  refine .trans (.withPortals s _) (.trans (.withZones _ _) (.withGroups _ _ fun g => ?_))
  rw [updAll_get]

/-! ### Ramps and overrides -/

theorem Regular.offerRamp (p : Fin 4) (i : Fin 32) (k : LevelKind) : Regular s (s.offerRamp p i k) := by
  unfold State.offerRamp
  apply Regular.foldl
  intro t q
  dsimp only
  split
  · exact .offerLevel _ _ _ _
  · exact .refl _

theorem Regular.rampZone (p : Fin 4) (i : Fin 32) : Regular s (s.rampZone p i) := by
  unfold State.rampZone
  dsimp only
  split
  · exact .offerRamp _ _ _ _
  · exact .refl _
  · split
    · exact (Regular.mapZone _ _ _).trans ((Regular.count _ _ _).trans (.offerRamp _ _ _ _))
    · exact (Regular.mapZone _ _ _).trans (.offerRamp _ _ _ _)

theorem Regular.rampExpiry (p : Fin 4) : Regular s (s.rampExpiry p) := by
  unfold State.rampExpiry
  split
  · exact .refl _
  · exact (Regular.reach _ _).trans ((Regular.mapPortal _ _ _).trans (Regular.foldl _ (fun t z => .rampZone t p z) _ _))

theorem Regular.offerForce (i : Fin 32) (k : OverrideKind) : Regular s (s.offerForce i k) := by
  unfold State.offerForce
  apply Regular.foldl
  intro t q
  dsimp only
  split <;> split
  · exact .offerLevel _ _ _ _
  · exact .refl _
  · exact .offerLevel _ _ _ _
  · exact .refl _

theorem Regular.forceZone (i : Fin 32) (k : OverrideKind) (l : Nat) (sc : OverrideScope) : Regular s (s.forceZone i k l sc) := by
  unfold State.forceZone
  exact (Regular.mapZone _ _ _).trans (.offerForce _ _ _)

theorem Regular.forcePortal (p : Fin 4) (k : OverrideKind) (l : Nat) : Regular s (s.forcePortal p k l) := by
  unfold State.forcePortal
  exact (Regular.mapPortal _ _ _).trans (Regular.foldl _ (fun t z => .forceZone t z k l .portal) _ _)

/-! ### Sensing -/

theorem Regular.sensorReject (i : Fin 8) : Regular s (s.sensorReject i) := by
  unfold State.sensorReject
  dsimp only
  split
  · exact (Regular.count s _ _).trans (Regular.trans (.of_same rfl rfl rfl)
      (Regular.foldl _ (fun t p => .portalEvent t p _ _ _) _ _))
  · exact (Regular.count s _ _).trans (.of_same rfl rfl rfl)

theorem Regular.offerCandidate (i : Fin 8) (c : Candidate) : Regular s (s.offerCandidate i c) := by
  unfold State.offerCandidate
  split
  · split
    · exact .of_same rfl rfl rfl
    · exact .sensorReject _ _
  · exact .refl _

/-! ### Drivers and the poller -/

theorem Regular.driverChanged (d : Fin 160) (a b : DriverState) : Regular s (s.driverChanged d a b) := by
  unfold State.driverChanged
  split
  · exact .refl _
  · split
    · exact .refl _
    · split
      · exact .portalEvent _ _ _ _ _
      · split
        · exact .portalAlert _ _ _ _ _
        · exact .refl _

theorem Regular.resync (d : Fin 160) (l : Nat) : Regular s (s.resync d l) := by
  unfold State.resync
  dsimp only
  split
  · exact .refl _
  · split
    · exact .withGroups s _ fun _ => updAt_proj Group.pendingMark _ _ _ _ fun _ => rfl
    · exact .refl _

theorem Regular.mapDriver (d : Fin 160) (f : Driver → Driver) : Regular s (s.mapDriver d f) := .of_same rfl rfl rfl

theorem Regular.snoop (d : Fin 160) (c : Byte) (l : BitVec 16) : Regular s (s.snoop d c l) := by
  unfold State.snoop
  exact (Regular.resync _ _ _).trans ((Regular.mapDriver _ _ _).trans (.driverChanged _ _ _ _))

theorem Regular.enterAbsent (d : Fin 160) : Regular s (s.enterAbsent d) := by
  unfold State.enterAbsent
  exact (Regular.mapDriver _ _ _).trans (.driverChanged _ _ _ _)

theorem Regular.chargeMiss (d : Fin 160) (o : PollOrigin) : Regular s (s.chargeMiss d o) := by
  unfold State.chargeMiss
  dsimp only
  split
  · have h : Regular s ((s.mapDriver d fun r => { r with misses := r.misses + 1 }).count 6 (unscoped 1)) :=
      (Regular.mapDriver _ _ _).trans (.count _ _ _)
    cases o with
    | scan => exact h.trans (.enterAbsent _ _)
    | round =>
      dsimp only
      split
      · exact h.trans (.enterAbsent _ _)
      · exact h
  · exact .refl _

theorem Regular.rescanEnd : Regular s s.rescanEnd := by
  unfold State.rescanEnd
  exact Regular.trans (.of_same rfl rfl rfl) (.deviceEvent _ _ _ _)

theorem Regular.rescanOffer : Regular s s.rescanOffer := by
  unfold State.rescanOffer
  split
  · exact .rescanEnd _
  · split
    · exact (Regular.offerPoll _ _ _).trans (.of_same rfl rfl rfl)
    · dsimp only
      split
      · exact .of_same rfl rfl rfl
      · exact Regular.trans (.of_same rfl rfl rfl) (.rescanEnd _)

theorem Regular.rescanStart : Regular s s.rescanStart := by
  unfold State.rescanStart
  exact Regular.trans (.of_same rfl rfl rfl) (.rescanOffer _)

theorem Regular.scanWindowEnded (d : Fin 160) : Regular s (s.scanWindowEnded d) := by
  unfold State.scanWindowEnded
  split
  · exact .of_same rfl rfl rfl
  · split
    · exact Regular.trans (.of_same rfl rfl rfl) (.rescanOffer _)
    · exact .refl _

theorem Regular.pollExpiry : Regular s s.pollExpiry := by
  unfold State.pollExpiry
  split
  · exact .refl _
  · next e _ =>
    refine (Regular.reach s e).trans ?_
    generalize s.reach e = s
    dsimp only
    refine Regular.trans (t := { s with pollTimer := some (s.now + s.device.pollInterval * msTicks) }) (.of_same rfl rfl rfl) ?_
    generalize { s with pollTimer := some (s.now + s.device.pollInterval * msTicks) } = t
    split
    · exact .refl _
    · exact .rescanOffer _
    · split
      · exact .refl _
      · exact (Regular.offerPoll _ _ _).trans (.of_same rfl rfl rfl)

theorem Regular.driversUnknown : Regular s s.driversUnknown := by
  unfold State.driversUnknown
  exact .withDrivers s _

theorem Regular.abandonRescan : Regular s s.abandonRescan := .of_same rfl rfl rfl

end Sys2Proof.Machine
end

