-- ==== Sys2Proof/Laws/Requests.lean ====
section
/-! SUPPORT. A management request from its command to its response: every request row hands its payload to the engine, and a free
engine executes it at once. -/

namespace Sys2Proof.Machine

/-- Every request row hands its payload to the engine and does nothing else (R144, log 4). -/
theorem exec_request {i : Instr} {dt : Nat} {src : Byte} {pl : List Byte} (h : requestOf i = some (dt, src, pl)) (s : State) :
    exec i s = s.request dt src pl := by
  cases i <;> simp only [requestOf, Option.some.injEq, Prod.mk.injEq, reduceCtorEq] at h <;>
    obtain ⟨rfl, rfl, rfl⟩ := h <;> rfl

variable (s : State)

/-- The state in which a free engine executes a request: time has passed and slot 0 holds the request. -/
def State.placing (s : State) (dt : Nat) (src : Byte) (pl : List Byte) : State :=
  (s.elapse dt).occupy .zero ((s.elapse dt).requestFrame src pl)

@[simp] theorem State.placing_slot0 (dt : Nat) (src : Byte) (pl : List Byte) :
    (s.placing dt src pl).slot0 =
      some { request := (s.elapse dt).requestFrame src pl, moment := s.now + dt, number := s.placed, response := none } := rfl
@[simp] theorem State.placing_placed (dt : Nat) (src : Byte) (pl : List Byte) :
    (s.placing dt src pl).placed = s.placed + 1 := rfl
@[simp] theorem State.placing_now (dt : Nat) (src : Byte) (pl : List Byte) : (s.placing dt src pl).now = s.now + dt := rfl
@[simp] theorem State.placing_cQueue (dt : Nat) (src : Byte) (pl : List Byte) : (s.placing dt src pl).cQueue = s.cQueue := rfl
@[simp] theorem State.placing_mode (dt : Nat) (src : Byte) (pl : List Byte) : (s.placing dt src pl).mode = s.mode := rfl
@[simp] theorem State.placing_device (dt : Nat) (src : Byte) (pl : List Byte) : (s.placing dt src pl).device = s.device := rfl
@[simp] theorem State.placing_accept (dt : Nat) (src : Byte) (pl : List Byte) : (s.placing dt src pl).accept = s.accept := rfl
@[simp] theorem State.placing_sensors (dt : Nat) (src : Byte) (pl : List Byte) : (s.placing dt src pl).sensors = s.sensors := rfl
@[simp] theorem State.placing_pulses (dt : Nat) (src : Byte) (pl : List Byte) : (s.placing dt src pl).pulses = s.pulses := rfl
@[simp] theorem State.placing_portals (dt : Nat) (src : Byte) (pl : List Byte) : (s.placing dt src pl).portals = s.portals := rfl
@[simp] theorem State.placing_kTable (dt : Nat) (src : Byte) (pl : List Byte) : (s.placing dt src pl).kTable = s.kTable := rfl
@[simp] theorem State.placing_zones (dt : Nat) (src : Byte) (pl : List Byte) : (s.placing dt src pl).zones = s.zones := rfl
@[simp] theorem State.placing_groups (dt : Nat) (src : Byte) (pl : List Byte) : (s.placing dt src pl).groups = s.groups := rfl
@[simp] theorem State.placing_drivers (dt : Nat) (src : Byte) (pl : List Byte) : (s.placing dt src pl).drivers = s.drivers := rfl
@[simp] theorem State.placing_counters (dt : Nat) (src : Byte) (pl : List Byte) : (s.placing dt src pl).counters = s.counters := rfl
@[simp] theorem State.placing_deviceFlags (dt : Nat) (src : Byte) (pl : List Byte) :
    (s.placing dt src pl).deviceFlags = s.deviceFlags := rfl
@[simp] theorem State.placing_portalFlags (dt : Nat) (src : Byte) (pl : List Byte) :
    (s.placing dt src pl).portalFlags = s.portalFlags := rfl

/-- A free engine places a request in slot 0 and executes it there (R144, R145). -/
theorem request_free (dt : Nat) (src : Byte) (pl : List Byte) (h : s.engineFree) :
    s.request dt src pl
      = .next ((s.placing dt src pl).executeSlot .zero ((s.elapse dt).requestFrame src pl)) := by
  obtain ⟨hl, hr, h0⟩ := h
  have hfree : (s.elapse dt).freeSlot = some .zero := by
    unfold State.freeSlot
    rw [show (s.elapse dt).slot0 = none from h0]
    rfl
  have hr' : (s.elapse dt).restartPending = false := hr
  unfold State.request State.whenLive
  rw [if_pos hl]
  show Host.Outcome.next ((s.elapse dt).handRequest _) = _
  unfold State.handRequest
  rw [hfree]
  dsimp only
  rw [hr', if_neg (by simp)]
  rfl

/-- The reply of an executed request goes to the C queue when that has a place, and the slot is free again (R41, R145). -/
theorem executeSlot_room (f : Frame) (h : (s.runPayload f.src f.payload).state.cQueue.length < 16) :
    s.executeSlot .zero f =
      let x := s.runPayload f.src f.payload
      { x.state with
        slot0 := none,
        cQueue := x.state.cQueue ++
          [{ kind := .response (isRestart f.payload x.reply), frame := x.state.responseFrame f x.reply }] } := by
  unfold State.executeSlot State.offerResponse
  dsimp only
  rw [if_pos h]
  rfl

/-- The response of an executed request waits in its slot while the C queue is full (R41). -/
theorem executeSlot_full (f : Frame) (h : ¬ (s.runPayload f.src f.payload).state.cQueue.length < 16) :
    s.executeSlot .zero f =
      let x := s.runPayload f.src f.payload
      let e : CEntry := { kind := .response (isRestart f.payload x.reply), frame := x.state.responseFrame f x.reply }
      { x.state with slot0 := x.state.slot0.map fun r => { r with response := some e } } := by
  unfold State.executeSlot State.offerResponse
  dsimp only
  rw [if_neg h]
  rfl

/-- A request whose execution leaves the C queue as it was is answered in the queue's free place. -/
theorem request_answered (dt : Nat) (src : Byte) (pl : List Byte) (h : s.engineFree) (hc : s.roomInC)
    (hq : ((s.placing dt src pl).runPayload src pl).state.cQueue = s.cQueue) :
    s.request dt src pl =
      let x := (s.placing dt src pl).runPayload src pl
      let f : Frame := { dest := src, src := x.state.ownAddress, cls := clsMrsp,
                         payload := tagOf pl :: x.reply.result.code :: x.reply.data }
      .next { x.state with
        slot0 := none,
        cQueue := s.cQueue ++ [{ kind := .response (isRestart pl x.reply), frame := f }] } := by
  rw [request_free s dt src pl h,
    executeSlot_room _ ((s.elapse dt).requestFrame src pl) (by
      show ((s.placing dt src pl).runPayload src pl).state.cQueue.length < 16
      rw [hq]; exact hc)]
  have e : ∀ (x : Executed) (c : CEntry), x.state.cQueue = s.cQueue →
      ({ x.state with slot0 := none, cQueue := x.state.cQueue ++ [c] } : State)
        = { x.state with slot0 := none, cQueue := s.cQueue ++ [c] } := by
    intro x c hx
    rw [hx]
  exact congrArg Host.Outcome.next (e _ _ hq)

/-! ### What a request does, by its parts -/

theorem runPayload_error (src : Byte) (pl : List Byte) (r : Result) (h : Request.ofPayload pl = .error r) :
    s.runPayload src pl = s.refuse r := by
  unfold State.runPayload
  rw [h]

theorem runPayload_denied (src : Byte) (pl : List Byte) (q : Request) (h : Request.ofPayload pl = .ok q)
    (hg : s.grants src q = false) : s.runPayload src pl = s.refuse .denied := by
  unfold State.runPayload
  rw [h]
  simp [hg]

theorem runPayload_granted (src : Byte) (pl : List Byte) (q : Request) (h : Request.ofPayload pl = .ok q)
    (hg : s.grants src q = true) : s.runPayload src pl = s.runRequest q := by
  unfold State.runPayload
  rw [h]
  simp [hg]

/-- A value in four bytes, high byte first, joined again (11.1). -/
theorem wordOfBytes_wordBytes (v : Word) :
    wordOfBytes (v.extractLsb' 24 8) (v.extractLsb' 16 8) (v.extractLsb' 8 8) (v.extractLsb' 0 8) = v := by
  unfold wordOfBytes
  ext i hi
  simp only [BitVec.getElem_append, BitVec.getElem_extractLsb']
  rcases Nat.lt_or_ge i 8 with h | h
  · simp [h]; rfl
  · rcases Nat.lt_or_ge i 16 with h2 | h2
    · simp [show ¬ i < 8 by omega, show i - 8 < 8 by omega, show 8 + (i - 8) = i by omega]; rfl
    · rcases Nat.lt_or_ge i 24 with h3 | h3
      · simp [show ¬ i < 8 by omega, show ¬ i - 8 < 8 by omega, show i - 8 - 8 < 8 by omega, show 16 + (i - 8 - 8) = i by omega]
        rfl
      · simp [show ¬ i < 8 by omega, show ¬ i - 8 < 8 by omega, show ¬ i - 8 - 8 < 8 by omega,
          show 24 + (i - 8 - 8 - 8) = i by omega]
        rfl

/-- The request a SET payload carries (Table 11-5). -/
theorem ofPayload_set (tag table row field : Byte) (v : Word) (t : Target) (h : Target.resolve table row field = .ok t) :
    Request.ofPayload (tag :: 2 :: ([table, row, field] ++ wordBytes v)) = .ok (.set t v) := by
  show (Target.resolve table row field).map (fun x => Request.set x
    (wordOfBytes (v.extractLsb' 24 8) (v.extractLsb' 16 8) (v.extractLsb' 8 8) (v.extractLsb' 0 8))) = _
  rw [h, wordOfBytes_wordBytes]
  rfl

/-- An accepted SET writes and reads the value back (R149). -/
theorem runSet_accepted (t : Target) (v : Word) (after : State) (hw : t.writable = true) (ha : s.allowsSet t v.toNat = true)
    (hv : s.write t v = some after) (hl : after.setBreaksLaw t = none) :
    s.runSet t v = { state := after, reply := { result := .ok, data := wordBytes (after.read t) } } := by
  unfold State.runSet
  simp [hw, ha, hv, hl]

end Sys2Proof.Machine
end

