-- ==== Sys2Proof/WellFormed.lean ====
section
/-! DEFINITION. Which commands the line can present: a payload holds at most 12 bytes (R1), and an
UNKNOWN_REQUEST names no request (R146, Table 11-4). -/

namespace Sys2Proof

/-- The payload is empty, holds only a tag, or its request code names no request (R146 (1), (2); Table 11-4). -/
def namesNoRequest (payload : List Byte) : Bool :=
  match payload with
  | _ :: code :: _ => code.toNat == 0 || 13 ≤ code.toNat
  | _ => true

/-- Tag and request code take 2 of the 12 payload bytes, so at most 10 are left for operands (R1, R146). -/
def operandsFit (operands : List Byte) : Bool := operands.length ≤ 10

/-- The well-formed commands. -/
def Instr.wf (i : Instr) : Bool :=
  match i with
  | .get _ ops | .set _ ops | .standby _ ops | .resume _ ops | .force _ ops | .release _ ops
  | .clearFlags _ ops | .readCounter _ ops => operandsFit ops
  | .unknownRequest _ _ payload => payload.length ≤ 12 && namesNoRequest payload
  | .powerOn .. | .powerLoss | .resetAssert | .pinReset .. | .receiveByte .. | .closeExpiry _
  | .freeExpiry _ | .ageTimerExpiry _ | .pulseEdge .. | .gateExpiry _ | .passTimerExpiry _
  | .holdTimerExpiry _ | .rampTimerExpiry _ | .fPick _ | .fSendComplete _ | .replyWindowExpiry
  | .pollTimerExpiry | .cPick _ | .cSendComplete _ | .oneSecondExpiry | .setAcceptField ..
  | .setSensorStructural .. | .setPulseEnable .. | .setPortalStructural .. | .setZoneStructural ..
  | .setZoneRatio .. | .setGroupStructural .. | .setBurnHours .. | .setGroupOwner ..
  | .setDriverStructural .. | .setOwnerAddress .. | .activate _ | .deactivate _ | .rescan _
  | .restart _ => true

end Sys2Proof
end

