-- ==== Sys2Proof/Tests/Slice0.lean ====
section
/-! SUPPORT. Tests: commands the well-formedness check refuses, figures of the manual's own examples, and for every statement a state
and operands that meet its hypotheses, clause by clause. -/

set_option Elab.async false

namespace Sys2Proof.Tests
open Sys2Proof.Machine

/-! ### States the tests start from -/

/-- A request from source 7 with tag 9, one microsecond after the previous command. -/
def head : ReqHead := { dt := 72, src := 7, tag := 9 }

/-- TRANSPARENT with whole tables: portal 0, sensor 0, zone 0 with group 0, driver 0. -/
def tables : State :=
  { State.reset with
    sensors := updAt State.reset.sensors 0 fun r => { r with used := true, state := .wait }
    portals := updAt State.reset.portals 0 fun r => { r with used := true, state := .standby }
    zones := updAt State.reset.zones 0 fun z => { z with used := true, stages := [0] }
    groups := updAt State.reset.groups 0 fun g => { g with used := true }
    drivers := updAt State.reset.drivers 0 fun d => { d with used := true, state := .unknown } }

/-- RUNNING on those tables, with portal 0 in STANDBY. -/
def parked : State := { tables with mode := .running, pollTimer := some 18000000 }

/-- RUNNING with portal 0 in FALLBACK. -/
def running : State :=
  { parked with
    portals := updAt parked.portals 0 fun r =>
      { r with state := .fallback, la := some 20000, lth := some 40000, passTimer := some 144000000, rampTimer := some 36000000 }
    zones := updAt parked.zones 0 fun z => { z with lz := some 40000, dTarget := some 1000 } }

/-- `running` with portal 0 changed. -/
def withPortal (f : Portal → Portal) : State := { running with portals := updAt running.portals 0 f }

/-- `running` with zone 0 changed. -/
def withZone (f : Zone → Zone) : State := { running with zones := updAt running.zones 0 f }

/-- `running` with group 0 changed. -/
def withGroup (f : Group → Group) : State := { running with groups := updAt running.groups 0 f }

/-- `running` with driver 0 changed. -/
def withDriver (f : Driver → Driver) : State := { running with drivers := updAt running.drivers 0 f }

/-- `running` with sensor 0 changed. -/
def withSensor (f : Sensor → Sensor) : State := { running with sensors := updAt running.sensors 0 f }

/-- `running` with pulse input 0 changed. -/
def withPulse (f : PulseInput → PulseInput) : State := { running with pulses := updAt running.pulses 0 f }

/-- A STATUS frame of driver 0 (address 1) to the gateway at 7. -/
def status : Frame := { dest := 7, src := 1, cls := clsStatus, payload := [0, 3, 232] }

/-- A LEVEL frame from 7 to a destination. -/
def levelTo (dest : Byte) : Frame := { dest := dest, src := 7, cls := clsLevel, payload := [2, 88] }

/-- An ALERT that stands in the C queue. -/
def alert : CEntry := { kind := .alert, frame := { dest := 255, src := 184, cls := clsAlert, payload := [16, 1, 0, 0] } }

/-- A response that stands in the C queue. -/
def response (ofRestart : Bool) : CEntry :=
  { kind := .response ofRestart, frame := { dest := 7, src := 184, cls := clsMrsp, payload := [9, 0] } }

/-- `running` with a full F queue of pass-through frames. -/
def fFull : State := { running with fQueue := List.replicate 32 (.passThrough (levelTo 9)) }

/-- `running` with a full C queue of ALERTs. -/
def cFull : State := { running with cQueue := List.replicate 16 alert }

/-- A request that waits in a slot with its response. -/
def waiting (number : Nat) : Slot :=
  { request := { dest := 184, src := 7, cls := clsMreq, payload := [9, 3] }, moment := 0, number := number
    response := some (response false) }

/-- A reply window on driver 0. -/
def window (scope : WindowScope) (origin : Option PollOrigin) : Window :=
  { polled := 1, scope := scope, owner := origin.map fun _ => 0, origin := origin }

/-- `running` with the F-port transmitter awaiting the reply of a window. -/
def awaiting (w : Window) : State := { running with fTx := .awaitReply w 500 }

/-- The next state holds and passes a test. -/
def reaches (o : Host.Outcome State Fault Refusal) (test : State → Bool) : Bool :=
  match o with
  | .next t => test t
  | .fault _ | .refused _ => false

/-- A sample of the line. -/
def sample (luminance : Nat) : Sample := { luminance := luminance, saturated := false, origin := .entry 2 }

/-- A C-port receiver in a state, with its bytes and check register. -/
def receiving (state : RxState) (buffer : List Byte) (check : BitVec 16) (fragment taken : Bool) : State :=
  { running with
    cRx := { state := state, buffer := buffer, check := check, fragment := fragment, counted := false, lostUntil := none,
             gap := .running 0 taken } }

/-! ### Commands the check refuses, and those at its edge -/

theorem test_wf_operands_at_most_ten :
    let ops : List Byte := List.replicate 11 0
    (Instr.get head ops).wf = false ∧ (Instr.set head ops).wf = false ∧ (Instr.standby head ops).wf = false
      ∧ (Instr.resume head ops).wf = false ∧ (Instr.force head ops).wf = false ∧ (Instr.release head ops).wf = false
      ∧ (Instr.clearFlags head ops).wf = false ∧ (Instr.readCounter head ops).wf = false
      ∧ (Instr.set head (List.replicate 10 0)).wf = true := by decide

theorem test_wf_unknown_payload_at_most_twelve :
    (Instr.unknownRequest 0 7 (List.replicate 13 0)).wf = false ∧ (Instr.unknownRequest 0 7 (List.replicate 12 0)).wf = true := by
  decide

theorem test_wf_unknown_names_no_request :
    (Instr.unknownRequest 0 7 [9, 1]).wf = false ∧ (Instr.unknownRequest 0 7 [9, 12]).wf = false
      ∧ (Instr.unknownRequest 0 7 []).wf = true ∧ (Instr.unknownRequest 0 7 [9]).wf = true
      ∧ (Instr.unknownRequest 0 7 [9, 0]).wf = true ∧ (Instr.unknownRequest 0 7 [9, 13]).wf = true := by decide

/-! ### Figures of the manual -/

/-- R2: the check of the nine characters 123456789 is 0x29B1. -/
theorem test_crc_check_value : crc [0x31, 0x32, 0x33, 0x34, 0x35, 0x36, 0x37, 0x38, 0x39] = 0x29B1#16 := by decide +kernel

/-- 4.4: the medians of the examples. -/
theorem test_medians :
    medianOf ([3980, 4100, 4050, 4210, 4120].map sample) = some 4100 ∧ medianOf ([16, 4].map sample) = some 16
      ∧ medianOf [] = none := by decide

/-- 4.9: the three gates of the converter at dusk. -/
theorem test_gate_samples :
    let input : PulseInput := { PulseInput.reset with enable := true, gateLength := 500, scale := 200 }
    ({ input with count := 40, lastEdge := some 987500 }.gateSample 1 500 none).map Sample.luminance = some 16
      ∧ ({ input with count := 10, lastEdge := some 1487500 }.gateSample 1 500 (some 987500)).map Sample.luminance = some 4
      ∧ ({ input with count := 2, lastEdge := some 1587500 }.gateSample 1 500 (some 1487500)).map Sample.luminance = some 4 := by decide

/-- 5.7: the threshold luminance and the five zone targets of a pass, and of the next one. -/
theorem test_pass_targets :
    thresholdOf 4100 500 3000 = 2050 ∧ [1000, 500, 150, 40, 10].map (targetOf 2050 · 3000 60) = [2050, 1025, 308, 82, 60]
      ∧ thresholdOf 18500 500 3000 = 3000 ∧ [1000, 500, 150, 40, 10].map (targetOf 3000 · 3000 60) = [3000, 1500, 450, 120, 60]
      ∧ disagrees 4100 4000 150 = false ∧ disagrees 18500 12000 150 = true := by decide

/-- 6.4: G0 of the example. -/
theorem test_available_output :
    ({ Group.reset with used := true, rated := 900 } : Group).available 880 (List.replicate 8 .ok ++ [.degraded, .failed]) = 673 := by decide

/-- 6.9: switch-on brings in stage 3 and the reserve, and the handover gives 608. -/
theorem test_switch_on_example :
    let sg := fun g : Fin 48 => match g.val with | 0 => 673 | 1 => 792 | 2 => 552 | _ => 392
    let groups := updAll State.reset.groups fun _ g => { g with dmin := 50 }
    let z : Zone := { Zone.reset with stages := [0, 1, 2], reserve := some 3, dCmd := 1000, onStages := #v[true, true, false, false] }
    let y := z.switchOn sg groups true 2050
    y.dCmd = 608 ∧ y.onStages = #v[true, true, true, false] ∧ y.onReserve = true := by decide +kernel

/-- 6.10: the reserve stays on in pass A and goes off in pass B. -/
theorem test_switch_off_example :
    let sg := fun g : Fin 48 => match g.val with | 0 => 673 | 1 => 792 | 2 => 552 | _ => 392
    let z : Zone := { Zone.reset with stages := [0, 1, 2], reserve := some 3, dCmd := 851, onStages := #v[true, true, true, false],
                                      onReserve := true }
    z.switchOff sg 1300 = z ∧ ({ z with dCmd := 831 } : Zone).switchOff sg 1300 = { z with dCmd := 993, onReserve := false } := by
  decide +kernel

/-- 10.4, step 2: a wrapping counter. -/
theorem test_counter_wraps :
    let s := { running with counters := updAt running.counters 4 fun c => { c with select := 6, value := 4294967295 } }
    let t := s.count 6 (unscoped 1)
    t.counters[4].value = 0 ∧ t.counters[4].sticky = true ∧ t.deviceFlags = 16
      ∧ t.cQueue.map (·.frame.payload) = [[5, 4, 0, 6]] := by decide +kernel

/-! ### One step -/

/-- The front of the queue is taken, and the rest stays. -/
theorem test_step_takes_front :
    step { running with pending := [.resetAssert, .powerLoss] }
      = .next { running with resetLow := true, relayDriven := false, pending := [.powerLoss] } := by rfl

/-- 1.6, step 1 as one command: the close expiry of a good LEVEL to a commanded driver counts a good frame and an interception. -/
theorem test_close_expiry_intercepts :
    let f := levelTo 1
    let s := { receiving .closing f.bytes (crc f.body) false false with
      counters := updAt (updAt running.counters 0 fun c => { c with select := 1 }) 2 fun c => { c with select := 5 } }
    reaches (exec (.closeExpiry .c) s) (fun t =>
      t.counters[0].value = 1 ∧ t.counters[2].value = 1 ∧ t.fQueue = [] ∧ t.cRx.state = .unsync) = true := by decide +kernel

/-- R43: the tail of a frame begun as the part sent sets no fragment mark. -/
theorem test_lost_tail_sets_no_mark :
    let s := { running with fRx := { running.fRx with state := .unsync, fragment := false, lostUntil := some 7500 } }
    reaches (exec (.receiveByte 7500 .f 0) s) (fun t => t.fRx.fragment = false) = true
      ∧ reaches (exec (.receiveByte 7501 .f 0) s) (fun t => t.fRx.fragment = true) = true := by decide +kernel

/-- R62 (1): the gate that ends as the age timer runs out makes its sample, and the reference stays cleared. -/
theorem test_gate_and_age_together :
    let s := { withSensor fun r => { r with state := .stale, source := .pulse 0 } with
      pulses := updAt running.pulses 0 fun r => { r with
        enable := true, count := 10, lastEdge := some 1487500, cleared := some { moment := 18000000, reference := some 987500 }
        gate := some { ends := 18000000, length := 250 } } }
    reaches (exec (.gateExpiry 0) s) (fun t =>
      t.sensors[0].state = .valid ∧ t.pulses[0].lastSample.isSome = true ∧ t.pulses[0].reference = none) = true := by decide +kernel

/-- R49: a window running at RESTART charges no one. -/
theorem test_restart_disowns_window :
    let s := { awaiting (window .individual (some .round)) with cTx := .sending (response true) }
    reaches (exec (.cSendComplete 0) s) (fun t => t.fTx = .awaitReply (window .individual none) 500) = true := by decide +kernel

/-- An unknown code is answered UNKNOWN_REQUEST (Table 11-6). -/
theorem test_unknown_request_answered :
    reaches (exec (.unknownRequest 72 7 [9, 13]) running) (· = running.answered head .unknownRequest []) = true := by decide +kernel

/-- ACTIVATE of the tables: RUNNING, FALLBACK with no sensor VALID, and the first SCAN POLL offered. -/
theorem test_activate :
    reaches (exec (.activate head) tables) (fun t =>
      t.mode = .running ∧ t.portals[0].state = .fallback ∧ .poll 0 .scan ∈ t.fQueue
        ∧ t.cQueue.getLast? = some (response false)) = true := by decide +kernel

/-! ### Every statement's hypotheses are met somewhere

`witness_<Name>` shows, clause by clause, states and operands that meet the hypotheses of `Obligations.<Name>`. The statements without
hypotheses need none: StepTakesOldestCommand, MatchTestsMaskedBits, MedianOfHistory, LawsHoldAfterPowerOn, PassThroughAndPollOffers but for the
lengths of the queues. -/

theorem witness_PowerOnValues : State.reset.resetLow = false ∧ State.reset.supply = true := by decide

theorem witness_RelayFollowsSupplyAndReset :
    (State.reset.relayDriven = State.reset.live ∧ step State.reset = .next State.reset)
      ∧ (actsOnSupply (.rescan head) = false ∧ { running with supply := false }.live = false)
      ∧ { running with resetLow := true }.live = false := by
  refine ⟨⟨rfl, rfl⟩, ⟨rfl, rfl⟩, rfl⟩

theorem witness_ByteAtReceiver :
    (let s := { running with fTx := .sending status none };
      s.fDir = true ∧ s.live = true)
      ∧ (running.live = true ∧ running.fDir = false
          ∧ ∀ port ∈ [Port.c, .f], (running.rx port).state = .unsync ∧ (running.rx port).lostUntil = none)
      ∧ (let s := { running with fRx := { running.fRx with lostUntil := some 7500 } };
        s.fDir = false ∧ (s.rx .f).state = .unsync ∧ (s.rx .f).lostUntil = some 7500 ∧ 7500 < s.now + 7501 ∧ s.now + 7500 ≤ 7500)
      ∧ ((receiving .ready [] 0 false true).rx .c).state = .ready
      ∧ ((receiving .assembling [7, 1, 0x2C] 0 false false).rx .c).state = .assembling
      ∧ ((receiving .closing status.bytes 0 false false).rx .c).state = .closing
      ∧ (let s := { receiving .closing status.bytes (crc status.body) false false with pending := [.closeExpiry .c] };
        s.receiversSound ∧ reaches (step s) (fun _ => true) = true) := by
  refine ⟨by decide +kernel, by decide +kernel, by decide +kernel, by decide +kernel, by decide +kernel, by decide +kernel, ⟨?_, rfl⟩,
    by decide +kernel⟩
  exact ⟨⟨status.bytes[2], rfl, by decide +kernel⟩, (by decide +kernel : crc status.body = crc (coveredBytes status.bytes))⟩

theorem witness_CloseExpiryJudges :
    let good := status.bytes
    let broadcast := { status with dest := 0 }.bytes
    (running.live = true ∧ (running.rx .c).gap = .running 0 false ∧ (running.rx .c).state = .unsync)
      ∧ (let r := (receiving .ready [] 0 false false).rx .c;
        r.gap = .running 0 false ∧ r.state = .ready)
      ∧ (let r := (receiving .assembling [7] 0 false false).rx .c;
        r.gap = .running 0 false ∧ r.state = .assembling)
      ∧ (let r := (receiving .closing good 0 false false).rx .c;
        r.gap = .running 0 false ∧ r.state = .closing ∧ r.check ≠ receivedCheck r.buffer)
      ∧ (let r := (receiving .closing broadcast (receivedCheck broadcast) false false).rx .c;
        r.check = receivedCheck r.buffer ∧ (Frame.ofBuffer r.buffer).dest = 0)
      ∧ (let r := (receiving .closing good (receivedCheck good) false false).rx .c;
        r.check = receivedCheck r.buffer ∧ (Frame.ofBuffer r.buffer).dest ≠ 0)
      ∧ ∀ n ∈ [0, 12], { status with payload := List.replicate n 0 }.payload.length ≤ 12 := by decide +kernel

theorem witness_FreeExpiryReadies :
    (let s := receiving .unsync [] 0 false true;
      s.live = true ∧ (s.rx .c).gap = .running 0 true ∧ (s.rx .c).state = .unsync ∧ (s.rx .c).fragment = false)
      ∧ (let r := (receiving .unsync [] 0 true true).rx .c;
        r.gap = .running 0 true ∧ r.state = .unsync ∧ r.fragment = true)
      ∧ (let r := (receiving .ready [] 0 false true).rx .c;
        r.gap = .running 0 true ∧ r.state ≠ .unsync) := by decide +kernel

theorem witness_GoodFrameCountedThenDispatched :
    (∀ w ends, running.fTx = .awaitReply w ends → status.cls = clsStatus → w.scope = .individual → w.polled ≠ status.src)
      ∧ (let w := window .individual (some .round);
        (awaiting w).fTx = .awaitReply w 500 ∧ status.cls = clsStatus ∧ w.scope = .individual ∧ w.polled = status.src
          ∧ w.origin ≠ some .scan)
      ∧ (let w := window .individual (some .scan);
        (awaiting w).fTx = .awaitReply w 500 ∧ w.scope = .individual ∧ w.polled = status.src ∧ w.origin = some .scan
          ∧ w.owner = some 0)
      ∧ { status with dest := 184 }.dest = running.ownAddress := by
  refine ⟨?_, by decide +kernel, by decide +kernel, by decide +kernel⟩
  intro w ends h
  exact absurd h (by simp [running, parked, tables, State.reset, State.powerOn])

/-- An acceptance table whose entry 3 alone fits every frame. -/
def accepting (action : Action) (forward : Bool) : State :=
  { running with
    accept := updAt running.accept 3 fun e => { e with enable := true, action := action, sensor := 1, forward := forward } }

theorem witness_FirstFittingEntryDecides :
    (status.dest ≠ running.ownAddress ∧ ∀ i : Fin 16, running.accept[i].fits .f status = false)
      ∧ ∀ action ∈ [Action.drop, .pass, .sample, .traffic], ∀ forward : Bool,
        let s := accepting action forward
        s.accept[(3 : Fin 16)].fits .f status = true ∧ (∀ j : Fin 16, j < 3 → s.accept[j].fits .f status = false)
          ∧ s.accept[(3 : Fin 16)].action = action := by decide +kernel

theorem witness_TrafficReportSetsClasses :
    (∀ b v t more, ([1, 7, 3] : List Byte) = b :: v :: t :: more → b.toNat ≤ 1 ∧ v.toNat ≤ 7 ∧ t.toNat ≤ 3)
      ∧ (∀ b v t more, ([0, 7, 4] : List Byte) = b :: v :: t :: more → b.toNat ≤ 1 → v.toNat ≤ 7 → ¬ t.toNat ≤ 3)
      ∧ ∀ b v t more, ([0, 7] : List Byte) = b :: v :: t :: more → b.toNat ≤ 1 → v.toNat ≤ 7 → ¬ t.toNat ≤ 3 := by
  refine ⟨?_, ?_, ?_⟩
  · rintro _ _ _ _ ⟨⟩; decide
  · rintro _ _ _ _ ⟨⟩; decide
  · rintro _ _ _ _ ⟨⟩

theorem witness_BuiltInHandlingThenForwarding :
    (running.mode = .running ∧ (levelTo 1).cls = clsLevel ∧ running.drivers[(0 : Fin 160)].used = true
      ∧ running.drivers[(0 : Fin 160)].address = (levelTo 1).dest ∧ running.groups[(0 : Fin 48)].used = true
      ∧ running.groups[(0 : Fin 48)].owner = .part ∧ running.zones[(0 : Fin 32)].used = true
      ∧ (0 : Fin 48) ∈ running.zones[(0 : Fin 32)].standing ∧ running.regulating running.zones[(0 : Fin 32)].portal = true
      ∧ running.groups[(0 : Fin 48)].address = (levelTo 200).dest)
      ∧ tables.mode ≠ .running
      ∧ (status.cls = clsStatus ∧ running.driverAt status.src = some 0 ∧ status.payload = 0 :: 3 :: 232 :: [])
      ∧ running.driverAt 2 = none := by decide +kernel

theorem witness_SnoopUpdatesDriver :
    (running.zones[(0 : Fin 32)].used = true ∧ (0 : Fin 48) ∈ running.zones[(0 : Fin 32)].standing
      ∧ running.drivers[(0 : Fin 160)].group = 0 ∧ running.regulating running.zones[(0 : Fin 32)].portal = true
      ∧ running.slotCount 0 = 1)
      ∧ (∀ z : Fin 32, parked.zones[z].used = true → (0 : Fin 48) ∈ parked.zones[z].standing →
          parked.regulating parked.zones[z].portal = false)
      ∧ (running.portalOfGroup 0 = some 0 ∧ DriverState.degraded ≠ .ok
          ∧ DriverState.degraded ≠ running.drivers[(0 : Fin 160)].state)
      ∧ (∀ x ∈ [DriverState.degraded, .failed, .absent], (withDriver fun d => { d with state := x }).drivers[(0 : Fin 160)].state = x)
      ∧ (withDriver fun d => { d with state := .ok }).drivers[(0 : Fin 160)].state = .ok := by decide +kernel

theorem witness_PassThroughAndPollOffers :
    running.fQueue.length < 32 ∧ fFull.fQueue.length = 32 ∧ running.cQueue.length < 16 ∧ cFull.cQueue.length = 16 := by
  decide +kernel

/-- `running` with one own LEVEL of group 0 in the F queue. -/
def marked : State :=
  { withGroup fun g => { g with pendingMark := true, sent := 700 } with fQueue := [.poll 0 .round, .level 0 700 .autoManual] }

theorem witness_OwnLevelOffer :
    (running.queuesSound ∧ running.groups[(0 : Fin 48)].pendingMark = false ∧ running.fQueue.length < 32)
      ∧ (marked.queuesSound ∧ marked.groups[(0 : Fin 48)].pendingMark = true)
      ∧ fFull.queuesSound ∧ fFull.groups[(0 : Fin 48)].pendingMark = false ∧ fFull.fQueue.length = 32 := by
  unfold State.queuesSound
  decide +kernel

theorem witness_FPickSendsFirst :
    let a : List FEntry := [.poll 0 .round]
    let b : List FEntry := [.poll 0 .scan]
    ∀ e ∈ [FEntry.passThrough status, .level 0 700 .fire, .level 0 0 .autoManual],
      let s := { marked with fQueue := a ++ e :: b, fRx := { running.fRx with state := .ready } }
      s.live = true ∧ s.fTx = .idle ∧ s.fRx.state = .ready ∧ s.fQueue = a ++ e :: b ∧ (∀ x ∈ a, e.priority < x.priority)
        ∧ (∀ x ∈ b, e.priority ≤ x.priority) ∧ ([] ++ FEntry.poll 0 .round :: b) = a ++ b := by
  decide +kernel

theorem witness_FSendCompleteOpensWindow :
    (let s := { running with fTx := .sending status none };
      s.live = true ∧ s.fTx = .sending status none ∧ status.cls ≠ clsPoll)
      ∧ (let f := running.pollFrame 0;
        f.cls = clsPoll ∧ 1 ≤ f.dest.toNat ∧ f.dest.toNat ≤ 199) := by decide +kernel

theorem witness_WindowExpiryChargesMiss :
    (let w := window .individual none;
      (awaiting w).live = true ∧ (awaiting w).fTx = .awaitReply w 500 ∧ w.owner = none)
      ∧ (let w := window .group (some .round);
        w.origin ≠ some .scan ∧ w.scope = .group)
      ∧ (let w := window .individual (some .round);
        let s := awaiting w
        w.owner = some 0 ∧ w.origin = some .round ∧ s.mode = .running ∧ w.scope = .individual
          ∧ s.drivers[(0 : Fin 160)].used = true ∧ s.drivers[(0 : Fin 160)].misses + 1 < s.device.missLimit
          ∧ (let t := { withDriver fun d => { d with misses := 2 } with fTx := .awaitReply w 500 };
            t.drivers[(0 : Fin 160)].used = true ∧ t.device.missLimit ≤ t.drivers[(0 : Fin 160)].misses + 1
              ∧ t.portalOfGroup 0 = some 0 ∧ t.drivers[(0 : Fin 160)].state ≠ .absent)
          ∧ (withDriver fun d => { d with used := false }).drivers[(0 : Fin 160)].used = false)
      ∧ (let w := window .individual (some .scan);
        let s := { awaiting w with rescan := .awaitWindow }
        s.live = true ∧ s.fTx = .awaitReply w 500 ∧ s.mode = .running ∧ w.scope = .individual ∧ w.owner = some 0
          ∧ w.origin = some .scan ∧ s.drivers[(0 : Fin 160)].used = true ∧ s.scanOrphan = false ∧ s.rescan = .awaitWindow
          ∧ (∀ n : Fin 160, 0 < n → s.drivers[n].used = false)
          ∧ (let t := { s with drivers := updAt s.drivers 5 fun d => { d with used := true } };
            t.drivers[(5 : Fin 160)].used = true ∧ (∀ m : Fin 160, 0 < m → m < 5 → t.drivers[m].used = false)
              ∧ t.fQueue.length < 32)
          ∧ (withDriver fun d => { d with used := false }).drivers[(0 : Fin 160)].used = false)
      ∧ (let w := window .individual (some .scan);
        let s := { awaiting w with mode := .transparent, scanOrphan := true }
        s.fTx = .awaitReply w 500 ∧ w.owner = some 0 ∧ w.origin = some .scan ∧ s.mode = .transparent ∧ s.rescan = .none)
      ∧ { awaiting (window .individual (some .scan)) with scanOrphan := true }.scanOrphan ≠ false := by decide +kernel

theorem witness_PollTimerOffersRound :
    (running.live = true ∧ running.pollTimer = some 18000000 ∧ running.rescan = .none)
      ∧ (∀ r ∈ [Rescan.awaitWindow, .awaitTimer], { running with rescan := r }.rescan = r)
      ∧ (∀ d : Fin 160, { running with drivers := State.reset.drivers }.drivers[d].used = false)
      ∧ (running.drivers[(0 : Fin 160)].used = true ∧ running.cursor ≤ 0
          ∧ ∀ m : Fin 160, running.cursor ≤ m → m < 0 → running.drivers[m].used = false)
      ∧ (let s := { running with cursor := 159 };
        (∀ m : Fin 160, s.cursor ≤ m → s.drivers[m].used = false) ∧ ∀ m : Fin 160, m < 0 → s.drivers[m].used = false) := by
  decide +kernel

theorem witness_CPortSends :
    (let s := { running with cTx := .sending alert };
      s.live = true ∧ s.cTx = .sending alert ∧ alert.kind ≠ .response true)
      ∧ (let s := { running with cTx := .idle 0, cQueue := [alert] ++ response false :: [alert] };
        s.live = true ∧ s.cTx = .idle 0 ∧ 0 ≤ s.now + 72 ∧ s.cQueue = [alert] ++ response false :: [alert]
          ∧ (∀ x ∈ [alert], (response false).priority < x.priority) ∧ (∀ x ∈ [alert], (response false).priority ≤ x.priority)
          ∧ s.slot0.bind (·.response) = none ∧ s.slot1.bind (·.response) = none
          ∧ (let t := { s with slot0 := some (waiting 4), slot1 := some (waiting 5) };
            t.slot0 = some (waiting 4) ∧ t.slot1 = some (waiting 5) ∧ (waiting 4).response = some (response false)
              ∧ (waiting 4).number < (waiting 5).number)) := by decide +kernel

theorem witness_RestartTakesEffect :
    let s := { running with cTx := .sending (response true) }
    s.live = true ∧ s.cTx = .sending (response true) ∧ (response true).kind = .response true := by decide +kernel

theorem witness_OneSecondAccounts : running.live = true := by decide

theorem witness_FlagLatchesAndAlerts :
    (running.device.deviceAlert = true ∧ running.cQueue.length < 16 ∧ (∀ p : Fin 4, running.device.portalAlert[p] = true))
      ∧ (let d : Device := { running.device with deviceAlert := false, portalAlert := Vector.replicate 4 false };
        d.deviceAlert = false ∧ ∀ p : Fin 4, d.portalAlert[p] = false)
      ∧ (cFull.device.deviceAlert = true ∧ cFull.cQueue.length = 16
          ∧ ∀ c : Fin 8, cFull.counters[c].select = 11 → cFull.counters[c].value ≠ -1)
      ∧ ∀ enable : Bool,
        let s := { cFull with device := { cFull.device with deviceAlert := enable }
                              counters := updAt (updAt cFull.counters 2 fun c => { c with select := 11, value := -1 }) 5 fun c =>
                                { c with select := 11, value := 4294967293 } }
        s.device.deviceAlert = enable ∧ s.device.portalAlert[(0 : Fin 4)] = true ∧ s.cQueue.length = 16
          ∧ s.counters[(2 : Fin 8)].select = 11 ∧ s.counters[(2 : Fin 8)].value = -1
          ∧ ∀ c : Fin 8, c ≠ 2 → s.counters[c].select = 11 → s.counters[c].value.toNat + 2 ≤ 4294967295 := by decide +kernel

theorem witness_CountingAddsAndWraps :
    let s := { running with counters := updAt running.counters 4 fun c => { c with select := 6, value := 4294967295 } }
    (6 : Fin 16) ≠ 11 ∧ (∀ scope, unscoped 1 scope < 4294967296) ∧ s.counters[(4 : Fin 8)].select = 6
      ∧ 4294967295 < s.counters[(4 : Fin 8)].value.toNat + 1
      ∧ (s.counters[(0 : Fin 8)].select ≠ 6 ∧ s.counters[(0 : Fin 8)].select ≠ 11)
      ∧ (∀ i : Fin 8, running.counters[i].select = 6 → running.counters[i].value.toNat + 1 ≤ 4294967295)
      ∧ (∀ j : Fin 8, j ≠ 4 → s.counters[j].select = 6 → s.counters[j].value.toNat + 1 ≤ 4294967295)
      ∧ (s.device.deviceAlert = true ∧ s.cQueue.length < 16 ∧ cFull.cQueue.length = 16)
      ∧ (∀ j : Fin 8, s.counters[j].select = 11 → s.counters[j].value ≠ -1)
      ∧ { s.device with deviceAlert := false }.deviceAlert = false := by
  refine ⟨by decide, fun _ => (by decide : 1 < 4294967296), ?_⟩
  decide +kernel

theorem witness_LineCandidateJudged :
    (running.sensors[(1 : Fin 8)].used = false
        ∧ (withSensor fun r => { r with source := .pulse 0 }).sensors[(0 : Fin 8)].source ≠ .line)
      ∧ (running.sensors[(0 : Fin 8)].used = true ∧ running.sensors[(0 : Fin 8)].source = .line
          ∧ ([21, 78, 32] : List Byte).length < 4 ∧ ([21, 78, 32, 1] : List Byte)[3]? ≠ some 0)
      ∧ ([21, 78, 33, 0] : List Byte) = 21 :: 78 :: 33 :: 0 :: [] := by decide +kernel

theorem witness_GoodSampleTaken :
    (∀ x ∈ [SensorState.wait, .stale], (withSensor fun r => { r with state := x }).sensors[(0 : Fin 8)].state = x)
      ∧ (∀ n ∈ [4, 5], let r := (withSensor fun r => { r with state := .valid, history := List.replicate n (sample 9) }).sensors[(0 : Fin 8)]
          r.state = .valid ∧ r.history.length = n)
      ∧ (∀ n ∈ [1, 2], let r := (withSensor fun r => { r with state := .fault, rejects := 3, good := n }).sensors[(0 : Fin 8)]
          r.state = .fault ∧ r.good = n) := by decide +kernel

theorem witness_RejectedSampleTaken :
    (∀ x ∈ [SensorState.wait, .valid, .stale], ∀ n ∈ [1, 2],
        let r := (withSensor fun r => { r with state := x, rejects := n }).sensors[(0 : Fin 8)]
        r.state = x ∧ r.rejects = n)
      ∧ (running.portals[(0 : Fin 4)].used = true ∧ running.portals[(0 : Fin 4)].mainSensor = 0
          ∧ running.counters[(0 : Fin 8)].select ≠ 11)
      ∧ (withSensor fun r => { r with state := .fault, rejects := 3 }).sensors[(0 : Fin 8)].state = .fault := by decide +kernel

theorem witness_AgeTimerMakesStale :
    let s := withSensor fun r => { r with state := .valid, history := [sample 9], ageTimer := some 720 }
    let t := withSensor fun r => { r with state := .valid, history := [sample 9], ageTimer := some 720, source := .pulse 3 }
    (s.live = true ∧ s.sensors[(0 : Fin 8)].ageTimer = some 720 ∧ s.sensors[(0 : Fin 8)].source = .line)
      ∧ (t.sensors[(0 : Fin 8)].ageTimer = some 720 ∧ t.sensors[(0 : Fin 8)].source = .pulse 3 ∧ t.pulses[(3 : Fin 4)].cleared = none)
      ∧ ∀ m ∈ [0, 720],
        let c : ClearedReference := { moment := m, reference := some 9 }
        { t.pulses[(3 : Fin 4)] with cleared := some c }.cleared = some c ∧ (c.moment = max t.now 720 ↔ m = 720) := by decide +kernel

/-- `running` with pulse input 0 enabled at a count, its gate ending at 18,000,000. -/
def pulsing (count : Nat) (last reference : Option (BitVec 48)) : State :=
  withPulse fun r =>
    { r with enable := true, count := count, lastEdge := last, reference := reference, gate := some { ends := 18000000, length := 250 } }

theorem witness_PulseInputCountsAndSamples :
    ((pulsing 0 none none).live = true ∧ (pulsing 0 none none).pulses[(0 : Fin 4)].enable = true
      ∧ (pulsing 0 none none).pulses[(0 : Fin 4)].lastTaken = none)
      ∧ running.pulses[(0 : Fin 4)].enable = false
      ∧ (let s := withPulse fun r => { r with enable := true, lastTaken := some 0 };
        s.pulses[(0 : Fin 4)].lastTaken = some 0 ∧ s.now + 1007 < 0 + 14 * usTicks ∧ 0 + 14 * usTicks ≤ s.now + 1008)
      ∧ (pulsing 16 (some 900) none).pulses[(0 : Fin 4)].gate = some { ends := 18000000, length := 250 }
      ∧ (∀ n ∈ [16, 65535], 16 ≤ (pulsing n (some 900) none).pulses[(0 : Fin 4)].count)
      ∧ (∀ n ∈ [1, 15], let r := (pulsing n (some 900) (some 100)).pulses[(0 : Fin 4)]
          1 ≤ r.count ∧ r.count < 16 ∧ r.lastEdge = some 900 ∧ r.reference = some 100 ∧ (900#48 - 100#48).toNat ≠ 0)
      ∧ (pulsing 0 (some 900) (some 100)).pulses[(0 : Fin 4)].count = 0
      ∧ (let r := (pulsing 15 (some 900) none).pulses[(0 : Fin 4)];
        r.reference = none ∧ r.cleared = none)
      ∧ (let c : ClearedReference := { moment := 18000000, reference := some 100 }
        { (pulsing 15 (some 900) none).pulses[(0 : Fin 4)] with cleared := some c }.cleared = some c
          ∧ c.moment = max running.now 18000000 ∧ { c with reference := none }.reference = none) := by decide +kernel

/-- `running` with portal 0 on sensors 0 and 1, each VALID with the given median or without history, the portal changed by `f`. -/
def watching (main reserve : Option Nat) (f : Portal → Portal) : State :=
  let sensor := fun (r : Sensor) (x : Option Nat) =>
    match x with
    | none => { r with used := true, state := .wait, history := [], ageTimer := none }
    | some l => { r with used := true, state := .valid, history := [sample l], ageTimer := some 720000000 }
  { withPortal fun r => f { r with reserveSensor := some 1 } with
    sensors := updAt (updAt running.sensors 0 fun r => sensor r main) 1 fun r => sensor r reserve }

/-- TRACKING on a last good value. -/
def inTracking (r : Portal) : Portal := { r with state := .tracking, lastGoodLa := some 4100 }

/-- HOLD on a last good value. -/
def inHold (r : Portal) : Portal := { r with state := .hold, lastGoodLa := some 4100, holdTimer := some 144000000 }

/-- `Portal.sound`, as a test. -/
def portalCheck (r : Portal) : Bool :=
  decide (r.state = .unused ↔ r.used = false) && decide (r.passTimer.isSome = r.state.regulating)
    && decide (r.rampTimer.isSome = r.state.regulating) && decide (r.holdTimer.isSome = true ↔ r.state = .hold)
    && decide (r.state = .tracking ∨ r.state = .hold → r.lastGoodLa.isSome = true)
    && decide (r.override.isSome = true → r.state.regulating = true)

theorem portal_sound_of_check {r : Portal} (h : portalCheck r = true) : r.sound := by
  simp only [portalCheck, Bool.and_eq_true, decide_eq_true_eq] at h
  exact ⟨h.1.1.1.1.1, h.1.1.1.1.2, h.1.1.1.2, h.1.1.2, h.1.2, h.2⟩

/-- A RUNNING part is sound in regulation where its portals are and its poll timer runs. -/
theorem regulation_sound {s : State} (hm : s.mode = .running) (ht : s.pollTimer.isSome = true)
    (hp : ∀ p : Fin 4, portalCheck s.portals[p] = true) : s.regulationSound :=
  ⟨fun p => portal_sound_of_check (hp p), fun h => absurd (hm.symm.trans h) (by decide), fun _ => ht⟩

theorem witness_PassTakesLuminance :
    (31 = (0 : Fin 4).val * 32 + running.portals[(0 : Fin 4)].speed.val * 4 + running.portals[(0 : Fin 4)].traffic.val)
      ∧ (∀ x ∈ [(some 18500, some 12000), (some 4100, some 4000), (some 4100, none), (none, some 4000), (none, none)],
          let s := watching x.1 x.2 inTracking
          s.regulationSound ∧ s.live = true ∧ s.portals[(0 : Fin 4)].passTimer = some 144000000
            ∧ s.validMedian s.portals[(0 : Fin 4)].mainSensor = x.1
            ∧ s.portals[(0 : Fin 4)].reserveSensor.bind s.validMedian = x.2
            ∧ s.portals[(0 : Fin 4)].state = .tracking ∧ 1 ≤ s.portals[(0 : Fin 4)].holdTime
            ∧ s.portals[(0 : Fin 4)].lastGoodLa = some 4100)
      ∧ ((watching (some 4100) none inTracking).sensors[(0 : Fin 8)].state = .valid ∧ running.sensors[(0 : Fin 8)].state ≠ .valid)
      ∧ (let s := watching none none fun r => { inTracking r with holdTime := 0 };
        s.regulationSound ∧ s.portals[(0 : Fin 4)].state = .tracking ∧ s.portals[(0 : Fin 4)].holdTime = 0
          ∧ s.portals[(0 : Fin 4)].lastGoodLa = some 4100)
      ∧ (let s := watching none none inHold;
        s.regulationSound ∧ s.portals[(0 : Fin 4)].state = .hold ∧ s.portals[(0 : Fin 4)].lastGoodLa = some 4100)
      ∧ (let s := watching none none id;
        s.regulationSound ∧ s.portals[(0 : Fin 4)].state = .fallback) := by
  refine ⟨by decide +kernel, fun x hx => ⟨?_, ?_⟩, by decide +kernel, ⟨?_, by decide +kernel⟩, ⟨?_, by decide +kernel⟩, ?_, by decide +kernel⟩
  · exact regulation_sound rfl rfl (by revert x; decide +kernel)
  · revert x; decide +kernel
  · exact regulation_sound rfl rfl (by decide +kernel)
  · exact regulation_sound rfl rfl (by decide +kernel)
  · exact regulation_sound rfl rfl (by decide +kernel)

theorem witness_HoldExpiryEndsHold :
    ∀ x ∈ [(some 18500, some 12000), (some 4100, none), (none, some 4000), (none, none)],
      let s := watching x.1 x.2 inHold
      s.regulationSound ∧ s.live = true ∧ s.portals[(0 : Fin 4)].holdTimer = some 144000000
        ∧ s.validMedian s.portals[(0 : Fin 4)].mainSensor = x.1
        ∧ s.portals[(0 : Fin 4)].reserveSensor.bind s.validMedian = x.2 := by
  intro x hx
  refine ⟨regulation_sound rfl rfl ?_, ?_⟩
  · revert x; decide +kernel
  · revert x; decide +kernel

/-- The configuration of `running` is within the ranges of the tables. -/
theorem running_configSound : running.configSound := by
  unfold State.configSound Portal.configSound within
  decide +kernel

theorem tables_configSound : tables.configSound := by
  unfold State.configSound Portal.configSound within
  decide +kernel

theorem parked_configSound : parked.configSound := by
  unfold State.configSound Portal.configSound within
  decide +kernel

theorem tables_queuesSound : tables.queuesSound := by
  unfold State.queuesSound
  decide +kernel

theorem parked_queuesSound : parked.queuesSound := by
  unfold State.queuesSound
  decide +kernel

/-- `running` whose zone 0 is in deficit and asks for the interior luminance alone. -/
def recovering : State :=
  withZone fun z => { z with ratio := 0, deficit := true, deficitAmount := 7, onStages := #v[true, false, false, false] }

theorem recovering_configSound : recovering.configSound := by
  unfold State.configSound Portal.configSound within
  decide +kernel

theorem witness_PassSelectsStages :
    (running.live = true ∧ running.configSound ∧ running.portals[(0 : Fin 4)].passTimer = some 144000000
      ∧ running.zones[(0 : Fin 32)].used = true ∧ running.zones[(0 : Fin 32)].portal = 0
      ∧ running.zones[(0 : Fin 32)].override = none)
      ∧ (withZone fun z => { z with override := some { kind := .fire, level := 0, scope := .zone } }).zones[(0 : Fin 32)].override
          ≠ none
      ∧ (running.queuesSound ∧ (Place.stage 0, (0 : Fin 48)) ∈ running.zones[(0 : Fin 32)].places ∧ running.slotCount 0 = 1)
      ∧ reaches (exec (.passTimerExpiry 0) running) (fun t => t.zones[0].deficit && !running.zones[0].deficit) = true
      ∧ recovering.configSound
      ∧ reaches (exec (.passTimerExpiry 0) recovering) (fun t =>
          recovering.zones[0].deficit && !t.zones[0].deficit && recovering.zones[0].isOn (.stage 0)) = true :=
  ⟨⟨by decide, running_configSound, by decide +kernel⟩, by decide +kernel, ⟨witness_OwnLevelOffer.1.1, by decide +kernel⟩,
    by decide +kernel, recovering_configSound, by decide +kernel⟩

theorem witness_AvailableOutput : Group.reset.owner = .part ∧ [DriverState.degraded] ≠ [] ∧ { Group.reset with owner := .line }.owner = .line := by
  decide

/-- A zone of two stages, the first on. -/
def staged : Zone :=
  { Zone.reset with used := true, stages := [0, 1], onStages := #v[true, false, false, false], dCmd := 1000, dTarget := some 1000 }

theorem witness_SwitchOnHandover :
    let y := staged.switchOn (fun _ => 600) State.reset.groups false 1000
    let z : Zone := { staged with onStages := Vector.replicate 4 false }
    y.sameOnSet staged = false ∧ staged.sOn (fun _ => 600) ≠ 0
      ∧ (z.switchOn (fun _ => 600) State.reset.groups false 1000).sameOnSet z = false ∧ z.sOn (fun _ => 600) = 0
      ∧ (staged.switchOn (fun _ => 600) State.reset.groups false 600).sameOnSet staged = true
      ∧ (staged.isOn (.stage 0) = true ∧ State.reset.groups[(0 : Fin 48)].owner = .part ∧ staged.stages[(0 : Fin 4).val]? = some 0)
      ∧ ∀ q ∈ [Place.stage 0, .stage 3, .reserve], Zone.reset.isOn q = false := by decide +kernel

theorem witness_SwitchOffHandover :
    let z : Zone := { staged with onStages := #v[true, true, false, false], dCmd := 500 }
    Zone.reset.offCandidate = none ∧ z.offCandidate = some (.stage 1) ∧ z.isOn (.stage 1) = true
      ∧ (let without := (z.setOn (.stage 1) false).sOn fun _ => 600;
        539 < without * (1000 - z.hysteresis) / 1000 ∧ ¬ 540 < without * (1000 - z.hysteresis) / 1000
          ∧ ceilDiv (z.dCmd * z.sOn fun _ => 600) without = 1000)
      ∧ (let y : Zone := { z with reserve := some 3, onReserve := true };
        y.reserve.isSome = true ∧ y.isOn .reserve = true)
      ∧ (1 < z.stages.length ∧ z.onStages[(1 : Fin 4)] = true ∧ ∀ m : Fin 4, 1 < m → ¬ (m.val < z.stages.length ∧ z.onStages[m] = true))
      ∧ ∀ n : Fin 4, 1 ≤ n.val → ¬ (n.val < staged.stages.length ∧ staged.onStages[n] = true) := by decide +kernel

theorem witness_RampStepsZones :
    running.live = true ∧ running.configSound ∧ running.portals[(0 : Fin 4)].rampTimer = some 36000000
      ∧ running.zones[(0 : Fin 32)].used = true ∧ running.zones[(0 : Fin 32)].portal = 0
      ∧ running.zones[(0 : Fin 32)].dTarget = some 1000 ∧ running.zones[(0 : Fin 32)].override = none
      ∧ running.zones[(31 : Fin 32)].used = false
      ∧ running.zones[(0 : Fin 32)].dCmd + running.portals[(0 : Fin 4)].riseStep < 1000 :=
  ⟨by decide, running_configSound, by decide +kernel⟩

theorem witness_RampOffersLevels :
    (let s := { marked with groups := updAt marked.groups 0 fun g => { g with owner := .line }, pending := [.rampTimerExpiry 0] };
      s.groups[(0 : Fin 48)].owner = .line ∧ reaches (step s) (fun t => .level 0 700 .autoManual ∈ t.fQueue) = true)
      ∧ running.live = true ∧ running.configSound ∧ running.queuesSound ∧ running.portals[(0 : Fin 4)].rampTimer = some 36000000
      ∧ running.zones[(0 : Fin 32)].used = true ∧ running.zones[(0 : Fin 32)].portal = 0
      ∧ (Place.stage 0, (0 : Fin 48)) ∈ running.zones[(0 : Fin 32)].places ∧ running.slotCount 0 = 1
      ∧ running.groups[(0 : Fin 48)].owner = .part ∧ running.zones[(0 : Fin 32)].dTarget.isSome = true :=
  ⟨by decide +kernel, by decide, running_configSound, witness_OwnLevelOffer.1.1, by decide +kernel⟩

/-! A request of `head` to `running`, `tables` or `parked` is executed at once, from a source that holds both rights. -/

theorem witness_requests :
    ∀ s ∈ [running, tables, parked],
      s.engineFree ∧ s.roomInC ∧ s.holdsControl head.src = true ∧ s.holdsMaintenance head.src = true := by
  unfold State.engineFree State.roomInC
  decide +kernel

theorem witness_GetAnswersValue :
    Target.resolve 4 3 25 = .ok (.portal 3 .override)
      ∧ (let p := tables.portals[(0 : Fin 4)];
        p.la = none ∧ p.lastGoodLa = none ∧ p.lth = none ∧ p.holdTimer = none)
      ∧ (let i := tables.sensors[(0 : Fin 8)];
        i.history = [] ∧ i.ageTimer = none ∧ i.history.length ≤ (0 : Fin 5).val)
      ∧ (let z := tables.zones[(0 : Fin 32)];
        z.lz = none ∧ z.dTarget = none)
      ∧ (let g := tables.groups[(0 : Fin 48)];
        g.mf = none ∧ g.sg = none)
      ∧ (let s := withPortal inHold;
        s.portals[(0 : Fin 4)].holdTimer = some 144000000 ∧ (144000000 - (s.now + 71)) % msTicks ≠ 0) :=
  ⟨rfl, by decide +kernel⟩

theorem witness_ParameterSets :
    ((2000 : Word).toNat ≤ 2000 ∧ (1 : Word).toNat ≤ 1 ∧ (1000 : Word).toNat ≤ 1000 ∧ (500000 : Word).toNat ≤ 500000
      ∧ (255 : Word).toNat ≤ 255 ∧ tables.mode = .transparent)
      ∧ ((6 : Byte) = 6 ∧ (1 : Word) = if true then 1 else 0)
      ∧ (running.zones[(0 : Fin 32)].used = true ∧ running.regulating running.zones[(0 : Fin 32)].portal = true
          ∧ ¬ ∃ j : Fin 32, running.zones[j].used = true ∧ running.zones[j].position = 2)
      ∧ (let s := { running with zones := updAt running.zones 1 fun _ => { running.zones[0] with position := 2, ratio := 600 } };
        s.zones[(1 : Fin 32)].used = true ∧ s.zones[(1 : Fin 32)].portal = s.zones[(0 : Fin 32)].portal
          ∧ s.zones[(1 : Fin 32)].position = s.zones[(0 : Fin 32)].position + 1 ∧ ¬ s.zones[(1 : Fin 32)].ratio ≤ (599 : Word).toNat
          ∧ s.zones[(1 : Fin 32)].ratio ≤ (600 : Word).toNat)
      ∧ (running.regulating 0 = true ∧ running.portals[(0 : Fin 4)].interior ≤ 50 ∧ 500 ≤ running.portals[(0 : Fin 4)].ceiling
          ∧ tables.regulating 0 = false)
      ∧ (tables.groups[(0 : Fin 48)].owner = .part ∧ ∀ z : Fin 32, tables.regulating tables.zones[z].portal = false)
      ∧ ∀ i : Fin 8, (if i.val < 4 then running.holdsControl head.src else running.holdsMaintenance head.src) = true := by
  decide +kernel

theorem witness_StructuralSets :
    tables.mode = .transparent
      ∧ (∀ p ∈ parked.concerned (.sensor 0 .source) 4, parked.regulating p = false)
      ∧ { parked with sensors := updAt parked.sensors 0 fun r => { r with source := .pulse 3 } }.lawBroken = none
      ∧ (4 : Word) = BitVec.ofNat 32 (Source.pulse 3).code
      ∧ wordBytes 0x2F00FFFF#32 = [47, 0].map (fun n => BitVec.ofNat 8 n) ++ List.replicate (4 - 2) 255
      ∧ (200 ≤ (200 : Word).toNat ∧ (254 : Word).toNat ≤ 254 ∧ 1 ≤ (1 : Word).toNat ∧ (183 : Word).toNat ≤ 183
        ∧ (8 : Word).toNat ≤ 8) := by decide +kernel

theorem witness_SetRefusals :
    (Target.resolve 4 0 17 = .ok (.portal 0 .state) ∧ running.grants head.src (.set (.portal 0 .state) 0) = true
      ∧ (Target.portal 0 .state).writable = false)
      ∧ (Target.resolve 4 0 0 = .ok (.portal 0 .used) ∧ (Target.portal 0 .used).writable = true
          ∧ running.mode ≠ .transparent ∧ (Target.portal 0 .used).restriction = .structural
          ∧ 0 ∈ running.concerned (.portal 0 .used) 0 ∧ running.regulating 0 = true)
      ∧ (Target.resolve 0 0 5 = .ok (.device .controlOwner) ∧ (Target.device .controlOwner).restriction = .owner)
      ∧ ((tables.elapse 72).write (.portal 0 .used) 2).isNone = true
      ∧ (parked.mode = .running ∧ (Target.group 0 .used).restriction = .structural
          ∧ (∀ p ∈ parked.concerned (.group 0 .used) 1, parked.regulating p = false)
          ∧ (((parked.elapse 72).write (.group 1 .used) 1).bind (·.lawBroken)) = some { check := 6, row := 1 }) := by
  refine ⟨⟨rfl, by decide +kernel⟩, ⟨rfl, by decide +kernel⟩, ⟨rfl, rfl⟩, by decide +kernel⟩

theorem witness_MalformedRequests :
    (13 ≤ (13 : Byte).toNat ∧ ([4, 0] : List Byte).length < 3 ∧ ([4, 0, 0, 0, 0, 0] : List Byte).length < 7
      ∧ ([0, 0, 1, 2] : List Byte).length < 5 ∧ ([0] : List Byte).length < 2)
      ∧ (11 ≤ (11 : Byte).toNat ∧ [1, 16, 8, 4, 4, 128, 32, 48, 160, 8, 5][(10 : Byte).toNat]? = some 5 ∧ 5 ≤ (5 : Byte).toNat
          ∧ (4 : Byte).toNat < 5)
      ∧ (requestOf (.get head [1, 15, 8]) = some (72, 7, [9, 1, 1, 15, 8])
          ∧ requestOf (.setAcceptField head 16 0 1) = some (72, 7, [9, 2, 1, 16, 0, 0, 0, 0, 1]) ∧ 4 ≤ ([0, 0, 0, 1] : List Byte).length)
      ∧ ([19, 8, 16, 9, 26, 1, 15, 17, 7, 4][(1 : Byte).toNat]? = some 8 ∧ 8 ≤ (8 : Byte).toNat ∧ 9 ≤ (9 : Byte).toNat)
      ∧ 4 ≤ (4 : Byte).toNat ∧ 2 ≤ (2 : Byte).toNat ∧ 32 ≤ (32 : Byte).toNat ∧ 5 ≤ (5 : Byte).toNat ∧ 8 ≤ (8 : Byte).toNat := by
  decide

theorem witness_DeniedRequests :
    let s := { running with device := { running.device with controlOwner := 3, maintenanceOwner := 4 } }
    (s.engineFree ∧ s.roomInC) ∧ requestOf (.rescan head) = some (72, 7, 9 :: [9]) ∧ Request.ofPayload (9 :: [9]) = .ok .rescan
      ∧ s.grants 7 .rescan = false := by
  unfold State.engineFree State.roomInC
  exact ⟨by decide +kernel, rfl, rfl, rfl⟩

theorem witness_ActivateStartsRegulation :
    (tables.configSound ∧ tables.queuesSound)
      ∧ running.mode = .running ∧ tables.mode = .transparent ∧ tables.consistency none = none
      ∧ State.reset.mode = .transparent ∧ State.reset.consistency none = some { check := 1, row := 255 }
      ∧ (tables.portals[(0 : Fin 4)].used = true ∧ tables.portals[(3 : Fin 4)].used = false)
      ∧ tables.zones[(0 : Fin 32)].used = true ∧ tables.groups[(0 : Fin 48)].owner = .part
      ∧ { tables.groups[(0 : Fin 48)] with owner := .line }.owner = .line
      ∧ tables.drivers[(0 : Fin 160)].used = true ∧ (∀ m : Fin 160, m < 0 → tables.drivers[m].used = false)
      ∧ ∀ d : Fin 160, { tables with drivers := State.reset.drivers }.drivers[d].used = false :=
  ⟨⟨tables_configSound, tables_queuesSound⟩, by decide +kernel⟩

theorem witness_ConsistencyCheckMeaning : running.configSound ∧ running.portals[(0 : Fin 4)].used = true :=
  ⟨running_configSound, by decide +kernel⟩

theorem witness_DeactivateStopsRegulation : running.queuesSound ∧ tables.mode = .transparent ∧ running.mode = .running :=
  ⟨witness_OwnLevelOffer.1.1, by decide⟩

theorem witness_StandbyStopsPortal :
    tables.mode = .transparent ∧ parked.portals[(3 : Fin 4)].used = false
      ∧ (parked.mode = .running ∧ parked.portals[(0 : Fin 4)].used = true ∧ parked.portals[(0 : Fin 4)].state.regulating = false)
      ∧ running.mode = .running ∧ running.portals[(0 : Fin 4)].used = true
      ∧ running.portals[(0 : Fin 4)].state.regulating = true := by decide +kernel

theorem witness_ResumeStartsPortal :
    (parked.configSound ∧ parked.queuesSound) ∧
    let ready := fun s : State =>
      s.mode = .running ∧ s.portals[(0 : Fin 4)].used = true ∧ s.portals[(0 : Fin 4)].state.regulating = false
    ¬ ready running ∧ (ready parked ∧ parked.consistency (some 0) = none)
      ∧ (let s := { parked with sensors := State.reset.sensors };
        ready s ∧ s.consistency (some 0) = some { check := 2, row := 0 })
      ∧ parked.zones[(0 : Fin 32)].used = true ∧ parked.zones[(0 : Fin 32)].portal = 0 ∧ parked.groups[(0 : Fin 48)].owner = .part :=
  ⟨⟨parked_configSound, parked_queuesSound⟩, by decide +kernel⟩

theorem witness_ForceOverrides :
    (running.configSound ∧ running.queuesSound)
      ∧ (running.mode = .running ∧ running.zones[(0 : Fin 32)].used = true
          ∧ running.regulating running.zones[(0 : Fin 32)].portal = true ∧ running.zones[(0 : Fin 32)].portal = 0)
      ∧ running.zones[(31 : Fin 32)].used = false ∧ running.regulating 3 = false ∧ (0 : Byte) ≠ 1 ∧ (3 : Byte) ≠ 2
      ∧ (Place.stage 0, (0 : Fin 48)) ∈ running.zones[(0 : Fin 32)].places ∧ running.slotCount 0 = 1
      ∧ running.groups[(0 : Fin 48)].owner = .part
      ∧ ((1 : Fin 48) ∉ running.zones[(0 : Fin 32)].standing
          ∧ ∀ z : Fin 32, running.zones[z].used = true → (1 : Fin 48) ∉ running.zones[z].standing)
      ∧ reaches (exec (.force head [0, 0, 1, 2, 88]) running) (fun t => t.groups[0].sent ≠ 0) = true
      ∧ reaches (exec (.force head [0, 0, 2, 2, 88]) running) (fun t => t.groups[0].sent ≠ 0) = true
      ∧ (let s := withGroup fun g => { g with sent := g.dmin };
        reaches (exec (.force head [0, 0, 1, 2, 88]) s) (fun t => t.zones[0].dCmd = s.groups[0].dmin ∧ t.fQueue = []) = true) :=
  ⟨⟨running_configSound, witness_OwnLevelOffer.1.1⟩, by decide +kernel⟩

theorem witness_ReleaseClearsOverrides :
    (running.mode = .running ∧ running.zones[(0 : Fin 32)].used = true
      ∧ running.regulating running.zones[(0 : Fin 32)].portal = true ∧ running.regulating 0 = true)
      ∧ running.zones[(31 : Fin 32)].used = false ∧ running.regulating 3 = false := by decide +kernel

theorem witness_RescanStarts :
    tables.mode = .transparent ∧ { running with rescan := .awaitWindow }.rescan ≠ .none
      ∧ (running.mode = .running ∧ running.rescan = .none ∧ running.drivers[(0 : Fin 160)].used = true
          ∧ (∀ m : Fin 160, m < 0 → running.drivers[m].used = false) ∧ running.fQueue.length < 32)
      ∧ (let s := { fFull with drivers := updAt fFull.drivers 159 fun d => { d with used := true } };
        s.mode = .running ∧ s.rescan = .none ∧ s.fQueue.length = 32 ∧ (0 : Fin 160) < 159
          ∧ s.drivers[(159 : Fin 160)].used = true)
      ∧ ∀ d : Fin 160, { running with drivers := State.reset.drivers }.drivers[d].used = false := by decide +kernel

theorem witness_FlagsAndCountersRead :
    32 ≤ (32 : Byte).toNat ∧ (31 : Byte).toNat < 32 ∧ 64 ≤ (64 : Byte).toNat ∧ (63 : Byte).toNat < 64
      ∧ (∀ i : Fin 8, (if i.val < 4 then running.holdsControl head.src else running.holdsMaintenance head.src) = true)
      ∧ 2 ≤ (2 : Byte).toNat := by decide +kernel

theorem witness_RestartAndSlots :
    (running.live = true ∧ requestOf (.get head [4, 0, 17]) = some (72, 7, [9, 1, 4, 0, 17]))
      ∧ (let s := { running with restartPending := true };
        s.restartPending = true ∧ s.slot0 = none)
      ∧ (let s := { running with restartPending := true, slot0 := some (waiting 0) };
        s.restartPending = true ∧ s.slot0.isSome = true ∧ s.device.rollover = true ∧ s.slot1 = none)
      ∧ (let s := { running with slot0 := some (waiting 0), slot1 := some (waiting 1) };
        s.slot0.isSome = true ∧ s.slot1.isSome = true)
      ∧ (Target.resolve 4 0 17 = .ok (.portal 0 .state) ∧ cFull.restartPending = false ∧ cFull.holdsControl head.src = true
          ∧ cFull.cQueue.length = 16 ∧ cFull.slot0 = none ∧ cFull.device.rollover = true ∧ cFull.slot1 = none) :=
  ⟨⟨rfl, rfl⟩, by decide +kernel, by decide +kernel, by decide +kernel, rfl, by decide +kernel⟩

/-! The laws hold of `running` with a ramp expiry waiting, and its step answers a next state. -/

/-- What a test accepts in an optional value. -/
theorem of_all {α : Type} {o : Option α} {test : α → Bool} (h : o.all test = true) {a : α} (ha : o = some a) : test a = true := by
  subst ha
  simpa using h

/-- `running` with a ramp expiry at the front of its queue. -/
def ramping : State := { running with pending := [.rampTimerExpiry 0] }

theorem witness_StepKeepsQueuesAndSlots :
    ramping.queuesSound ∧ ramping.slotsSound ∧ reaches (step ramping) (fun _ => true) = true := by
  refine ⟨witness_OwnLevelOffer.1.1, ?_, by decide +kernel⟩
  intro k r h
  cases k <;> exact absurd h (by simp [ramping, running, parked, tables, State.reset, State.powerOn, State.slotAt])

theorem witness_StepKeepsSensorsSound : ramping.sensorsSound ∧ reaches (step ramping) (fun _ => true) = true := by
  unfold State.sensorsSound Sensor.sound
  decide +kernel

theorem witness_StepKeepsRegulationSound :
    (ramping.regulationSound ∧ ramping.interiorBelowCeiling) ∧ reaches (step ramping) (fun _ => true) = true := by
  refine ⟨⟨regulation_sound rfl rfl (by decide +kernel), ?_⟩, by decide +kernel⟩
  unfold State.interiorBelowCeiling
  decide +kernel

theorem witness_StepKeepsLevelsWithinRange : ramping.levelsSound ∧ reaches (step ramping) (fun _ => true) = true := by
  have targets : ∀ z : Fin 32, ramping.zones[z].dTarget.all (· ≤ 1000) = true := by decide +kernel
  have overrides : ∀ z : Fin 32, ramping.zones[z].override.all (fun o => o.level ≤ 1000) = true := by decide +kernel
  refine ⟨⟨by decide +kernel, fun z => ⟨?_, ?_, ?_⟩, by simp [ramping, running, parked, tables, State.reset, State.powerOn]⟩,
    by decide +kernel⟩
  · revert z; decide +kernel
  · intro d h; simpa using of_all (targets z) h
  · intro o h; simpa using of_all (overrides z) h

theorem witness_StepKeepsTablesWhole :
    ramping.tablesWhole ∧ ramping.mode = .running ∧ reaches (step ramping) (fun _ => true) = true := by
  unfold State.tablesWhole
  decide +kernel

theorem witness_StepKeepsConfigurationInRange : ramping.configSound ∧ reaches (step ramping) (fun _ => true) = true :=
  ⟨running_configSound, by decide +kernel⟩

end Sys2Proof.Tests
end

/-! SUPPORT. The match test of the acceptance table, bit by bit (R22 to R24). -/

namespace Sys2Proof.Machine

/-! ### Words under a mask -/

/-- Equality under a mask, bit by bit: a bit outside the mask is 0 on both sides and decides nothing. -/
theorem and_mask_eq_iff {w : Nat} (m x y : BitVec w) :
    x &&& m = y &&& m ↔ ∀ k : Nat, k < w → m.getLsbD k = true → x.getLsbD k = y.getLsbD k := by
  constructor
  · intro same k _ masked
    have bit : (x &&& m).getLsbD k = (y &&& m).getLsbD k := by rw [same]
    simpa [BitVec.getLsbD_and, masked] using bit
  · intro agree
    refine BitVec.eq_of_getLsbD_eq fun k hk => ?_
    rw [BitVec.getLsbD_and, BitVec.getLsbD_and]
    cases masked : m.getLsbD k with
    | false => rw [Bool.and_false, Bool.and_false]
    | true => rw [agree k hk masked]

/-! ### Ports an entry takes frames from -/

@[simp] theorem PortSelector.c_includes_iff (port : Port) : PortSelector.c.includes port = true ↔ port = .c := by
  cases port <;> simp [PortSelector.includes]

@[simp] theorem PortSelector.f_includes_iff (port : Port) : PortSelector.f.includes port = true ↔ port = .f := by
  cases port <;> simp [PortSelector.includes]

@[simp] theorem PortSelector.both_includes (port : Port) : PortSelector.both.includes port = true := rfl

/-! ### The match test -/

/-- The compared bytes in the order of Table 11-11: destination, source, class, first payload byte or 0 (R22). -/
theorem Frame.compared_eq (f : Frame) : f.compared = f.dest ++ f.src ++ (0#4 ++ f.cls) ++ f.payload.headD 0 := rfl

/-- The three conditions of a fitting entry: it is enabled, it takes the port, and no masked bit differs (R21, R23, R24). -/
theorem AcceptEntry.fits_iff (e : AcceptEntry) (port : Port) (f : Frame) :
    e.fits port f = true ↔
      e.enable = true ∧ e.ports.includes port = true
        ∧ ∀ k : Nat, k < 32 → e.mask.getLsbD k = true → f.compared.getLsbD k = e.value.getLsbD k := by
  rw [← and_mask_eq_iff, AcceptEntry.fits, Bool.and_eq_true, Bool.and_eq_true, beq_iff_eq, and_assoc]

/-- Settles O8: equality under the mask is read bit by bit, beside the compared bytes and the ports of each selector. -/
theorem matchTestsMaskedBits : Obligations.MatchTestsMaskedBits := by
  intro e port f
  exact ⟨e.fits_iff port f, f.compared_eq, PortSelector.c_includes_iff port, PortSelector.f_includes_iff port,
    PortSelector.both_includes port⟩

end Sys2Proof.Machine

/-! SUPPORT. The three answers to an own LEVEL offer (R36, R118). -/

namespace Sys2Proof.Machine

/-! ### The group's one entry -/

theorem FEntry.isLevelOf_iff (g : Fin 48) (e : FEntry) : e.isLevelOf g = true ↔ ∃ l k, e = .level g l k := by
  cases e with
  | level g' l k => simp [FEntry.isLevelOf]
  | passThrough f => simp [FEntry.isLevelOf]
  | poll d o => simp [FEntry.isLevelOf]

/-- A count of one splits the queue around the one entry: no other entry is the group's own LEVEL. -/
theorem countP_isLevelOf_eq_one (g : Fin 48) (q : List FEntry) (one : q.countP (·.isLevelOf g) = 1) :
    ∃ a b l k, q = a ++ .level g l k :: b ∧ (∀ e ∈ a, e.isLevelOf g = false) ∧ ∀ e ∈ b, e.isLevelOf g = false := by
  obtain ⟨e, he, hl⟩ := List.countP_pos_iff.mp (by omega : 0 < q.countP (·.isLevelOf g))
  obtain ⟨l, k, rfl⟩ := (e.isLevelOf_iff g).mp hl
  obtain ⟨a, b, rfl⟩ := List.append_of_mem he
  rw [List.countP_append, List.countP_cons_of_pos (p := fun e : FEntry => e.isLevelOf g) hl] at one
  have ha : a.countP (·.isLevelOf g) = 0 := by omega
  have hb : b.countP (·.isLevelOf g) = 0 := by omega
  exact ⟨a, b, l, k, rfl, by simpa using List.countP_eq_zero.mp ha, by simpa using List.countP_eq_zero.mp hb⟩

/-! ### Folding (R36 (1)) -/

/-- FIRE on either side makes the folded entry FIRE: it raises the standing kind, and AUTO/MANUAL does not lower it. -/
theorem FEntry.fold_level (g : Fin 48) (level l : Nat) (kind k : LevelKind) :
    FEntry.fold g level kind (.level g l k) = .level g level (if kind = .fire then .fire else k) := by
  cases kind <;> cases k <;> simp [FEntry.fold]

theorem FEntry.fold_of_not_isLevelOf (g : Fin 48) (level : Nat) (kind : LevelKind) (e : FEntry)
    (other : e.isLevelOf g = false) : e.fold g level kind = e := by
  cases e with
  | level g' l k =>
    have ne : g' ≠ g := by simpa [FEntry.isLevelOf] using other
    rw [FEntry.fold, if_neg ne]
  | passThrough f => rfl
  | poll d o => rfl

theorem map_fold_of_no_level (g : Fin 48) (level : Nat) (kind : LevelKind) (q : List FEntry)
    (others : ∀ e ∈ q, e.isLevelOf g = false) : q.map (FEntry.fold g level kind) = q :=
  (List.map_congr_left fun e he => e.fold_of_not_isLevelOf g level kind (others e he)).trans (List.map_id q)

/-- An offer changes the group's entry in its place and leaves the entries before and behind it as they stand. -/
theorem map_fold_around_level (g : Fin 48) (level l : Nat) (kind k : LevelKind) (a b : List FEntry)
    (before : ∀ e ∈ a, e.isLevelOf g = false) (behind : ∀ e ∈ b, e.isLevelOf g = false) :
    (a ++ .level g l k :: b).map (FEntry.fold g level kind)
      = a ++ .level g level (if kind = .fire then .fire else k) :: b := by
  rw [List.map_append, List.map_cons, FEntry.fold_level, map_fold_of_no_level g level kind a before,
    map_fold_of_no_level g level kind b behind]

/-! ### The three answers (R36) -/

/-- An accepted offer leaves the pending mark alone where it stands already. -/
theorem updAt_accepted_of_marked (groups : Vector Group 48) (g : Fin 48) (now : Time) (level : Nat)
    (marked : groups[g].pendingMark = true) :
    updAt groups g (·.accepted now level)
      = updAt groups g fun r => { r with sent := level, refreshFrom := now, due := false } := by
  rw [updAt, updAt, Group.accepted, ← marked]

/-- The scope of a refused offer: ALL counters and those of the group's portal, where it has one. -/
theorem scopedTo_toList (p : Option (Fin 4)) :
    scopedTo p.toList = fun scope =>
      match scope with
      | .all => 1
      | .portal q => if p = some q then 1 else 0 := by
  funext scope
  cases scope with
  | all => rfl
  | portal q =>
    cases p with
    | none => rfl
    | some p => simp [scopedTo, eq_comm]

section
variable (s : State) (g : Fin 48) (level : Nat) (kind : LevelKind)

theorem State.offerLevel_of_marked (marked : s.groups[g].pendingMark = true) :
    s.offerLevel g level kind = { s with
      fQueue := s.fQueue.map (FEntry.fold g level kind)
      groups := updAt s.groups g fun r => { r with sent := level, refreshFrom := s.now, due := false } } := by
  rw [State.offerLevel, if_pos marked, updAt_accepted_of_marked _ _ _ _ marked]

theorem State.offerLevel_of_room (unmarked : s.groups[g].pendingMark = false) (room : s.fQueue.length < 32) :
    s.offerLevel g level kind = { s with
      fQueue := s.fQueue ++ [.level g level kind]
      groups := updAt s.groups g (·.accepted s.now level) } := by
  rw [State.offerLevel, if_neg (ne_true_of_eq_false unmarked), if_pos room]

theorem State.offerLevel_of_full (unmarked : s.groups[g].pendingMark = false) (full : s.fQueue.length = 32) :
    s.offerLevel g level kind
      = { s with groups := updAt s.groups g fun r => { r with due := true } }.count 15
          (scopedTo (s.portalOfGroup g).toList) := by
  rw [State.offerLevel, if_neg (ne_true_of_eq_false unmarked), if_neg (by omega)]

end

/-- Under the law of the queues a pending mark points at the group's one entry (R34). -/
theorem State.queuesSound.entry_of_marked {s : State} (sound : s.queuesSound) {g : Fin 48}
    (marked : s.groups[g].pendingMark = true) :
    ∃ a b l k, s.fQueue = a ++ .level g l k :: b
      ∧ (∀ e ∈ a, e.isLevelOf g = false) ∧ ∀ e ∈ b, e.isLevelOf g = false := by
  obtain ⟨_, _, law⟩ := sound
  exact countP_isLevelOf_eq_one g s.fQueue (by rw [law g, if_pos marked])

/-- Settles O14: the pending mark and the length of the F queue choose among the three answers; the law of the queues makes the entry
of a set mark the only one that folding changes. -/
theorem ownLevelOffer : Obligations.OwnLevelOffer := by
  intro g level kind s sound
  refine ⟨fun marked => ?_, s.offerLevel_of_room g level kind, fun unmarked full => ?_⟩
  · obtain ⟨a, b, l, k, queue, before, behind⟩ := sound.entry_of_marked marked
    refine ⟨a, b, l, k, queue, ?_⟩
    rw [s.offerLevel_of_marked g level kind marked, queue, map_fold_around_level g level l kind k a b before behind]
  · exact (s.offerLevel_of_full g level kind unmarked full).trans (congrArg (State.count _ 15) (scopedTo_toList _))

end Sys2Proof.Machine

/-! SUPPORT. The sort behind the median of a history (R63): it keeps the values and puts them in ascending order. -/

namespace Sys2Proof.Machine

/-! ### Inserting into an ascending list -/

@[simp] theorem insertAscending_nil (x : Nat) : insertAscending x [] = [x] := rfl

theorem insertAscending_cons_of_le {x y : Nat} (le : x ≤ y) (ys : List Nat) :
    insertAscending x (y :: ys) = x :: y :: ys := if_pos le

theorem insertAscending_cons_of_not_le {x y : Nat} (above : ¬ x ≤ y) (ys : List Nat) :
    insertAscending x (y :: ys) = y :: insertAscending x ys := if_neg above

theorem insertAscending_perm (x : Nat) (l : List Nat) : (insertAscending x l).Perm (x :: l) := by
  induction l with
  | nil => simp
  | cons y ys ih =>
    by_cases le : x ≤ y
    · rw [insertAscending_cons_of_le le]
    · rw [insertAscending_cons_of_not_le le]
      exact (ih.cons y).trans (.swap x y ys)

/-- A value put before the head is at most each later one by way of the head; a head that the value passes is below it. -/
theorem insertAscending_pairwise (x : Nat) (l : List Nat) (sorted : l.Pairwise (· ≤ ·)) :
    (insertAscending x l).Pairwise (· ≤ ·) := by
  induction l with
  | nil => simp
  | cons y ys ih =>
    have ⟨head, tail⟩ := List.pairwise_cons.mp sorted
    by_cases le : x ≤ y
    · rw [insertAscending_cons_of_le le]
      exact .cons (List.forall_mem_cons.mpr ⟨le, fun z hz => Nat.le_trans le (head z hz)⟩) sorted
    · rw [insertAscending_cons_of_not_le le]
      refine .cons (fun z hz => ?_) (ih tail)
      rcases List.mem_cons.mp ((insertAscending_perm x ys).mem_iff.mp hz) with rfl | hz
      · exact Nat.le_of_not_le le
      · exact head z hz

/-! ### Sorting -/

@[simp] theorem ascending_nil : ascending [] = [] := rfl

@[simp] theorem ascending_cons (x : Nat) (l : List Nat) : ascending (x :: l) = insertAscending x (ascending l) := rfl

theorem ascending_perm (l : List Nat) : (ascending l).Perm l := by
  induction l with
  | nil => simp
  | cons x l ih =>
    rw [ascending_cons]
    exact (insertAscending_perm x (ascending l)).trans (ih.cons x)

theorem ascending_pairwise (l : List Nat) : (ascending l).Pairwise (· ≤ ·) := by
  induction l with
  | nil => simp
  | cons x l ih =>
    rw [ascending_cons]
    exact insertAscending_pairwise x (ascending l) ih

/-! ### The median -/

/-- Sorting keeps the length, so position length / 2 falls outside the sorted history only when that is empty. -/
theorem medianOf_eq_none_iff (h : List Sample) : medianOf h = none ↔ h = [] := by
  rw [medianOf, List.getElem?_eq_none_iff, (ascending_perm _).length_eq, List.length_map, ← List.length_eq_zero_iff]
  omega

/-- Settles O27: the model's own insertion sort gives the ascending list. -/
theorem medianOfHistory : Obligations.MedianOfHistory := fun h =>
  ⟨medianOf_eq_none_iff h, ascending _, ascending_perm _, ascending_pairwise _, rfl⟩

end Sys2Proof.Machine

/-! SUPPORT. The available output of a group from the states of its listed drivers (R95, R99). -/

namespace Sys2Proof.Machine

/-! ### Listed drivers (R99) -/

theorem State.listed_nodup (s : State) (g : Fin 48) : (s.listed g).Nodup :=
  (List.nodup_finRange 160).filter _

@[simp] theorem State.mem_listed_iff (s : State) (g : Fin 48) (d : Fin 160) :
    d ∈ s.listed g ↔ s.drivers[d].used = true ∧ s.drivers[d].group = g := by
  simp [State.listed]

/-! ### Units (Table 6-3) -/

theorem DriverState.units_le_two (d : DriverState) : d.units ≤ 2 := by
  cases d <;> decide

/-- A group of whole drivers reaches the divisor of R99, and none exceeds it. -/
theorem units_sum_le (drivers : List DriverState) : (drivers.map DriverState.units).sum ≤ 2 * drivers.length := by
  induction drivers with
  | nil => simp
  | cons d drivers ih =>
    have := d.units_le_two
    rw [List.map_cons, List.sum_cons, List.length_cons]
    omega

/-! ### The available output -/

section
variable (g : Group) (mf : Nat) (drivers : List DriverState)

theorem Group.available_of_line (line : g.owner = .line) : g.available mf drivers = 0 := by
  rw [Group.available, line]

theorem Group.available_nil : g.available mf [] = 0 := by
  cases owner : g.owner with
  | line => exact g.available_of_line mf [] owner
  | part => simp [Group.available, owner]

theorem Group.available_of_part (part : g.owner = .part) (listed : drivers ≠ []) :
    g.available mf drivers
      = g.rated * mf / 1000 * (drivers.map DriverState.units).sum / (2 * drivers.length) := by
  simp [Group.available, part, listed]

/-- Neither reduction raises the output: MF is at most 1,000 thousandths, the units at most twice the number of listed drivers. -/
theorem Group.available_le_rated (factor : mf ≤ 1000) : g.available mf drivers ≤ g.rated := by
  cases owner : g.owner with
  | line =>
    rw [g.available_of_line mf drivers owner]
    exact Nat.zero_le _
  | part =>
    by_cases listed : drivers = []
    · rw [listed, g.available_nil mf]
      exact Nat.zero_le _
    · calc g.available mf drivers
          = g.rated * mf / 1000 * (drivers.map DriverState.units).sum / (2 * drivers.length) :=
            g.available_of_part mf drivers owner listed
        _ ≤ g.rated * mf / 1000 :=
            Nat.div_le_of_le_mul (Nat.mul_comm _ (2 * drivers.length) ▸ Nat.mul_le_mul_left _ (units_sum_le drivers))
        _ ≤ g.rated := Nat.div_le_of_le_mul (Nat.mul_comm 1000 g.rated ▸ Nat.mul_le_mul_left g.rated factor)

end

/-- Settles O33: the listed drivers are the filtered record numbers; the four clauses are the laws of the available output. -/
theorem availableOutput : Obligations.AvailableOutput :=
  ⟨fun g s => ⟨s.listed g, s.listed_nodup g, rfl, s.mem_listed_iff g⟩,
    fun g mf drivers =>
      ⟨g.available_of_part mf drivers, fun empty => empty ▸ g.available_nil mf, g.available_of_line mf drivers,
        g.available_le_rated mf drivers⟩⟩

end Sys2Proof.Machine

/-! SUPPORT. What a step can do, said once for the laws: a property that reads the fields of the laws alone and that each of the
operations below keeps is kept by every step. -/

namespace Sys2Proof.Machine

set_option Elab.async false

/-! ### The fields of the laws -/

/-- The fields that the laws of the tables, of regulation and of the F queue speak of; every other field is wiped. -/
def State.lawful (s : State) : State :=
  { State.powerOn 0 0 with
    sensors := s.sensors
    pulses := s.pulses
    portals := s.portals
    kTable := s.kTable
    zones := s.zones
    groups := s.groups
    drivers := s.drivers
    device := s.device
    mode := s.mode
    fQueue := s.fQueue
    pollTimer := s.pollTimer
    rescan := s.rescan }

section
variable (s : State)

@[simp] theorem lawful_elapse (dt : Time) : (s.elapse dt).lawful = s.lawful := rfl
@[simp] theorem lawful_reach (t : Time) : (s.reach t).lawful = s.lawful := rfl
@[simp] theorem lawful_withReport (r : Report) : (s.withReport r).lawful = s.lawful := rfl
@[simp] theorem lawful_count (c : Fin 16) (a : CounterScope → Nat) : (s.count c a).lawful = s.lawful := rfl
@[simp] theorem lawful_deviceEvent (f : DeviceFlag) (o : Byte) (v : Nat) : (s.deviceEvent f o v).lawful = s.lawful := rfl
@[simp] theorem lawful_portalAlert (p : Fin 4) (e o : Byte) (v : Nat) : (s.portalAlert p e o v).lawful = s.lawful := rfl
@[simp] theorem lawful_portalEvent (p : Fin 4) (f : PortalFlag) (o : Byte) (v : Nat) :
    (s.portalEvent p f o v).lawful = s.lawful := rfl
@[simp] theorem lawful_setRx (port : Port) (r : Receiver) : (s.setRx port r).lawful = s.lawful := by cases port <;> rfl
@[simp] theorem lawful_setSlot (k : SlotIndex) (v : Option Slot) : (s.setSlot k v).lawful = s.lawful := by cases k <;> rfl
@[simp] theorem lawful_occupy (k : SlotIndex) (f : Frame) : (s.occupy k f).lawful = s.lawful := by cases k <;> rfl
@[simp] theorem lawful_dropRequest (f : Frame) : (s.dropRequest f).lawful = s.lawful := rfl
@[simp] theorem lawful_formatError : s.formatError.lawful = s.lawful := rfl
@[simp] theorem lawful_checkError (port : Port) : (s.checkError port).lawful = s.lawful := rfl

@[simp] theorem lawful_offerResponse (k : SlotIndex) (e : CEntry) : (s.offerResponse k e).lawful = s.lawful := by
  unfold State.offerResponse
  split
  · rw [lawful_setSlot]; rfl
  · rw [lawful_setSlot]

@[simp] theorem lawful_offerPassC (f : Frame) : (s.offerPassC f).lawful = s.lawful := by
  unfold State.offerPassC
  split
  · rfl
  · simp

@[simp] theorem lawful_placeWaiting : s.placeWaiting.lawful = s.lawful := by
  unfold State.placeWaiting
  split
  · rfl
  · rw [lawful_setSlot]; rfl

@[simp] theorem lawful_pickC : s.pickC.lawful = s.lawful := by
  unfold State.pickC State.startC
  split
  · split
    · rw [lawful_placeWaiting]; rfl
    · rfl
  · rfl

end

/-! ### What moves nothing -/

/-- The supply, the level at the RESET pin and the relay coil (R169), and the two receivers. -/
def State.outer (s : State) : Bool × Bool × Bool × Receiver × Receiver := (s.supply, s.resetLow, s.relayDriven, s.cRx, s.fRx)

/-- The fields of the laws, the receivers, the request slots and the supply are left alone, and the C queue but for ALERTs added; a
RESTART may come to be pending (R158). -/
structure Unmoved (s t : State) : Prop where
  lawful : t.lawful = s.lawful
  adds : AlertsAdded s.cQueue t.cQueue
  slot0 : t.slot0 = s.slot0
  slot1 : t.slot1 = s.slot1
  restart : s.restartPending = true → t.restartPending = true
  outer : t.outer = s.outer

namespace Unmoved
variable {s t u : State}

theorem refl (s : State) : Unmoved s s := ⟨rfl, .refl _, rfl, rfl, id, rfl⟩

theorem trans (h : Unmoved s t) (h' : Unmoved t u) : Unmoved s u :=
  ⟨h'.lawful.trans h.lawful, h.adds.trans h'.adds, h'.slot0.trans h.slot0, h'.slot1.trans h.slot1,
    fun r => h'.restart (h.restart r), h'.outer.trans h.outer⟩

theorem of_same (lawful : t.lawful = s.lawful) (queue : t.cQueue = s.cQueue) (slot0 : t.slot0 = s.slot0) (slot1 : t.slot1 = s.slot1)
    (restart : s.restartPending = true → t.restartPending = true) (outer : t.outer = s.outer) : Unmoved s t :=
  ⟨lawful, .of_eq queue, slot0, slot1, restart, outer⟩

theorem elapse (s : State) (dt : Time) : Unmoved s (s.elapse dt) := .of_same rfl rfl rfl rfl id rfl

theorem reach (s : State) (e : Time) : Unmoved s (s.reach e) := .of_same rfl rfl rfl rfl id rfl

theorem count (s : State) (c : Fin 16) (a : CounterScope → Nat) : Unmoved s (s.count c a) :=
  ⟨rfl, count_adds s c a, by simp, by simp, by simp, by simp [State.outer]⟩

theorem deviceEvent (s : State) (f : DeviceFlag) (o : Byte) (v : Nat) : Unmoved s (s.deviceEvent f o v) :=
  ⟨rfl, deviceEvent_adds s f o v, by simp, by simp, by simp, by simp [State.outer]⟩

theorem formatError (s : State) : Unmoved s s.formatError := .count s _ _

theorem checkError (s : State) (port : Port) : Unmoved s (s.checkError port) := (deviceEvent s _ _ _).trans (.count _ _ _)

end Unmoved

/-! ### What a request does -/

/-- The effects a request of good shape, from a source that may make it, can have (R146 (6)): none on the fields of the laws, or that of
one accepted command, with what its own checks have found. -/
inductive Effect (s : State) : State → Prop
  | quiet {t : State} : Unmoved s t → Effect s t
  | set {target : Target} {v : Word} {after : State} : target.writable = true → s.allowsSet target v.toNat = true →
      s.write target v = some after → after.setBreaksLaw target = none → Effect s after
  | activate : s.mode = .transparent → s.consistency none = none → Effect s s.enterRunning
  | deactivate : s.mode = .running → Effect s s.leaveRunning
  | standby (p : Fin 4) : s.mode = .running → s.regulating p = true → Effect s (s.standbyPortal p)
  | resume (p : Fin 4) : s.mode = .running → s.portals[p].used = true → s.regulating p = false → s.consistency (some p) = none →
      Effect s (s.startPortal p)
  | forceZone (z : Fin 32) (kind : OverrideKind) (level : Nat) : s.reachable (.zone z) = true →
      Effect s (s.forceZone z kind (min 1000 level) .zone)
  | forcePortal (p : Fin 4) (kind : OverrideKind) (level : Nat) : s.reachable (.portal p) = true →
      Effect s (s.forcePortal p kind (min 1000 level))
  | releaseZone (z : Fin 32) : s.reachable (.zone z) = true → Effect s (s.releaseZone z)
  | releasePortal (p : Fin 4) : s.reachable (.portal p) = true → Effect s (s.releasePortal p)
  | rescan : s.mode = .running → s.rescan = .none → Effect s s.rescanStart

theorem Effect.none (s : State) : Effect s s := .quiet (.refl s)

theorem runSet_effect (s : State) (target : Target) (v : Word) : Effect s (s.runSet target v).state := by
  unfold State.runSet
  split
  · exact .none s
  · next writable =>
    split
    · exact .none s
    · next allowed =>
      split
      · exact .none s
      · next after written =>
        split
        · exact .none s
        · next unbroken => exact .set (by simpa using writable) (by simpa using allowed) written unbroken

theorem runActivate_effect (s : State) : Effect s s.runActivate.state := by
  unfold State.runActivate
  split
  · exact .none s
  · next transparent =>
    split
    · exact .none s
    · next passed => exact .activate transparent passed

theorem runStandby_effect (s : State) (p : Fin 4) : Effect s (s.runStandby p).state := by
  unfold State.runStandby
  split
  · exact .none s
  · exact .none s
  · next running _ =>
    split
    · next regulating => exact .standby p running regulating
    · exact .none s

theorem runResume_effect (s : State) (p : Fin 4) : Effect s (s.runResume p).state := by
  unfold State.runResume
  split
  · exact .none s
  · exact .none s
  · next running used =>
    split
    · exact .none s
    · next idle =>
      split
      · exact .none s
      · next passed => exact .resume p running used (by simpa using idle) passed

theorem runForce_effect (s : State) (reach : Reach) (kind : Byte) (level : Nat) : Effect s (s.runForce reach kind level).state := by
  unfold State.runForce
  split
  · exact .none s
  · next reachable =>
    split
    · exact .none s
    · split
      · exact .forceZone _ _ level (by simpa using reachable)
      · exact .forcePortal _ _ level (by simpa using reachable)

theorem runRelease_effect (s : State) (reach : Reach) : Effect s (s.runRelease reach).state := by
  unfold State.runRelease
  split
  · exact .none s
  · next reachable =>
    split
    · exact .releaseZone _ (by simpa using reachable)
    · exact .releasePortal _ (by simpa using reachable)

theorem runRescan_effect (s : State) : Effect s s.runRescan.state := by
  unfold State.runRescan
  split
  · exact .none s
  · next running =>
    split
    · next idle => exact .rescan running idle
    · exact .none s

theorem runRequest_effect (s : State) (r : Request) : Effect s (s.runRequest r).state := by
  cases r with
  | get t => exact .none s
  | set t v => exact runSet_effect s t v
  | activate => exact runActivate_effect s
  | deactivate =>
    simp only [State.runRequest, State.runDeactivate]
    split
    · exact .none s
    · next running => exact .deactivate running
  | standby p => exact runStandby_effect s p
  | resume p => exact runResume_effect s p
  | force reach kind level => exact runForce_effect s reach kind level
  | release reach => exact runRelease_effect s reach
  | rescan => exact runRescan_effect s
  | clearFlags set mask =>
    simp only [State.runRequest, State.runClearFlags]
    split <;> split <;> exact .quiet (.of_same rfl rfl rfl rfl id rfl)
  | readCounter i clear =>
    simp only [State.runRequest, State.runReadCounter]
    split
    · exact .none s
    · dsimp only
      split <;> exact .quiet (.of_same rfl rfl rfl rfl id rfl)
  | restart => exact .quiet (.of_same rfl rfl rfl rfl (fun _ => rfl) rfl)

/-! ### Receivers (R1, R2, R7) -/

theorem crc_append (bytes : List Byte) (b : Byte) : crc (bytes ++ [b]) = crcByte (crc bytes) b := by
  unfold crc
  rw [List.foldl_append]
  rfl

theorem frameLength_eq (buffer : List Byte) : frameLength buffer = (buffer[2]?).map fun h => 5 + min (h.toNat % 16) 12 := rfl

namespace Receiver
variable {r : Receiver} {b : Byte}

/-- The register takes a byte of the header or the payload (R2). -/
theorem nextCheck_of_covered
    (covered : ∀ h, (r.buffer ++ [b])[2]? = some h → (r.buffer ++ [b]).length ≤ 3 + min (h.toNat % 16) 12) :
    r.nextCheck b = crcByte r.check b := by
  unfold Receiver.nextCheck
  rw [frameLength_eq]
  cases third : (r.buffer ++ [b])[2]? with
  | none => rfl
  | some h =>
    have short := covered h third
    rw [List.length_append, List.length_singleton] at short
    dsimp only [Option.map_some]
    exact if_pos (by omega)

/-- A byte of the check leaves the register alone (R2). -/
theorem nextCheck_of_beyond {h : Byte} (third : (r.buffer ++ [b])[2]? = some h)
    (beyond : 3 + min (h.toNat % 16) 12 < (r.buffer ++ [b]).length) : r.nextCheck b = r.check := by
  rw [List.length_append, List.length_singleton] at beyond
  unfold Receiver.nextCheck
  rw [frameLength_eq, third]
  dsimp only [Option.map_some]
  exact if_neg (by omega)

theorem store_state (gap : GapTimer) :
    (r.store b gap).state
      = if ∃ h, (r.buffer ++ [b])[2]? = some h ∧ (r.buffer ++ [b]).length = 5 + min (h.toNat % 16) 12 then .closing else .assembling := by
  have complete : frameLength (r.buffer ++ [b]) = some (r.buffer ++ [b]).length
      ↔ ∃ h, (r.buffer ++ [b])[2]? = some h ∧ (r.buffer ++ [b]).length = 5 + min (h.toNat % 16) 12 := by
    rw [frameLength_eq, Option.map_eq_some_iff]
    exact exists_congr fun _ => and_congr_right' eq_comm
  unfold Receiver.store
  simp only [complete]

theorem coveredBytes_of_covered {buffer : List Byte} (covered : ∀ h, buffer[2]? = some h → buffer.length ≤ 3 + min (h.toNat % 16) 12) :
    coveredBytes buffer = buffer := by
  unfold coveredBytes
  split
  · next h third => exact List.take_of_length_le (covered h third)
  · rfl

/-- The register of a receiver that stores a byte holds the check of the header and payload bytes taken (R2). -/
theorem nextCheck_eq (check : r.check = crc (coveredBytes r.buffer)) : r.nextCheck b = crc (coveredBytes (r.buffer ++ [b])) := by
  have earlier (h : Byte) (third : r.buffer[2]? = some h) : (r.buffer ++ [b])[2]? = some h := by
    obtain ⟨inside, -⟩ := List.getElem?_eq_some_iff.mp third
    rw [List.getElem?_append_left inside, third]
  by_cases covered : ∀ h, (r.buffer ++ [b])[2]? = some h → (r.buffer ++ [b]).length ≤ 3 + min (h.toNat % 16) 12
  · have before (h : Byte) (third : r.buffer[2]? = some h) : r.buffer.length ≤ 3 + min (h.toNat % 16) 12 := by
      have short := covered h (earlier h third)
      rw [List.length_append, List.length_singleton] at short
      omega
    rw [nextCheck_of_covered covered, check, coveredBytes_of_covered covered, coveredBytes_of_covered before, crc_append]
  · obtain ⟨h, uncovered⟩ := Classical.not_forall.mp covered
    obtain ⟨third, beyond⟩ := Classical.not_imp.mp uncovered
    have beyond := Nat.not_le.mp beyond
    rw [nextCheck_of_beyond third beyond, check]
    rw [List.length_append, List.length_singleton] at beyond
    have inside : 2 < r.buffer.length := by omega
    have here : r.buffer[2]? = some h := by
      rw [← third, List.getElem?_append_left inside]
    unfold coveredBytes
    rw [third, here]
    dsimp only
    rw [List.take_append_of_le_length (by omega)]

/-- What a receiver's soundness reads. -/
theorem sound_of_same {q : Receiver} (state : q.state = r.state) (buffer : q.buffer = r.buffer) (check : q.check = r.check)
    (sound : r.sound) : q.sound := by
  unfold Receiver.sound at sound ⊢
  rw [state, buffer, check]
  exact sound

theorem sound_of_empty {q : Receiver} (idle : q.state = .unsync ∨ q.state = .ready) (empty : q.buffer = []) : q.sound := by
  unfold Receiver.sound
  rcases idle with state | state <;> rw [state] <;> exact empty

theorem sound_leave (r : Receiver) (counted : Bool) (gap : GapTimer) : (r.leave counted gap).sound := sound_of_empty (.inl rfl) rfl

theorem sound_begin (r : Receiver) (b : Byte) (gap : GapTimer) :
    ({ r with state := .assembling, buffer := [b], check := crcByte 0xFFFF#16 b, gap := gap } : Receiver).sound :=
  ⟨List.cons_ne_nil _ _, fun _ third => (by cases third), rfl⟩

theorem sound_store (assembling : r.state = .assembling) (gap : GapTimer) (sound : r.sound) : (r.store b gap).sound := by
  unfold Receiver.sound at sound
  rw [assembling] at sound
  obtain ⟨_, incomplete, check⟩ := sound
  have register : (r.store b gap).check = crc (coveredBytes (r.store b gap).buffer) := nextCheck_eq check
  have state := store_state (r := r) (b := b) gap
  unfold Receiver.sound
  split at state
  · next complete =>
    rw [state]
    exact ⟨complete, register⟩
  · next more =>
    rw [state]
    refine ⟨List.append_ne_nil_of_right_ne_nil _ (List.cons_ne_nil _ _), fun h third => ?_, register⟩
    refine Classical.byContradiction fun reached => ?_
    have third : (r.buffer ++ [b])[2]? = some h := third
    have reached : ¬ (r.buffer ++ [b]).length < 5 + min (h.toNat % 16) 12 := reached
    have notFull : (r.buffer ++ [b]).length ≠ 5 + min (h.toNat % 16) 12 := fun full => more ⟨h, third, full⟩
    have length : (r.buffer ++ [b]).length = r.buffer.length + 1 := List.length_append
    have inside : 2 < r.buffer.length := by omega
    have before := incomplete h (by rw [← third, List.getElem?_append_left inside])
    omega

theorem sound_afterSending (r : Receiver) (now bt : Time) : (r.afterSending now bt).sound := sound_of_empty (.inl rfl) rfl

/-- At the free expiry an idle receiver is READY (R7). -/
theorem sound_free (sound : r.sound) :
    ({ r with gap := .stopped, counted := false, fragment := false, lostUntil := none,
              state := if r.state = .unsync then .ready else r.state } : Receiver).sound := by
  split
  · next idle =>
    unfold Receiver.sound at sound
    rw [idle] at sound
    exact sound_of_empty (.inr rfl) sound
  · exact sound_of_same rfl rfl rfl sound

end Receiver

@[simp] theorem reach_rx (s : State) (e : Time) (port : Port) : (s.reach e).rx port = s.rx port := by cases port <;> rfl

/-! ### Properties that every step keeps -/

/-- Wipes supply, RESET pin and relay, and the commands still to come. -/
def State.unsupplied (s : State) : State := { s with supply := true, resetLow := false, relayDriven := true, pending := [] }

/-- `P` stands before each operation of a command on a supplied part and `Q` after its last: an operation that others follow keeps `P`,
one that may be the last leads from `P` to `Q`; only the end of a reply window follows one that leads to `Q`. -/
structure Leads (P Q : State → Prop) : Prop where
  weaken : ∀ {s : State}, P s → Q s
  quiet : ∀ {s t : State}, Unmoved s t → P s → P t
  setRx : ∀ s port r, ((s.rx port).sound → r.sound) → P s → P (s.setRx port r)
  offerCandidate : ∀ s i c, P s → P (s.offerCandidate i c)
  captureTraffic : ∀ s pl, P s → P (s.captureTraffic pl)
  snoop : ∀ s d c l, P s → P (s.snoop d c l)
  offerPassF : ∀ s f, P s → P (s.offerPassF f)
  offerPassC : ∀ s f, P s → P (s.offerPassC f)
  handRequest : ∀ s f, P s → Q (s.handRequest f)
  chargeMiss : ∀ s d o, P s → P (s.chargeMiss d o)
  scanWindowEnded : ∀ s d, Q s → Q (s.scanWindowEnded d)
  pollExpiry : ∀ s, P s → Q s.pollExpiry
  ageExpiry : ∀ s i, P s → Q (s.ageExpiry i)
  pulseEdge : ∀ s n, P s → Q (s.pulseEdge n)
  gateExpiry : ∀ s n, P s → Q (s.gateExpiry n)
  passExpiry : ∀ s p, P s → Q (s.passExpiry p)
  holdExpiry : ∀ s p, P s → Q (s.holdExpiry p)
  rampExpiry : ∀ s p, P s → Q (s.rampExpiry p)
  startF : ∀ s e rest, pickLowest FEntry.priority s.fQueue = some (e, rest) → P s → Q (s.startF e rest)
  pickC : ∀ s, P s → Q s.pickC
  restartNow : ∀ s, P s → Q s.restartNow
  secondExpiry : ∀ s, P s → Q s.secondExpiry

namespace Leads
variable {P Q : State → Prop} (k : Leads P Q) {s t : State}
include k

/-! ### Good frames -/

theorem acceptance (port : Port) (f : Frame) (h : P s) : P (s.acceptance port f).state := by
  unfold State.acceptance
  split
  · exact h
  · next i _ =>
    have hit : P { s with accept := updAt s.accept i fun e => { e with hits := e.hits + 1 } } := k.quiet (s := s) (.of_same rfl rfl rfl rfl id rfl) h
    dsimp only
    split
    · exact k.offerCandidate _ _ _ hit
    · exact k.captureTraffic _ _ hit
    · exact hit
    · exact hit

theorem handleOnward (port : Port) (f : Frame) (h : P s) : P (s.handleOnward port f) := by
  have snooped : P (s.snoopFrame port f) := by
    unfold State.snoopFrame
    split
    · split
      · exact k.snoop _ _ _ _ h
      · exact h
    · exact h
  unfold State.handleOnward
  split
  · exact k.quiet (.count s _ _) h
  · unfold State.forward
    split
    · exact k.offerPassF _ f snooped
    · exact k.offerPassC _ f snooped

theorem dispatch (port : Port) (f : Frame) (h : P s) : Q (s.dispatch port f) := by
  unfold State.dispatch State.handleOwn
  split
  · split
    · exact k.handRequest _ f h
    · exact k.weaken (k.quiet (.count s _ _) h)
  · dsimp only
    split
    · exact k.weaken (k.handleOnward port f (k.acceptance port f h))
    · exact k.weaken (k.acceptance port f h)

theorem afterWindow (w : Window) (h : Q s) : Q (s.afterWindow w) := by
  unfold State.afterWindow
  split
  · exact k.scanWindowEnded s _ h
  · exact h

theorem goodFrame (port : Port) (f : Frame) (h : P s) : Q (s.goodFrame port f) := by
  unfold State.goodFrame
  dsimp only
  split
  · exact k.dispatch port f (k.quiet (.count s _ _) h)
  · exact k.afterWindow _ (k.dispatch port f
      (k.quiet (s := s.count (goodCode port) (unscoped 1)) (.of_same rfl rfl rfl rfl id rfl) (k.quiet (.count s _ _) h)))

/-! ### Receivers and transmitters -/

theorem receiveByte (port : Port) (b : Byte) (h : P s) : P (s.receiveByte port b) := by
  have taken : ∀ port, P (s.takeByte port b) := by
    intro port
    unfold State.takeByte
    dsimp only
    split
    · exact k.setRx s _ _ (Receiver.sound_of_same (by simp) (by simp) (by simp)) h
    · exact k.setRx s _ _ (fun _ => Receiver.sound_begin _ _ _) h
    · next assembling => exact k.setRx s _ _ (Receiver.sound_store assembling _) h
    · exact k.quiet (.formatError _) (k.setRx s _ _ (fun _ => Receiver.sound_leave _ _ _) h)
  unfold State.receiveByte
  split
  · exact taken _
  · split
    · exact k.setRx s .f _ (Receiver.sound_of_same rfl rfl rfl) h
    · exact taken _

theorem closeExpiry (port : Port) (h : P s) : Q (s.closeExpiry port) := by
  have reached (t : Time) : P (s.reach t) := k.quiet (.reach s t) h
  unfold State.closeExpiry
  split
  · next last _ =>
    unfold State.closeAt
    dsimp only
    split
    · exact k.weaken (k.setRx _ _ _ (Receiver.sound_of_same rfl rfl rfl) (reached _))
    · exact k.weaken (k.setRx _ _ _ (Receiver.sound_of_same rfl rfl rfl) (reached _))
    · exact k.weaken (k.quiet (.formatError _) (k.setRx _ _ _ (fun _ => Receiver.sound_leave _ _ _) (reached _)))
    · have left := k.setRx _ port _ (fun _ => Receiver.sound_leave ((s.reach (last + 2 * s.byteTime port)).rx port) false (.running last true))
        (reached (last + 2 * s.byteTime port))
      unfold State.judge
      dsimp only
      split
      · exact k.weaken (k.quiet (.checkError _ _) left)
      · split
        · exact k.weaken (k.quiet (.formatError _) left)
        · exact k.goodFrame port _ left
  · exact k.weaken h
  · exact k.weaken h

theorem freeExpiry (port : Port) (h : P s) : P (s.freeExpiry port) := by
  unfold State.freeExpiry
  split
  · next last _ =>
    have free := k.setRx _ port _ Receiver.sound_free (k.quiet (.reach s (last + 4 * s.byteTime port)) h)
    unfold State.freeAt
    dsimp only
    split
    · exact k.quiet (.formatError _) free
    · exact free
  · exact h
  · exact h

theorem pickF (h : P s) : Q s.pickF := by
  unfold State.pickF
  split
  · next picked => exact k.startF s _ _ picked h
  · exact k.weaken h

theorem sentF (h : P s) : P s.sentF := by
  unfold State.sentF
  split
  · next f own _ =>
    have sent : P { s with fTx := if f.cls = clsPoll then .awaitReply (.ofPoll f own) (s.now + s.device.replyWindow * msTicks) else .idle } :=
      k.quiet (s := s) (.of_same rfl rfl rfl rfl id rfl) h
    exact k.setRx _ .f _ (fun _ => Receiver.sound_afterSending s.fRx s.now (s.byteTime .f)) sent
  · exact h
  · exact h

theorem windowExpiry (h : P s) : Q s.windowExpiry := by
  unfold State.windowExpiry
  split
  · next w ends _ =>
    have idle : P { s.reach ends with fTx := .idle } := k.quiet (s := s) (.of_same rfl rfl rfl rfl id rfl) h
    refine k.afterWindow w (k.weaken ?_)
    unfold State.missWindow
    split
    · exact k.chargeMiss _ _ _ idle
    · exact idle
  · exact k.weaken h
  · exact k.weaken h

theorem sentC (h : P s) : Q s.sentC := by
  unfold State.sentC
  split
  · have idle : P { s with cTx := .idle (s.now + s.guardTime) } := k.quiet (s := s) (.of_same rfl rfl rfl rfl id rfl) h
    dsimp only
    split
    · exact k.restartNow _ idle
    · exact k.weaken idle
    · exact k.weaken idle
    · exact k.weaken idle
  · exact k.weaken h

/-! ### Commands and steps -/

theorem whenLive (act : State → State) (answers : s.whenLive act = .next t) (keeps : P s → Q (act s)) (h : P s) : Q t := by
  unfold State.whenLive at answers
  obtain rfl := Host.Outcome.next.inj answers
  split
  · exact keeps h
  · exact k.weaken h

theorem elapsed (dt : Time) (h : P s) : P (s.elapse dt) := k.quiet (.elapse s dt) h

/-- Every command but the four of supply and reset leads from `P` to `Q` (R169). -/
theorem run {i : Instr} (other : actsOnSupply i = false) (answers : exec i s = .next t) (h : P s) : Q t := by
  cases hr : requestOf i with
  | some r =>
    obtain ⟨dt, src, pl⟩ := r
    rw [exec_request hr] at answers
    exact k.whenLive _ answers (fun h => k.handRequest _ _ (k.elapsed dt h)) h
  | none =>
    cases i with
    | powerOn | powerLoss | resetAssert | pinReset => cases other
    | receiveByte dt port b => exact k.whenLive (fun s => (s.elapse dt).receiveByte port b) answers (fun h => k.weaken (k.receiveByte port b (k.elapsed dt h))) h
    | closeExpiry port => exact k.whenLive (·.closeExpiry port) answers (k.closeExpiry port) h
    | freeExpiry port => exact k.whenLive (·.freeExpiry port) answers (fun h => k.weaken (k.freeExpiry port h)) h
    | ageTimerExpiry i => exact k.whenLive (·.ageExpiry i) answers (k.ageExpiry s i) h
    | pulseEdge dt n => exact k.whenLive (fun s => (s.elapse dt).pulseEdge n) answers (fun h => k.pulseEdge _ n (k.elapsed dt h)) h
    | gateExpiry n => exact k.whenLive (·.gateExpiry n) answers (k.gateExpiry s n) h
    | passTimerExpiry p => exact k.whenLive (·.passExpiry p) answers (k.passExpiry s p) h
    | holdTimerExpiry p => exact k.whenLive (·.holdExpiry p) answers (k.holdExpiry s p) h
    | rampTimerExpiry p => exact k.whenLive (·.rampExpiry p) answers (k.rampExpiry s p) h
    | fPick dt => exact k.whenLive (fun s => (s.elapse dt).pickF) answers (fun h => k.pickF (k.elapsed dt h)) h
    | fSendComplete dt => exact k.whenLive (fun s => (s.elapse dt).sentF) answers (fun h => k.weaken (k.sentF (k.elapsed dt h))) h
    | replyWindowExpiry => exact k.whenLive (·.windowExpiry) answers k.windowExpiry h
    | pollTimerExpiry => exact k.whenLive (·.pollExpiry) answers (k.pollExpiry s) h
    | cPick dt => exact k.whenLive (fun s => (s.elapse dt).pickC) answers (fun h => k.pickC _ (k.elapsed dt h)) h
    | cSendComplete dt => exact k.whenLive (fun s => (s.elapse dt).sentC) answers (fun h => k.sentC (k.elapsed dt h)) h
    | oneSecondExpiry => exact k.whenLive (·.secondExpiry) answers (k.secondExpiry s) h
    | _ => exact absurd hr (by simp [requestOf])

/-- Every command leads from `P` to a `Q` that holds after power-on and does not see supply, RESET pin and relay. -/
theorem exec (powerOn : ∀ addr rate, Q (State.powerOn addr rate))
    (resupplied : ∀ {s t : State}, t.unsupplied = s.unsupplied → Q s → Q t) {i : Instr} (answers : Machine.exec i s = .next t)
    (h : P s) : Q t := by
  cases supply : actsOnSupply i with
  | false => exact k.run supply answers h
  | true =>
    cases i with
    | powerOn addr rate =>
      obtain rfl := Host.Outcome.next.inj answers
      split
      · exact resupplied (s := s) rfl (k.weaken h)
      · exact resupplied (s := State.powerOn addr rate) rfl (powerOn addr rate)
    | powerLoss =>
      obtain rfl := Host.Outcome.next.inj answers
      exact resupplied (s := State.powerOn 0 0) rfl (powerOn 0 0)
    | resetAssert =>
      obtain rfl := Host.Outcome.next.inj answers
      exact resupplied (s := s) rfl (k.weaken h)
    | pinReset addr rate =>
      obtain rfl := Host.Outcome.next.inj answers
      split
      · exact resupplied (s := State.powerOn addr rate) rfl (powerOn addr rate)
      · exact resupplied (s := s) rfl (k.weaken h)
    | _ => cases supply

/-- Every step does, when `P` does not see the commands still to come. -/
theorem step (powerOn : ∀ addr rate, Q (State.powerOn addr rate)) (resupplied : ∀ {s t : State}, t.unsupplied = s.unsupplied → Q s → Q t)
    (begins : ∀ {s t : State}, t.unsupplied = s.unsupplied → P s → P t) (answers : Machine.step s = .next t) (h : P s) : Q t := by
  unfold Machine.step at answers
  split at answers
  · obtain rfl := Host.Outcome.next.inj answers
    exact k.weaken h
  · exact k.exec powerOn resupplied answers (begins (s := s) rfl h)

end Leads

/-- A property that every operation of a supplied part keeps. -/
structure Upheld (P : State → Prop) : Prop where
  quiet : ∀ {s t : State}, Unmoved s t → P s → P t
  setRx : ∀ s port r, ((s.rx port).sound → r.sound) → P s → P (s.setRx port r)
  offerCandidate : ∀ s i c, P s → P (s.offerCandidate i c)
  captureTraffic : ∀ s pl, P s → P (s.captureTraffic pl)
  snoop : ∀ s d c l, P s → P (s.snoop d c l)
  offerPassF : ∀ s f, P s → P (s.offerPassF f)
  offerPassC : ∀ s f, P s → P (s.offerPassC f)
  handRequest : ∀ s f, P s → P (s.handRequest f)
  chargeMiss : ∀ s d o, P s → P (s.chargeMiss d o)
  scanWindowEnded : ∀ s d, P s → P (s.scanWindowEnded d)
  pollExpiry : ∀ s, P s → P s.pollExpiry
  ageExpiry : ∀ s i, P s → P (s.ageExpiry i)
  pulseEdge : ∀ s n, P s → P (s.pulseEdge n)
  gateExpiry : ∀ s n, P s → P (s.gateExpiry n)
  passExpiry : ∀ s p, P s → P (s.passExpiry p)
  holdExpiry : ∀ s p, P s → P (s.holdExpiry p)
  rampExpiry : ∀ s p, P s → P (s.rampExpiry p)
  startF : ∀ s e rest, pickLowest FEntry.priority s.fQueue = some (e, rest) → P s → P (s.startF e rest)
  pickC : ∀ s, P s → P s.pickC
  restartNow : ∀ s, P s → P s.restartNow
  secondExpiry : ∀ s, P s → P s.secondExpiry

namespace Upheld
variable {P : State → Prop} (k : Upheld P) {s t : State}
include k

theorem leads : Leads P P where
  weaken := id
  quiet := k.quiet
  setRx := k.setRx
  offerCandidate := k.offerCandidate
  captureTraffic := k.captureTraffic
  snoop := k.snoop
  offerPassF := k.offerPassF
  offerPassC := k.offerPassC
  handRequest := k.handRequest
  chargeMiss := k.chargeMiss
  scanWindowEnded := k.scanWindowEnded
  pollExpiry := k.pollExpiry
  ageExpiry := k.ageExpiry
  pulseEdge := k.pulseEdge
  gateExpiry := k.gateExpiry
  passExpiry := k.passExpiry
  holdExpiry := k.holdExpiry
  rampExpiry := k.rampExpiry
  startF := k.startF
  pickC := k.pickC
  restartNow := k.restartNow
  secondExpiry := k.secondExpiry

/-- Every command but the four of supply and reset keeps the property (R169). -/
theorem run {i : Instr} (other : actsOnSupply i = false) (answers : Machine.exec i s = .next t) (h : P s) : P t := k.leads.run other answers h

/-- Every step keeps a property that holds after power-on and does not see supply, RESET pin and relay. -/
theorem step (powerOn : ∀ addr rate, P (State.powerOn addr rate))
    (resupplied : ∀ {s t : State}, t.unsupplied = s.unsupplied → P s → P t) (answers : Machine.step s = .next t) (h : P s) : P t :=
  k.leads.step powerOn resupplied resupplied answers h

end Upheld

/-- A property of the fields of the laws that holds after power-on and that every operation on those fields keeps. -/
structure Kept (P : State → Prop) : Prop where
  quiet : ∀ {s t : State}, t.lawful = s.lawful → P s → P t
  powerOn : ∀ addr rate, P (State.powerOn addr rate)
  offerCandidate : ∀ s i c, P s → P (s.offerCandidate i c)
  captureTraffic : ∀ s pl, P s → P (s.captureTraffic pl)
  snoop : ∀ s d c l, P s → P (s.snoop d c l)
  offerPassF : ∀ s f, P s → P (s.offerPassF f)
  effect : ∀ {s t}, Effect s t → P s → P t
  chargeMiss : ∀ s d o, P s → P (s.chargeMiss d o)
  scanWindowEnded : ∀ s d, P s → P (s.scanWindowEnded d)
  pollExpiry : ∀ s, P s → P s.pollExpiry
  ageExpiry : ∀ s i, P s → P (s.ageExpiry i)
  pulseEdge : ∀ s n, P s → P (s.pulseEdge n)
  gateExpiry : ∀ s n, P s → P (s.gateExpiry n)
  passExpiry : ∀ s p, P s → P (s.passExpiry p)
  holdExpiry : ∀ s p, P s → P (s.holdExpiry p)
  rampExpiry : ∀ s p, P s → P (s.rampExpiry p)
  startF : ∀ s e rest, pickLowest FEntry.priority s.fQueue = some (e, rest) → P s → P (s.startF e rest)
  restartNow : ∀ s, P s → P s.restartNow
  secondExpiry : ∀ s, P s → P s.secondExpiry

namespace Kept
variable {P : State → Prop} (k : Kept P) {s t : State}
include k

/-! ### Requests -/

theorem runPayload (src : Byte) (pl : List Byte) (h : P s) : P (s.runPayload src pl).state := by
  unfold State.runPayload
  split
  · exact h
  · split
    · exact k.effect (runRequest_effect s _) h
    · exact h

theorem handRequest (f : Frame) (h : P s) : P (s.handRequest f) := by
  unfold State.handRequest
  split
  · exact k.quiet (lawful_dropRequest s f) h
  · next slot _ =>
    have placed : P (s.occupy slot f) := k.quiet (lawful_occupy s slot f) h
    split
    · exact placed
    · exact k.quiet (lawful_offerResponse _ _ _) (k.runPayload f.src f.payload placed)

/-- A property of the fields of the laws does not see the C queue and the slots. -/
theorem upheld : Upheld P where
  quiet same := k.quiet same.lawful
  setRx s port r _ := k.quiet (lawful_setRx s port r)
  offerCandidate := k.offerCandidate
  captureTraffic := k.captureTraffic
  snoop := k.snoop
  offerPassF := k.offerPassF
  offerPassC s f := k.quiet (lawful_offerPassC s f)
  handRequest _ f := k.handRequest f
  chargeMiss := k.chargeMiss
  scanWindowEnded := k.scanWindowEnded
  pollExpiry := k.pollExpiry
  ageExpiry := k.ageExpiry
  pulseEdge := k.pulseEdge
  gateExpiry := k.gateExpiry
  passExpiry := k.passExpiry
  holdExpiry := k.holdExpiry
  rampExpiry := k.rampExpiry
  startF := k.startF
  pickC s := k.quiet (lawful_pickC s)
  restartNow := k.restartNow
  secondExpiry := k.secondExpiry

/-- Every step keeps the property. -/
theorem step (answers : Machine.step s = .next t) (h : P s) : P t :=
  k.upheld.step k.powerOn (fun same => k.quiet (congrArg State.lawful same :)) answers h

end Kept

end Sys2Proof.Machine

/-! SUPPORT. The configuration: the fields a SET can write. No operation but a SET and the power-on values changes it. -/

namespace Sys2Proof.Machine

set_option Elab.async false

/-! ### The configuration of each record -/

/-- The configuration of a sensor: its run-time fields are wiped. -/
def Sensor.config (r : Sensor) : Sensor :=
  { r with state := .unused, history := [], rejects := 0, probation := [], good := 0, ageTimer := none }

/-- The configuration of a pulse input. -/
def PulseInput.config (r : PulseInput) : PulseInput :=
  { r with count := 0, lastEdge := none, reference := none, lastSample := none, gate := none, cleared := none, lastTaken := none }

/-- The configuration of a portal. -/
def Portal.config (r : Portal) : Portal :=
  { r with
    state := .unused
    speed := 0
    traffic := 0
    la := none
    lastGoodLa := none
    lth := none
    holdTimer := none
    passTimer := none
    rampTimer := none
    disagree := false
    override := none }

/-- The configuration of a zone. -/
def Zone.config (z : Zone) : Zone :=
  { z with
    lz := none
    onStages := Vector.replicate 4 false
    onReserve := false
    dCmd := 0
    dTarget := none
    deficit := false
    deficitAmount := 0
    override := none
    reserveEligible := false }

/-- The configuration of a group. -/
def Group.config (g : Group) : Group :=
  { g with
    sent := 0
    pendingMark := false
    due := false
    refreshFrom := 0
    burnMinutes := 0
    burnSub := 0
    burnKnown := false
    mf := none
    sg := none }

/-- The configuration of a driver. -/
def Driver.config (r : Driver) : Driver := { r with state := .unused, misses := 0, lastCondition := none, lastLevel := none }

/-- The configuration of the part; every other field is wiped. -/
def State.configuration (s : State) : State :=
  { State.powerOn 0 0 with
    sensors := s.sensors.map Sensor.config
    pulses := s.pulses.map PulseInput.config
    portals := s.portals.map Portal.config
    kTable := s.kTable
    zones := s.zones.map Zone.config
    groups := s.groups.map Group.config
    drivers := s.drivers.map Driver.config
    device := s.device }

/-! ### Tables under a projection -/

section
variable {α β : Type} {n : Nat} (g : α → β) (v : Vector α n)

theorem map_updAt (i : Fin n) (f : α → α) (h : g (f v[i]) = g v[i] := by rfl) : (updAt v i f).map g = v.map g := by
  ext j hj
  rw [Vector.getElem_map, Vector.getElem_map, updAt_getElem]
  split
  · next e => subst e; exact h
  · rfl

theorem map_updAll (f : Fin n → α → α) (h : ∀ i : Fin n, g (f i v[i]) = g v[i] := by intro; rfl) : (updAll v f).map g = v.map g := by
  ext j hj
  rw [Vector.getElem_map, Vector.getElem_map, updAll_getElem]
  exact h ⟨j, hj⟩

/-- Two tables equal under a projection read the same under it in every record. -/
theorem get_of_map_eq {v w : Vector α n} (h : v.map g = w.map g) (i : Fin n) : g v[i] = g w[i] := by
  have := congrArg (fun u : Vector β n => u[i]) h
  simpa using this

end

/-! ### What leaves the configuration alone -/

/-- The configuration is told apart by its eight tables. -/
theorem configuration_eq {s t : State} (sensors : t.sensors.map Sensor.config = s.sensors.map Sensor.config := by rfl)
    (pulses : t.pulses.map PulseInput.config = s.pulses.map PulseInput.config := by rfl)
    (portals : t.portals.map Portal.config = s.portals.map Portal.config := by rfl) (kTable : t.kTable = s.kTable := by rfl)
    (zones : t.zones.map Zone.config = s.zones.map Zone.config := by rfl)
    (groups : t.groups.map Group.config = s.groups.map Group.config := by rfl)
    (drivers : t.drivers.map Driver.config = s.drivers.map Driver.config := by rfl) (device : t.device = s.device := by rfl) :
    t.configuration = s.configuration := by
  unfold State.configuration
  rw [sensors, pulses, portals, kTable, zones, groups, drivers, device]

theorem configuration_of_lawful {s t : State} (h : t.lawful = s.lawful) : t.configuration = s.configuration :=
  show t.lawful.configuration = s.lawful.configuration by rw [h]

section
variable (s : State)

@[simp] theorem configuration_elapse (dt : Time) : (s.elapse dt).configuration = s.configuration := rfl
@[simp] theorem configuration_reach (t : Time) : (s.reach t).configuration = s.configuration := rfl
@[simp] theorem configuration_count (c : Fin 16) (a : CounterScope → Nat) : (s.count c a).configuration = s.configuration := rfl
@[simp] theorem configuration_deviceEvent (f : DeviceFlag) (o : Byte) (v : Nat) :
    (s.deviceEvent f o v).configuration = s.configuration := rfl
@[simp] theorem configuration_portalAlert (p : Fin 4) (e o : Byte) (v : Nat) :
    (s.portalAlert p e o v).configuration = s.configuration := rfl
@[simp] theorem configuration_portalEvent (p : Fin 4) (f : PortalFlag) (o : Byte) (v : Nat) :
    (s.portalEvent p f o v).configuration = s.configuration := rfl

theorem configuration_mapPortal (p : Fin 4) (f : Portal → Portal) (h : ∀ r, (f r).config = r.config := by intros; rfl) :
    (s.mapPortal p f).configuration = s.configuration :=
  configuration_eq (portals := map_updAt _ _ _ _ (h _))

theorem configuration_mapZone (i : Fin 32) (f : Zone → Zone) (h : (f s.zones[i]).config = s.zones[i].config := by intros; rfl) :
    (s.mapZone i f).configuration = s.configuration :=
  configuration_eq (zones := map_updAt _ _ _ _ h)

theorem configuration_mapDriver (d : Fin 160) (f : Driver → Driver) (h : ∀ r, (f r).config = r.config := by intros; rfl) :
    (s.mapDriver d f).configuration = s.configuration :=
  configuration_eq (drivers := map_updAt _ _ _ _ (h _))

/-! ### Sensing -/

@[simp] theorem Sensor.takeGood_config (r : Sensor) (now : Time) (x : Sample) : (r.takeGood now x).config = r.config := by
  unfold Sensor.takeGood
  dsimp only
  split <;> (try split) <;> rfl

@[simp] theorem Sensor.takeReject_config (r : Sensor) : r.takeReject.config = r.config := by
  unfold Sensor.takeReject
  split <;> (try split) <;> rfl

@[simp] theorem configuration_sensorGood (i : Fin 8) (x : Sample) : (s.sensorGood i x).configuration = s.configuration :=
  configuration_eq (sensors := map_updAt _ _ _ _ (Sensor.takeGood_config _ _ _))

theorem configuration_withSensor (i : Fin 8) (f : Sensor → Sensor) (h : ∀ r, (f r).config = r.config := by intros; rfl) :
    ({ s with sensors := updAt s.sensors i f } : State).configuration = s.configuration :=
  configuration_eq (sensors := map_updAt _ _ _ _ (h _))

theorem configuration_withPulse (n : Fin 4) (f : PulseInput → PulseInput) (h : ∀ r, (f r).config = r.config := by intros; rfl) :
    ({ s with pulses := updAt s.pulses n f } : State).configuration = s.configuration :=
  configuration_eq (pulses := map_updAt _ _ _ _ (h _))

@[simp] theorem configuration_sensorReject (i : Fin 8) : (s.sensorReject i).configuration = s.configuration := by
  unfold State.sensorReject
  dsimp only
  have taken := configuration_withSensor (s.count 7 (scopedTo (s.sensorPortals i))) i _ Sensor.takeReject_config
  split
  · exact (foldl_keeps State.configuration _ (fun t p => configuration_portalEvent t p _ _ _) _ _).trans taken
  · exact taken

@[simp] theorem configuration_offerCandidate (i : Fin 8) (c : Candidate) :
    (s.offerCandidate i c).configuration = s.configuration := by
  unfold State.offerCandidate
  split
  · split <;> simp
  · rfl

@[simp] theorem configuration_ageExpiry (i : Fin 8) : (s.ageExpiry i).configuration = s.configuration := by
  unfold State.ageExpiry
  split
  · rfl
  · next t _ =>
    have stale := configuration_withSensor (s.reach t) i
      fun r => { r with state := .stale, history := [], ageTimer := none }
    dsimp only
    split
    · exact stale
    · exact (configuration_withPulse _ _ _).trans stale

@[simp] theorem configuration_pulseEdge (n : Fin 4) : (s.pulseEdge n).configuration = s.configuration := by
  unfold State.pulseEdge
  split
  · exact configuration_withPulse _ _ _
  · rfl

@[simp] theorem configuration_gateExpiry (n : Fin 4) : (s.gateExpiry n).configuration = s.configuration := by
  unfold State.gateExpiry
  split
  · rfl
  · dsimp only
    split
    · exact (configuration_withPulse _ _ _).trans rfl
    · exact (foldl_keeps State.configuration _ (fun t i => configuration_sensorGood t i _) _ _).trans
        ((configuration_withPulse _ _ _).trans rfl)

@[simp] theorem configuration_captureTraffic (pl : List Byte) : (s.captureTraffic pl).configuration = s.configuration := by
  unfold State.captureTraffic
  split
  · rfl
  · refine configuration_eq (portals := map_updAll _ _ _ fun p => ?_)
    split <;> rfl

/-! ### Offers -/

theorem configuration_withGroup (g : Fin 48) (f : Group → Group) (h : ∀ r, (f r).config = r.config := by intros; rfl) :
    ({ s with groups := updAt s.groups g f } : State).configuration = s.configuration :=
  configuration_eq (groups := map_updAt _ _ _ _ (h _))

@[simp] theorem configuration_offerLevel (g : Fin 48) (l : Nat) (k : LevelKind) :
    (s.offerLevel g l k).configuration = s.configuration := by
  unfold State.offerLevel
  split
  · exact configuration_eq (groups := map_updAt _ _ _ _)
  · split
    · exact configuration_eq (groups := map_updAt _ _ _ _)
    · exact configuration_withGroup s g fun r => { r with due := true }

@[simp] theorem configuration_offerPoll (d : Fin 160) (o : PollOrigin) : (s.offerPoll d o).configuration = s.configuration := by
  unfold State.offerPoll
  split <;> rfl

@[simp] theorem configuration_offerPassF (f : Frame) : (s.offerPassF f).configuration = s.configuration := by
  unfold State.offerPassF
  split <;> rfl

@[simp] theorem configuration_startF (e : FEntry) (rest : List FEntry) : (s.startF e rest).configuration = s.configuration := by
  unfold State.startF State.clearPending
  dsimp only
  rw [configuration_count]
  split
  · exact configuration_eq (groups := map_updAt _ _ _ _)
  · rfl
  · rfl

/-! ### The pass -/

@[simp] theorem configuration_enterTracking (p : Fin 4) (la : Nat) (d : Bool) :
    (s.enterTracking p la d).configuration = s.configuration := by
  unfold State.enterTracking
  dsimp only
  split
  · exact configuration_mapPortal _ _ _
  · rw [configuration_portalAlert]; exact configuration_mapPortal _ _ _

@[simp] theorem configuration_track (p : Fin 4) (la : Nat) (low : Option Nat) :
    (s.track p la low).configuration = s.configuration := by
  unfold State.track
  dsimp only
  split
  · split <;> simp
  · simp

@[simp] theorem configuration_enterFallback (p : Fin 4) : (s.enterFallback p).configuration = s.configuration := by
  unfold State.enterFallback
  rw [configuration_portalEvent]
  exact configuration_mapPortal _ _ _

@[simp] theorem configuration_lose (p : Fin 4) (b : Bool) : (s.lose p b).configuration = s.configuration := by
  unfold State.lose
  dsimp only
  split
  · split
    · simp
    · rw [configuration_portalEvent]; exact configuration_mapPortal _ _ _
  · split
    · simp
    · exact configuration_mapPortal _ _ _
  · exact configuration_mapPortal _ _ _
  · rfl
  · rfl

@[simp] theorem configuration_passStep1 (p : Fin 4) (b : Bool) : (s.passStep1 p b).configuration = s.configuration := by
  unfold State.passStep1
  dsimp only
  split <;> simp

@[simp] theorem configuration_passStep2 (p : Fin 4) : (s.passStep2 p).configuration = s.configuration :=
  configuration_mapPortal _ _ _

@[simp] theorem configuration_passStep3 (p : Fin 4) : (s.passStep3 p).configuration = s.configuration := by
  unfold State.passStep3
  dsimp only
  refine configuration_eq (zones := map_updAll _ _ _ fun i => ?_)
  split <;> rfl

@[simp] theorem configuration_computeGroup (g : Fin 48) : (s.computeGroup g).configuration = s.configuration :=
  configuration_withGroup s g _

@[simp] theorem configuration_deficitTest (i : Fin 32) (lz sAll : Nat) :
    (s.deficitTest i lz sAll).configuration = s.configuration := by
  unfold State.deficitTest
  dsimp only
  split
  · rw [configuration_portalEvent]; exact configuration_mapZone s i _
  · split
    · rw [configuration_portalAlert]; exact configuration_mapZone s i _
    · exact configuration_mapZone s i _

@[simp] theorem configuration_offerHandover (old new : Zone) (b : Bool) :
    (s.offerHandover old new b).configuration = s.configuration := by
  unfold State.offerHandover
  refine foldl_keeps State.configuration _ (fun t p => ?_) _ s
  dsimp only
  split <;> simp

end

/-! ### Selection in a zone -/

section
variable (z : Zone) (sg : Fin 48 → Nat) (groups : Vector Group 48)

@[simp] theorem Zone.setOn_config (p : Place) (b : Bool) : (z.setOn p b).config = z.config := by cases p <;> rfl

@[simp] theorem Zone.addStages_config (eligible : Bool) (lz : Nat) : (z.addStages sg eligible lz).config = z.config := by
  unfold Zone.addStages
  refine foldl_keeps Zone.config _ (fun y p => ?_) _ z
  split <;> simp

@[simp] theorem Zone.switchOn_config (eligible : Bool) (lz : Nat) : (z.switchOn sg groups eligible lz).config = z.config := by
  unfold Zone.switchOn
  dsimp only
  split
  · rfl
  · exact z.addStages_config sg eligible lz

@[simp] theorem Zone.switchOff_config (lz : Nat) : (z.switchOff sg lz).config = z.config := by
  unfold Zone.switchOff
  split
  · rfl
  · next p _ =>
    dsimp only
    split
    · exact z.setOn_config p false
    · rfl

@[simp] theorem Zone.shedReserve_config : (z.shedReserve sg).config = z.config := rfl

@[simp] theorem Zone.selectAuto_config (eligible : Bool) (lz : Nat) : (z.selectAuto sg groups eligible lz).config = z.config := by
  have shed : (if z.onReserve && !eligible then z.shedReserve sg else z).config = z.config := by split <;> rfl
  unfold Zone.selectAuto
  dsimp only
  generalize (if z.onReserve && !eligible then z.shedReserve sg else z) = y at shed ⊢
  split
  · exact (y.switchOn_config sg groups eligible lz).trans shed
  · exact (Zone.switchOff_config _ sg lz).trans ((y.switchOn_config sg groups eligible lz).trans shed)

end

section
variable (s : State)

/-- The figures of the groups of a zone touch no zone. -/
theorem foldl_computeGroup_zones (l : List (Fin 48)) : (l.foldl (fun t g => t.computeGroup g) s).zones = s.zones :=
  foldl_keeps State.zones _ (fun t g => (rfl : (t.computeGroup g).zones = t.zones)) l s

@[simp] theorem configuration_stageZone (i : Fin 32) (b : Bool) : (s.stageZone i b).configuration = s.configuration := by
  unfold State.stageZone
  have figured : (s.zones[i].standing.foldl (fun t g => t.computeGroup g) s).configuration = s.configuration :=
    foldl_keeps State.configuration _ (fun t g => configuration_computeGroup t g) _ s
  have zones := foldl_computeGroup_zones s s.zones[i].standing
  dsimp only
  generalize s.zones[i].standing.foldl (fun t g => t.computeGroup g) s = t at figured zones ⊢
  have selected : ∀ new : Zone, new.config = s.zones[i].config →
      ({ t with zones := updAt t.zones i fun _ => new } : State).configuration = s.configuration := fun new same =>
    (configuration_eq (zones := map_updAt _ _ _ _ (by rw [same, zones]))).trans figured
  split
  · rw [configuration_offerHandover, configuration_deficitTest]
    exact selected _ (Zone.selectAuto_config _ _ _ _ _)
  · rw [configuration_deficitTest]
    exact selected _ rfl

@[simp] theorem configuration_pass (p : Fin 4) (a b : Bool) : (s.pass p a b).configuration = s.configuration := by
  unfold State.pass
  dsimp only
  rw [foldl_keeps State.configuration _ (fun t z => configuration_stageZone t z b)]
  simp

@[simp] theorem configuration_passExpiry (p : Fin 4) : (s.passExpiry p).configuration = s.configuration := by
  unfold State.passExpiry
  split
  · rfl
  · rw [configuration_pass]; exact configuration_mapPortal _ _ _

@[simp] theorem configuration_holdExpiry (p : Fin 4) : (s.holdExpiry p).configuration = s.configuration := by
  unfold State.holdExpiry
  split
  · rfl
  · rw [configuration_pass]; exact configuration_mapPortal _ _ _

@[simp] theorem configuration_startPortal (p : Fin 4) : (s.startPortal p).configuration = s.configuration := by
  unfold State.startPortal
  dsimp only
  rw [configuration_mapPortal _ _ _, configuration_pass]
  unfold State.mapPortal
  refine configuration_eq (portals := map_updAt _ _ _ _) (zones := map_updAll _ _ _ fun i => ?_)
  split <;> rfl

@[simp] theorem configuration_standbyPortal (p : Fin 4) : (s.standbyPortal p).configuration = s.configuration := by
  refine configuration_eq (portals := map_updAt _ _ _ _) (zones := map_updAll _ _ _ fun i => ?_)
    (groups := map_updAll _ _ _ fun g => ?_) <;> split <;> rfl

@[simp] theorem configuration_discardRegulation : s.discardRegulation.configuration = s.configuration := by
  unfold State.discardRegulation
  have groups : (updAll s.groups fun _ g => { g with mf := none, sg := none, due := false }).map Group.config
      = s.groups.map Group.config := map_updAll _ _ _
  have portals : (updAll s.portals fun _ r => if r.used then r.discarded .standby else r).map Portal.config
      = s.portals.map Portal.config := map_updAll _ _ _ fun p => by split <;> rfl
  exact configuration_eq (portals := portals) (zones := map_updAll _ _ _) (groups := groups)

/-! ### Ramps and overrides -/

@[simp] theorem configuration_offerRamp (p : Fin 4) (i : Fin 32) (k : LevelKind) :
    (s.offerRamp p i k).configuration = s.configuration := by
  unfold State.offerRamp
  refine foldl_keeps State.configuration _ (fun t q => ?_) _ s
  dsimp only
  split <;> simp

@[simp] theorem configuration_rampZone (p : Fin 4) (i : Fin 32) : (s.rampZone p i).configuration = s.configuration := by
  unfold State.rampZone
  dsimp only
  split
  · simp
  · rfl
  · rw [configuration_offerRamp]
    split
    · exact configuration_mapZone s i _
    · exact configuration_mapZone s i _

@[simp] theorem configuration_rampExpiry (p : Fin 4) : (s.rampExpiry p).configuration = s.configuration := by
  unfold State.rampExpiry
  split
  · rfl
  · dsimp only
    rw [foldl_keeps State.configuration _ (fun t z => configuration_rampZone t p z)]
    exact configuration_mapPortal _ _ _

@[simp] theorem configuration_offerForce (i : Fin 32) (k : OverrideKind) : (s.offerForce i k).configuration = s.configuration := by
  unfold State.offerForce
  refine foldl_keeps State.configuration _ (fun t q => ?_) _ s
  dsimp only
  split <;> split <;> simp

@[simp] theorem configuration_forceZone (i : Fin 32) (k : OverrideKind) (l : Nat) (sc : OverrideScope) :
    (s.forceZone i k l sc).configuration = s.configuration := by
  unfold State.forceZone
  rw [configuration_offerForce]
  cases k <;> exact configuration_mapZone s i _

@[simp] theorem configuration_forcePortal (p : Fin 4) (k : OverrideKind) (l : Nat) :
    (s.forcePortal p k l).configuration = s.configuration := by
  unfold State.forcePortal
  dsimp only
  rw [foldl_keeps State.configuration _ (fun t z => configuration_forceZone t z k l .portal)]
  exact configuration_mapPortal _ _ _

@[simp] theorem configuration_releaseZone (i : Fin 32) : (s.releaseZone i).configuration = s.configuration :=
  configuration_mapZone s i _

@[simp] theorem configuration_releasePortal (p : Fin 4) : (s.releasePortal p).configuration = s.configuration := by
  refine configuration_eq (portals := map_updAt _ _ _ _) (zones := map_updAll _ _ _ fun i => ?_)
  split <;> rfl

/-! ### Drivers and the poller -/

@[simp] theorem configuration_driverChanged (d : Fin 160) (a b : DriverState) :
    (s.driverChanged d a b).configuration = s.configuration := by
  unfold State.driverChanged
  split
  · rfl
  · split
    · rfl
    · split
      · rfl
      · split <;> rfl

@[simp] theorem configuration_resync (d : Fin 160) (l : Nat) : (s.resync d l).configuration = s.configuration := by
  unfold State.resync
  dsimp only
  split
  · rfl
  · split
    · exact configuration_withGroup s _ fun r => { r with due := true }
    · rfl

@[simp] theorem configuration_snoop (d : Fin 160) (c : Byte) (l : BitVec 16) : (s.snoop d c l).configuration = s.configuration := by
  unfold State.snoop
  rw [configuration_driverChanged, configuration_mapDriver _ _ _, configuration_resync]

@[simp] theorem configuration_enterAbsent (d : Fin 160) : (s.enterAbsent d).configuration = s.configuration := by
  unfold State.enterAbsent
  rw [configuration_driverChanged, configuration_mapDriver _ _ _]

@[simp] theorem configuration_chargeMiss (d : Fin 160) (o : PollOrigin) : (s.chargeMiss d o).configuration = s.configuration := by
  unfold State.chargeMiss
  dsimp only
  split
  · have counted : ((s.mapDriver d fun r => { r with misses := r.misses + 1 }).count 6 (unscoped 1)).configuration
        = s.configuration := configuration_mapDriver s d _
    split
    · rw [configuration_enterAbsent, counted]
    · split
      · rw [configuration_enterAbsent, counted]
      · exact counted
  · rfl

@[simp] theorem configuration_rescanEnd : s.rescanEnd.configuration = s.configuration := rfl

@[simp] theorem configuration_rescanOffer : s.rescanOffer.configuration = s.configuration := by
  unfold State.rescanOffer
  split
  · rfl
  · split
    · exact configuration_offerPoll s _ _
    · dsimp only
      split <;> rfl

@[simp] theorem configuration_rescanStart : s.rescanStart.configuration = s.configuration :=
  configuration_rescanOffer _

@[simp] theorem configuration_scanWindowEnded (d : Fin 160) : (s.scanWindowEnded d).configuration = s.configuration := by
  unfold State.scanWindowEnded
  split
  · rfl
  · split
    · exact configuration_rescanOffer _
    · rfl

@[simp] theorem configuration_pollExpiry : s.pollExpiry.configuration = s.configuration := by
  unfold State.pollExpiry
  split
  · rfl
  · dsimp only
    split
    · rfl
    · exact configuration_rescanOffer _
    · split
      · rfl
      · exact configuration_offerPoll _ _ _

@[simp] theorem configuration_driversUnknown : s.driversUnknown.configuration = s.configuration := by
  unfold State.driversUnknown
  refine configuration_eq (drivers := map_updAll _ _ _ fun d => ?_)
  split <;> rfl

/-! ### Modes, the restart and the one-second timer -/

@[simp] theorem configuration_removeOwnEntries : s.removeOwnEntries.configuration = s.configuration := by
  unfold State.removeOwnEntries
  refine configuration_eq (groups := map_updAll _ _ _ fun g => ?_)
  split <;> rfl

@[simp] theorem configuration_emptyQueues : s.emptyQueues.configuration = s.configuration := by
  unfold State.emptyQueues
  have groups : (updAll s.groups fun _ r => { r with pendingMark := false }).map Group.config = s.groups.map Group.config :=
    map_updAll _ _ _
  exact configuration_eq (groups := groups)

@[simp] theorem configuration_abandonRescan : s.abandonRescan.configuration = s.configuration := rfl

@[simp] theorem configuration_restartSensing : s.restartSensing.configuration = s.configuration := by
  refine configuration_eq (sensors := map_updAll _ _ _ fun i => ?_) (pulses := map_updAll _ _ _ fun n => ?_) <;>
    split <;> rfl

@[simp] theorem configuration_restartNow : s.restartNow.configuration = s.configuration := by
  unfold State.restartNow
  simp only [configuration_discardRegulation, configuration_abandonRescan, configuration_driversUnknown,
    configuration_restartSensing, configuration_emptyQueues]
  rfl

@[simp] theorem configuration_leaveRunning : s.leaveRunning.configuration = s.configuration := by
  unfold State.leaveRunning
  simp only [configuration_discardRegulation, configuration_abandonRescan, configuration_removeOwnEntries]
  rfl

@[simp] theorem configuration_enterRunning : s.enterRunning.configuration = s.configuration := by
  unfold State.enterRunning
  dsimp only
  rw [configuration_rescanStart, foldl_keeps State.configuration]
  · exact configuration_driversUnknown { s with mode := .running }
  · intro t p
    split <;> simp

@[simp] theorem Group.burn_config (g : Group) : g.burn.config = g.config := by
  unfold Group.burn
  split
  · split <;> rfl
  · rfl

@[simp] theorem configuration_secondExpiry : s.secondExpiry.configuration = s.configuration := by
  unfold State.secondExpiry
  dsimp only
  rw [configuration_count, configuration_count]
  exact configuration_eq (groups := map_updAll _ _ _ fun g => Group.burn_config _)

/-! ### Steps that settle -/

/-- Neither the configuration nor the mode is changed, but for a mode that may come to be TRANSPARENT. -/
def State.settled (s t : State) : Prop := t.configuration = s.configuration ∧ (t.mode = s.mode ∨ t.mode = .transparent)

/-- What regulation writes holds no mode. -/
theorem State.settled_of_exceptRegulation {t : State} (configuration : t.configuration = s.configuration)
    (frame : t.exceptRegulation = s.exceptRegulation) : s.settled t :=
  ⟨configuration, .inl (congrArg (fun u : State => u.mode) frame :)⟩

/-- The state after an accepted SET: the one record written. -/
theorem write_mode {t : Target} {v : Word} {after : State} (written : s.write t v = some after) : after.mode = s.mode := by
  unfold State.write at written
  cases t with
  | flags set f => cases written
  | _ =>
    obtain ⟨x, _, rfl⟩ := Option.map_eq_some_iff.mp written
    rfl

end

/-! ### Laws of the configuration -/

section
variable (s : State)

/-! ### What leaves the mode alone -/

theorem mode_of_exceptSensing {s t : State} (h : t.exceptSensing = s.exceptSensing) : t.mode = s.mode :=
  (congrArg (fun u : State => u.mode) h :)

theorem mode_of_exceptRegulation {s t : State} (h : t.exceptRegulation = s.exceptRegulation) : t.mode = s.mode :=
  (congrArg (fun u : State => u.mode) h :)

theorem mode_of_exceptPolling {s t : State} (h : t.exceptPolling = s.exceptPolling) : t.mode = s.mode :=
  (congrArg (fun u : State => u.mode) h :)

@[simp] theorem mode_captureTraffic (pl : List Byte) : (s.captureTraffic pl).mode = s.mode := by
  unfold State.captureTraffic
  split <;> simp

@[simp] theorem mode_offerPassF (f : Frame) : (s.offerPassF f).mode = s.mode := by
  unfold State.offerPassF
  split <;> simp

@[simp] theorem mode_offerPoll (d : Fin 160) (o : PollOrigin) : (s.offerPoll d o).mode = s.mode :=
  mode_of_exceptPolling (exceptPolling_offerPoll s d o)

@[simp] theorem mode_rescanOffer : s.rescanOffer.mode = s.mode := mode_of_exceptPolling (exceptPolling_rescanOffer s)

@[simp] theorem mode_pass (p : Fin 4) (a b : Bool) : (s.pass p a b).mode = s.mode :=
  mode_of_exceptRegulation (exceptRegulation_pass s p a b)

@[simp] theorem mode_rampZone (p : Fin 4) (z : Fin 32) : (s.rampZone p z).mode = s.mode :=
  mode_of_exceptRegulation (exceptRegulation_rampZone s p z)

@[simp] theorem mode_pollExpiry : s.pollExpiry.mode = s.mode := by
  unfold State.pollExpiry
  split
  · rfl
  · dsimp only
    split
    · rfl
    · exact mode_rescanOffer _
    · split
      · rfl
      · exact mode_offerPoll _ _ _

@[simp] theorem mode_ageExpiry (i : Fin 8) : (s.ageExpiry i).mode = s.mode := by
  unfold State.ageExpiry
  split
  · rfl
  · dsimp only
    split <;> rfl

@[simp] theorem mode_pulseEdge (n : Fin 4) : (s.pulseEdge n).mode = s.mode := by
  unfold State.pulseEdge
  split <;> rfl

@[simp] theorem mode_gateExpiry (n : Fin 4) : (s.gateExpiry n).mode = s.mode := by
  unfold State.gateExpiry
  split
  · rfl
  · dsimp only
    split
    · rfl
    · exact foldl_keeps (fun u : State => u.mode) _ (fun t i => (rfl : (t.sensorGood i _).mode = t.mode)) _ _

@[simp] theorem mode_passExpiry (p : Fin 4) : (s.passExpiry p).mode = s.mode := by
  unfold State.passExpiry
  split
  · rfl
  · exact mode_pass _ p _ _

@[simp] theorem mode_holdExpiry (p : Fin 4) : (s.holdExpiry p).mode = s.mode := by
  unfold State.holdExpiry
  split
  · rfl
  · exact mode_pass _ p _ _

@[simp] theorem mode_rampExpiry (p : Fin 4) : (s.rampExpiry p).mode = s.mode := by
  unfold State.rampExpiry
  split
  · rfl
  · exact foldl_keeps (fun u : State => u.mode) _ (fun t z => mode_rampZone t p z) _ _

@[simp] theorem mode_startF (e : FEntry) (rest : List FEntry) : (s.startF e rest).mode = s.mode := by
  unfold State.startF State.clearPending
  dsimp only
  split <;> simp

@[simp] theorem mode_secondExpiry : s.secondExpiry.mode = s.mode := by
  unfold State.secondExpiry
  simp

end

/-- A law of the configuration and the mode is kept by every step, if it holds after power-on, an accepted ACTIVATE and an accepted SET
keep it, and it does not fail as the mode comes to be TRANSPARENT. -/
theorem Kept.of_configuration {P : State → Prop} (settled : ∀ {s t : State}, s.settled t → P s → P t)
    (powerOn : ∀ addr rate, P (State.powerOn addr rate))
    (activate : ∀ s : State, s.consistency none = none → P s → P s.enterRunning)
    (set : ∀ {s after : State} {t : Target} {v : Word}, s.allowsSet t v.toNat = true →
      s.write t v = some after → after.setBreaksLaw t = none → P s → P after) : Kept P where
  quiet h := settled ⟨configuration_of_lawful h, .inl (congrArg (fun u : State => u.mode) h :)⟩
  powerOn := powerOn
  offerCandidate s i c :=
    settled ⟨configuration_offerCandidate s i c, .inl (mode_of_exceptSensing (exceptSensing_offerCandidate s i c))⟩
  captureTraffic s pl := settled ⟨configuration_captureTraffic s pl, .inl (mode_captureTraffic s pl)⟩
  snoop s d c l := settled ⟨configuration_snoop s d c l, .inl (mode_of_exceptPolling (exceptPolling_snoop s d c l))⟩
  offerPassF s f := settled ⟨configuration_offerPassF s f, .inl (mode_offerPassF s f)⟩
  effect {s t} did := by
    cases did with
    | quiet same => exact settled ⟨configuration_of_lawful same.lawful, .inl (congrArg (fun u : State => u.mode) same.lawful :)⟩
    | set _ allowed written unbroken => exact set allowed written unbroken
    | activate _ passed => exact activate s passed
    | deactivate _ => exact settled ⟨configuration_leaveRunning s, .inr rfl⟩
    | standby p => exact settled (s.settled_of_exceptRegulation (configuration_standbyPortal s p) (exceptRegulation_standbyPortal s p))
    | resume p => exact settled (s.settled_of_exceptRegulation (configuration_startPortal s p) (exceptRegulation_startPortal s p))
    | forceZone z k l =>
      exact settled (s.settled_of_exceptRegulation (configuration_forceZone s _ _ _ _) (exceptRegulation_forceZone s _ _ _ _))
    | forcePortal p k l =>
      exact settled (s.settled_of_exceptRegulation (configuration_forcePortal s _ _ _) (exceptRegulation_forcePortal s _ _ _))
    | releaseZone z => exact settled (s.settled_of_exceptRegulation (configuration_releaseZone s z) (exceptRegulation_mapZone s _ _))
    | releasePortal p =>
      exact settled (s.settled_of_exceptRegulation (configuration_releasePortal s p) (exceptRegulation_releasePortal s p))
    | rescan => exact settled ⟨configuration_rescanStart s, .inl (mode_of_exceptPolling (exceptPolling_rescanStart s))⟩
  chargeMiss s d o := settled ⟨configuration_chargeMiss s d o, .inl (mode_of_exceptPolling (exceptPolling_chargeMiss s d o))⟩
  scanWindowEnded s d :=
    settled ⟨configuration_scanWindowEnded s d, .inl (mode_of_exceptPolling (exceptPolling_scanWindowEnded s d))⟩
  pollExpiry s := settled ⟨configuration_pollExpiry s, .inl (mode_pollExpiry s)⟩
  ageExpiry s i := settled ⟨configuration_ageExpiry s i, .inl (mode_ageExpiry s i)⟩
  pulseEdge s n := settled ⟨configuration_pulseEdge s n, .inl (mode_pulseEdge s n)⟩
  gateExpiry s n := settled ⟨configuration_gateExpiry s n, .inl (mode_gateExpiry s n)⟩
  passExpiry s p := settled ⟨configuration_passExpiry s p, .inl (mode_passExpiry s p)⟩
  holdExpiry s p := settled ⟨configuration_holdExpiry s p, .inl (mode_holdExpiry s p)⟩
  rampExpiry s p := settled ⟨configuration_rampExpiry s p, .inl (mode_rampExpiry s p)⟩
  startF s e rest _ := settled ⟨configuration_startF s e rest, .inl (mode_startF s e rest)⟩
  restartNow s := settled ⟨configuration_restartNow s, .inr rfl⟩
  secondExpiry s := settled ⟨configuration_secondExpiry s, .inl (mode_secondExpiry s)⟩

end Sys2Proof.Machine

/-! SUPPORT. Every step keeps the tables whole in RUNNING (R150) and every configuration field in its range. -/

namespace Sys2Proof.Machine

set_option Elab.async false

/-! ### What the law of the tables reads -/

/-- The law of the tables reads the used fields, the slots of the zones, and the groups and addresses of the drivers. -/
theorem lawBroken_congr {s t : State}
    (zones : ∀ z : Fin 32, t.zones[z].used = s.zones[z].used ∧ t.zones[z].standing = s.zones[z].standing)
    (groups : ∀ g : Fin 48, t.groups[g].used = s.groups[g].used)
    (drivers : ∀ d : Fin 160, t.drivers[d].used = s.drivers[d].used ∧ t.drivers[d].group = s.drivers[d].group
      ∧ t.drivers[d].address = s.drivers[d].address) : t.lawBroken = s.lawBroken := by
  have examinedGroups : t.examinesGroup none = s.examinesGroup none := funext fun g => by
    simp only [State.examinesGroup, Option.all_none, groups]
  have examinedDrivers : t.examinesDriver none = s.examinesDriver none := funext fun d => by
    simp only [State.examinesDriver, Option.all_none, drivers]
  simp only [State.lawBroken, State.check6, State.check8, State.slotCount, zones, groups, drivers, examinedGroups, examinedDrivers]

theorem lawBroken_of_configuration {s t : State} (same : t.configuration = s.configuration) : t.lawBroken = s.lawBroken := by
  have zones : t.zones.map Zone.config = s.zones.map Zone.config := (congrArg (fun u : State => u.zones) same :)
  have groups : t.groups.map Group.config = s.groups.map Group.config := (congrArg (fun u : State => u.groups) same :)
  have drivers : t.drivers.map Driver.config = s.drivers.map Driver.config := (congrArg (fun u : State => u.drivers) same :)
  refine lawBroken_congr (fun z => ?_) (fun g => ?_) fun d => ?_
  · have same := get_of_map_eq Zone.config zones z
    exact ⟨(congrArg Zone.used same :), (congrArg Zone.standing same :)⟩
  · exact (congrArg Group.used (get_of_map_eq Group.config groups g) :)
  · have same := get_of_map_eq Driver.config drivers d
    exact ⟨(congrArg Driver.used same :), (congrArg Driver.group same :), (congrArg Driver.address same :)⟩

/-- A passed consistency check leaves the law of the tables unbroken. -/
theorem lawBroken_of_consistency {s : State} (passed : s.consistency none = none) : s.lawBroken = none := by
  have each := List.findSome?_eq_none_iff.mp passed
  have check6 : s.check6 none = none := each (s.check6 none) (by simp only [List.mem_cons, true_or, or_true])
  have check8 : s.check8 none = none := each (s.check8 none) (by simp only [List.mem_cons, true_or, or_true])
  rw [State.lawBroken, check6, check8]
  rfl

/-! ### The law and a SET -/

/-- A written record is the one the target names. -/
theorem write_zone_free {s : State} {i : Fin 32} {f : ZoneField} {v : Word} {x : Zone} (written : s.writeZone i f v = some x)
    (free : (Target.zone i f).restriction = .free) : x.used = s.zones[i].used ∧ x.standing = s.zones[i].standing := by
  cases f with
  | used | portal | position | stageList | reserve => cases free
  | ratio =>
    simp only [State.writeZone] at written
    split at written
    · cases written
    · obtain ⟨r, _, rfl⟩ := Option.map_eq_some_iff.mp written
      exact ⟨rfl, rfl⟩
  | hysteresis =>
    obtain ⟨r, _, rfl⟩ := Option.map_eq_some_iff.mp written
    exact ⟨rfl, rfl⟩
  | _ => cases written

theorem write_group_free {s : State} {g : Fin 48} {f : GroupField} {v : Nat} {x : Group} (written : s.writeGroup g f v = some x)
    (free : (Target.group g f).restriction = .free) : x.used = s.groups[g].used := by
  cases f with
  | used | groupAddress => cases free
  | dmin =>
    simp only [State.writeGroup] at written
    split at written
    · cases written
    · obtain ⟨r, _, rfl⟩ := Option.map_eq_some_iff.mp written
      rfl
  | owner =>
    obtain ⟨o, _, rfl⟩ := Option.map_eq_some_iff.mp written
    unfold Group.setOwner
    split <;> rfl
  | rated | depreciation | mfFloor | burnHours =>
    obtain ⟨r, _, rfl⟩ := Option.map_eq_some_iff.mp written
    rfl
  | _ => cases written

/-- A SET that is not of a structural field cannot break the law of the tables. -/
theorem lawBroken_of_free_write {s after : State} {t : Target} {v : Word} (written : s.write t v = some after)
    (free : t.restriction = .free) : after.lawBroken = s.lawBroken := by
  cases t with
  | zone i f =>
    obtain ⟨x, record, rfl⟩ := Option.map_eq_some_iff.mp written
    refine lawBroken_congr (fun z => ?_) (fun _ => rfl) fun _ => ⟨rfl, rfl, rfl⟩
    dsimp only
    rw [updAt_get]
    split
    · next same => exact same ▸ write_zone_free record free
    · exact ⟨rfl, rfl⟩
  | group i f =>
    obtain ⟨x, record, rfl⟩ := Option.map_eq_some_iff.mp written
    refine lawBroken_congr (fun _ => ⟨rfl, rfl⟩) (fun g => ?_) fun _ => ⟨rfl, rfl, rfl⟩
    dsimp only
    rw [updAt_get]
    split
    · next same => exact same ▸ write_group_free record free
    · rfl
  | driver d f =>
    cases f with
    | used | lineAddress | group => cases free
    | _ => cases written
  | flags set f => cases written
  | _ =>
    obtain ⟨x, record, rfl⟩ := Option.map_eq_some_iff.mp written
    rfl

/-- An accepted SET in RUNNING leaves the tables whole: a structural one is tested, an owner field is refused (R150). -/
theorem tablesWhole_write {s after : State} {t : Target} {v : Word} (allowed : s.allowsSet t v.toNat = true)
    (written : s.write t v = some after) (unbroken : after.setBreaksLaw t = none) (whole : s.tablesWhole) : after.tablesWhole := by
  intro running
  have wasRunning : s.mode = .running := (write_mode s written).symm.trans running
  cases restriction : t.restriction with
  | free => rw [lawBroken_of_free_write written restriction, whole wasRunning]
  | owner => simp [State.allowsSet, wasRunning, restriction] at allowed
  | structural => simpa [State.setBreaksLaw, running, restriction] using unbroken

theorem kept_tablesWhole : Kept State.tablesWhole := by
  refine .of_configuration ?_ (fun _ _ running => by cases running) (fun s passed _ _ => ?_)
    fun allowed written unbroken => tablesWhole_write allowed written unbroken
  · rintro s t ⟨configuration, mode⟩ whole running
    rcases mode with same | transparent
    · rw [lawBroken_of_configuration configuration, whole (same ▸ running)]
    · rw [transparent] at running
      cases running
  · rw [lawBroken_of_configuration (configuration_enterRunning s), lawBroken_of_consistency passed]

/-- Settles O58: the law reads the configuration alone, and only an accepted SET, which is tested, changes that. -/
theorem stepKeepsTablesWhole : Obligations.StepKeepsTablesWhole := fun _ _ whole answers => kept_tablesWhole.step answers whole

/-! ### Ranges of one record -/

/-- The configuration of one zone is within Table 6-1. -/
def Zone.configSound (z : Zone) : Prop := within 1 8 z.position ∧ z.stages.length ≤ 4 ∧ z.ratio ≤ 1000 ∧ z.hysteresis ≤ 300

/-- The configuration of one group is within Table 6-2. -/
def Group.configSound (g : Group) : Prop :=
  within 200 254 g.address.toNat ∧ within 1 20000 g.rated ∧ within 1 500 g.dmin ∧ g.depreciation ≤ 500 ∧ within 500 1000 g.mfFloor

/-- The DEVICE fields are within Table 9-6. -/
def Device.configSound (d : Device) : Prop :=
  within 50 2000 d.pollInterval ∧ within 5 100 d.replyWindow ∧ within 1 7 d.missLimit

/-- The configuration of one pulse input is within Table 4-6. -/
def PulseInput.configSound (r : PulseInput) : Prop := r.gateLength ∈ [125, 250, 500, 1000] ∧ within 1 4000 r.scale

theorem inRange_eq_some_iff {lo hi v x : Nat} : inRange lo hi v = some x ↔ x = v ∧ within lo hi x := by
  unfold inRange within
  split
  · next h => simp only [Option.some.injEq]; exact ⟨fun e => ⟨e.symm, e ▸ h⟩, fun e => e.1.symm⟩
  · next h =>
    simp only [reduceCtorEq, false_iff]
    rintro ⟨rfl, inside⟩
    exact h inside

theorem within_of_inRange {lo hi v x : Nat} (h : inRange lo hi v = some x) : within lo hi x := (inRange_eq_some_iff.mp h).2

theorem le_of_inRange {lo hi v x : Nat} (h : inRange lo hi v = some x) : x ≤ hi := (within_of_inRange h).2

/-- A byte address written is the value tested. -/
theorem within_ofNat_of_inRange {lo hi v x : Nat} (h : inRange lo hi v = some x) (top : hi < 256) :
    within lo hi (BitVec.ofNat 8 x).toNat := by
  have ⟨low, high⟩ := within_of_inRange h
  rw [BitVec.toNat_ofNat, Nat.mod_eq_of_lt (by omega)]
  exact ⟨low, high⟩

/-! ### Accepted values -/

theorem Device.write_configSound {d x : Device} {f : DeviceField} {v : Nat} (written : d.write f v = some x)
    (sound : d.configSound) : x.configSound := by
  obtain ⟨poll, window, misses⟩ := sound
  cases f with
  | familyCode | revision | ownAddress | mode | restartPending | cursor | rescanInProgress | rescanPosition => cases written
  | pollInterval =>
    obtain ⟨y, inside, rfl⟩ := Option.map_eq_some_iff.mp written
    exact ⟨within_of_inRange inside, window, misses⟩
  | replyWindow =>
    obtain ⟨y, inside, rfl⟩ := Option.map_eq_some_iff.mp written
    exact ⟨poll, within_of_inRange inside, misses⟩
  | missLimit =>
    obtain ⟨y, inside, rfl⟩ := Option.map_eq_some_iff.mp written
    exact ⟨poll, window, within_of_inRange inside⟩
  | _ =>
    obtain ⟨y, inside, rfl⟩ := Option.map_eq_some_iff.mp written
    exact ⟨poll, window, misses⟩

theorem Sensor.write_configSound {r x : Sensor} {f : SensorField} {v : Nat} (written : r.write f v = some x)
    (sound : within 1 120 r.staleTimeout) : within 1 120 x.staleTimeout := by
  cases f with
  | used =>
    obtain ⟨y, _, rfl⟩ := Option.map_eq_some_iff.mp written
    split <;> exact sound
  | source =>
    obtain ⟨y, _, rfl⟩ := Option.map_eq_some_iff.mp written
    split
    · exact sound
    · split <;> exact sound
  | staleTimeout =>
    obtain ⟨y, inside, rfl⟩ := Option.map_eq_some_iff.mp written
    exact within_of_inRange inside
  | _ => cases written

theorem PulseInput.write_configSound {r x : PulseInput} {f : PulseField} {v : Nat} {now : Time}
    (written : r.write f v now = some x) (sound : r.configSound) : x.configSound := by
  obtain ⟨length, scale⟩ := sound
  cases f with
  | enable =>
    obtain ⟨y, _, rfl⟩ := Option.map_eq_some_iff.mp written
    split
    · exact ⟨length, scale⟩
    · split <;> exact ⟨length, scale⟩
  | gateLength =>
    simp only [PulseInput.write, Option.ite_none_right_eq_some, Option.some.injEq] at written
    obtain ⟨listed, rfl⟩ := written
    exact ⟨by simpa using listed, scale⟩
  | scale =>
    obtain ⟨y, inside, rfl⟩ := Option.map_eq_some_iff.mp written
    exact ⟨length, within_of_inRange inside⟩
  | _ => cases written

theorem Portal.write_configSound {r x : Portal} {f : PortalField} {v : Nat} (written : r.write f v = some x)
    (sound : r.configSound) : x.configSound := by
  obtain ⟨tolerance, fallback, hold, ceiling, interior, pass, ramp, rise, fall, deadband, refresh⟩ := sound
  cases f with
  | used =>
    obtain ⟨y, _, rfl⟩ := Option.map_eq_some_iff.mp written
    split
    · exact ⟨tolerance, fallback, hold, ceiling, interior, pass, ramp, rise, fall, deadband, refresh⟩
    · split <;> exact ⟨tolerance, fallback, hold, ceiling, interior, pass, ramp, rise, fall, deadband, refresh⟩
  | bore | mainSensor | reserveSensor | initialSpeed | initialTraffic =>
    obtain ⟨y, _, rfl⟩ := Option.map_eq_some_iff.mp written
    exact ⟨tolerance, fallback, hold, ceiling, interior, pass, ramp, rise, fall, deadband, refresh⟩
  | tolerance =>
    obtain ⟨y, inside, rfl⟩ := Option.map_eq_some_iff.mp written
    exact ⟨le_of_inRange inside, fallback, hold, ceiling, interior, pass, ramp, rise, fall, deadband, refresh⟩
  | fallbackLuminance =>
    obtain ⟨y, inside, rfl⟩ := Option.map_eq_some_iff.mp written
    exact ⟨tolerance, le_of_inRange inside, hold, ceiling, interior, pass, ramp, rise, fall, deadband, refresh⟩
  | holdTime =>
    obtain ⟨y, inside, rfl⟩ := Option.map_eq_some_iff.mp written
    exact ⟨tolerance, fallback, le_of_inRange inside, ceiling, interior, pass, ramp, rise, fall, deadband, refresh⟩
  | ceiling =>
    simp only [Portal.write, Option.ite_none_left_eq_some] at written
    obtain ⟨y, inside, rfl⟩ := Option.map_eq_some_iff.mp written.2
    exact ⟨tolerance, fallback, hold, within_of_inRange inside, interior, pass, ramp, rise, fall, deadband, refresh⟩
  | interior =>
    simp only [Portal.write, Option.ite_none_left_eq_some] at written
    obtain ⟨y, inside, rfl⟩ := Option.map_eq_some_iff.mp written.2
    exact ⟨tolerance, fallback, hold, ceiling, within_of_inRange inside, pass, ramp, rise, fall, deadband, refresh⟩
  | passPeriod =>
    obtain ⟨y, inside, rfl⟩ := Option.map_eq_some_iff.mp written
    exact ⟨tolerance, fallback, hold, ceiling, interior, within_of_inRange inside, ramp, rise, fall, deadband, refresh⟩
  | rampPeriod =>
    obtain ⟨y, inside, rfl⟩ := Option.map_eq_some_iff.mp written
    exact ⟨tolerance, fallback, hold, ceiling, interior, pass, within_of_inRange inside, rise, fall, deadband, refresh⟩
  | riseStep =>
    obtain ⟨y, inside, rfl⟩ := Option.map_eq_some_iff.mp written
    exact ⟨tolerance, fallback, hold, ceiling, interior, pass, ramp, within_of_inRange inside, fall, deadband, refresh⟩
  | fallStep =>
    obtain ⟨y, inside, rfl⟩ := Option.map_eq_some_iff.mp written
    exact ⟨tolerance, fallback, hold, ceiling, interior, pass, ramp, rise, within_of_inRange inside, deadband, refresh⟩
  | deadband =>
    obtain ⟨y, inside, rfl⟩ := Option.map_eq_some_iff.mp written
    exact ⟨tolerance, fallback, hold, ceiling, interior, pass, ramp, rise, fall, le_of_inRange inside, refresh⟩
  | refreshInterval =>
    obtain ⟨y, inside, rfl⟩ := Option.map_eq_some_iff.mp written
    exact ⟨tolerance, fallback, hold, ceiling, interior, pass, ramp, rise, fall, deadband, within_of_inRange inside⟩
  | _ => cases written

theorem length_of_mapM_eq_some {α β : Type} {f : α → Option β} {l : List α} {m : List β} (mapped : l.mapM f = some m) :
    m.length = l.length := by
  induction l generalizing m with
  | nil => simp_all
  | cons x l ih =>
    simp only [List.mapM_cons, Option.bind_eq_bind, Option.bind_eq_some_iff] at mapped
    obtain ⟨y, _, ys, rest, whole⟩ := mapped
    cases whole
    simp [ih rest]

/-- A stage list has a place for each byte of its value. -/
theorem stageListOf_length {v : Word} {l : List (Fin 48)} (listed : stageListOf v = some l) : l.length ≤ 4 := by
  simp only [stageListOf, Option.ite_none_right_eq_some] at listed
  have placed : l.length = (((wordBytes v).map (·.toNat)).takeWhile (· != 255)).length :=
    length_of_mapM_eq_some listed.2
  calc l.length = (((wordBytes v).map (·.toNat)).takeWhile (· != 255)).length := placed
    _ ≤ ((wordBytes v).map (·.toNat)).length := (List.takeWhile_sublist _).length_le
    _ = 4 := by rw [List.length_map]; rfl

theorem State.writeZone_configSound {s : State} {i : Fin 32} {f : ZoneField} {v : Word} {x : Zone}
    (written : s.writeZone i f v = some x) (sound : s.zones[i].configSound) : x.configSound := by
  obtain ⟨position, stages, ratio, hysteresis⟩ := sound
  cases f with
  | used =>
    obtain ⟨y, _, rfl⟩ := Option.map_eq_some_iff.mp written
    split <;> exact ⟨position, stages, ratio, hysteresis⟩
  | portal | reserve =>
    obtain ⟨y, _, rfl⟩ := Option.map_eq_some_iff.mp written
    exact ⟨position, stages, ratio, hysteresis⟩
  | position =>
    obtain ⟨y, inside, rfl⟩ := Option.map_eq_some_iff.mp written
    exact ⟨within_of_inRange inside, stages, ratio, hysteresis⟩
  | stageList =>
    obtain ⟨y, listed, rfl⟩ := Option.map_eq_some_iff.mp written
    exact ⟨position, stageListOf_length listed, ratio, hysteresis⟩
  | ratio =>
    simp only [State.writeZone, Option.ite_none_left_eq_some] at written
    obtain ⟨y, inside, rfl⟩ := Option.map_eq_some_iff.mp written.2
    exact ⟨position, stages, le_of_inRange inside, hysteresis⟩
  | hysteresis =>
    obtain ⟨y, inside, rfl⟩ := Option.map_eq_some_iff.mp written
    exact ⟨position, stages, ratio, le_of_inRange inside⟩
  | _ => cases written

theorem State.writeGroup_configSound {s : State} {g : Fin 48} {f : GroupField} {v : Nat} {x : Group}
    (written : s.writeGroup g f v = some x) (sound : s.groups[g].configSound) : x.configSound := by
  obtain ⟨address, rated, dmin, depreciation, floor⟩ := sound
  cases f with
  | used =>
    obtain ⟨y, _, rfl⟩ := Option.map_eq_some_iff.mp written
    unfold Group.setUsed
    split <;> exact ⟨address, rated, dmin, depreciation, floor⟩
  | owner =>
    obtain ⟨y, _, rfl⟩ := Option.map_eq_some_iff.mp written
    unfold Group.setOwner
    split <;> exact ⟨address, rated, dmin, depreciation, floor⟩
  | burnHours =>
    obtain ⟨y, _, rfl⟩ := Option.map_eq_some_iff.mp written
    exact ⟨address, rated, dmin, depreciation, floor⟩
  | groupAddress =>
    obtain ⟨y, inside, rfl⟩ := Option.map_eq_some_iff.mp written
    exact ⟨within_ofNat_of_inRange inside (by decide), rated, dmin, depreciation, floor⟩
  | rated =>
    obtain ⟨y, inside, rfl⟩ := Option.map_eq_some_iff.mp written
    exact ⟨address, within_of_inRange inside, dmin, depreciation, floor⟩
  | dmin =>
    simp only [State.writeGroup, Option.ite_none_left_eq_some] at written
    obtain ⟨y, inside, rfl⟩ := Option.map_eq_some_iff.mp written.2
    exact ⟨address, rated, within_of_inRange inside, depreciation, floor⟩
  | depreciation =>
    obtain ⟨y, inside, rfl⟩ := Option.map_eq_some_iff.mp written
    exact ⟨address, rated, dmin, le_of_inRange inside, floor⟩
  | mfFloor =>
    obtain ⟨y, inside, rfl⟩ := Option.map_eq_some_iff.mp written
    exact ⟨address, rated, dmin, depreciation, within_of_inRange inside⟩
  | _ => cases written

theorem Driver.write_configSound {r x : Driver} {f : DriverField} {v : Nat} (written : r.write f v = some x)
    (sound : within 1 183 r.address.toNat) : within 1 183 x.address.toNat := by
  have renewed : ∀ r : Driver, r.renewed.address = r.address := fun r => by unfold Driver.renewed; split <;> rfl
  cases f with
  | used =>
    obtain ⟨y, _, rfl⟩ := Option.map_eq_some_iff.mp written
    split <;> exact sound
  | lineAddress =>
    obtain ⟨y, inside, rfl⟩ := Option.map_eq_some_iff.mp written
    split
    · exact sound
    · rw [renewed]
      exact within_ofNat_of_inRange inside (by decide)
  | group =>
    obtain ⟨y, _, rfl⟩ := Option.map_eq_some_iff.mp written
    split
    · exact sound
    · rw [renewed]
      exact sound
  | _ => cases written

/-- An accepted SET writes a value of its range (R168). -/
theorem configSound_write {s after : State} {t : Target} {v : Word} (written : s.write t v = some after) (sound : s.configSound) :
    after.configSound := by
  obtain ⟨sensors, pulses, portals, kTable, zones, groups, drivers, device⟩ := sound
  cases t with
  | device f =>
    obtain ⟨x, record, rfl⟩ := Option.map_eq_some_iff.mp written
    exact ⟨sensors, pulses, portals, kTable, zones, groups, drivers, Device.write_configSound record device⟩
  | accept i f | counter i f =>
    obtain ⟨x, record, rfl⟩ := Option.map_eq_some_iff.mp written
    exact ⟨sensors, pulses, portals, kTable, zones, groups, drivers, device⟩
  | sensor i f =>
    obtain ⟨x, record, rfl⟩ := Option.map_eq_some_iff.mp written
    exact ⟨updAt_forall (P := fun r : Sensor => within 1 120 r.staleTimeout) _ i _ sensors
      (Sensor.write_configSound record (sensors i)), pulses, portals, kTable, zones, groups, drivers, device⟩
  | pulse n f =>
    obtain ⟨x, record, rfl⟩ := Option.map_eq_some_iff.mp written
    exact ⟨sensors, updAt_forall (P := PulseInput.configSound) _ n _ pulses (PulseInput.write_configSound record (pulses n)),
      portals, kTable, zones, groups, drivers, device⟩
  | portal p f =>
    obtain ⟨x, record, rfl⟩ := Option.map_eq_some_iff.mp written
    exact ⟨sensors, pulses, updAt_forall (P := Portal.configSound) _ p _ portals (Portal.write_configSound record (portals p)),
      kTable, zones, groups, drivers, device⟩
  | kTable i =>
    obtain ⟨x, inside, rfl⟩ := Option.map_eq_some_iff.mp written
    exact ⟨sensors, pulses, portals, updAt_forall (P := (· ≤ 2000)) _ i _ kTable (le_of_inRange inside), zones, groups, drivers,
      device⟩
  | zone i f =>
    obtain ⟨x, record, rfl⟩ := Option.map_eq_some_iff.mp written
    exact ⟨sensors, pulses, portals, kTable,
      updAt_forall (P := Zone.configSound) _ i _ zones (State.writeZone_configSound record (zones i)), groups, drivers, device⟩
  | group g f =>
    obtain ⟨x, record, rfl⟩ := Option.map_eq_some_iff.mp written
    exact ⟨sensors, pulses, portals, kTable, zones,
      updAt_forall (P := Group.configSound) _ g _ groups (State.writeGroup_configSound record (groups g)), drivers, device⟩
  | driver d f =>
    obtain ⟨x, record, rfl⟩ := Option.map_eq_some_iff.mp written
    exact ⟨sensors, pulses, portals, kTable, zones, groups,
      updAt_forall (P := fun r : Driver => within 1 183 r.address.toNat) _ d _ drivers
        (Driver.write_configSound record (drivers d)), device⟩
  | flags set f => cases written

/-! ### Ranges of the part -/

/-- The ranges are those of the configuration. -/
theorem configSound_iff (s : State) : s.configSound ↔ s.configuration.configSound := by
  simp [State.configSound, State.configuration, Portal.configSound, Sensor.config, PulseInput.config, Portal.config, Zone.config,
    Group.config, Driver.config]

theorem configSound_of_configuration {s t : State} (same : t.configuration = s.configuration) (sound : s.configSound) :
    t.configSound := by
  rw [configSound_iff, same, ← configSound_iff]
  exact sound

theorem configSound_powerOn (addr : BitVec 4) (rate : BitVec 2) : (State.powerOn addr rate).configSound := by
  simp [State.configSound, State.powerOn, within, Portal.configSound, Portal.reset, Zone.reset, Group.reset, Driver.reset,
    Sensor.reset, PulseInput.reset, Device.reset]

theorem kept_configSound : Kept State.configSound :=
  .of_configuration (fun same => configSound_of_configuration same.1) configSound_powerOn
    (fun s _ => configSound_of_configuration (configuration_enterRunning s))
    fun _ written _ => configSound_write written

/-- Settles O59: only an accepted SET changes the configuration, and it writes a value of the field's range. -/
theorem stepKeepsConfigurationInRange : Obligations.StepKeepsConfigurationInRange :=
  fun _ _ sound answers => kept_configSound.step answers sound

end Sys2Proof.Machine

/-! SUPPORT. Every step keeps every sensor record as its state says (R54 to R61). -/

namespace Sys2Proof.Machine

set_option Elab.async false

/-! ### Samples and histories -/

/-- A sample kept holds at most 20,000 cd/m² (R55, R69). -/
theorem clampSample_luminance (l : Nat) (saturated : Bool) (origin : Origin) : (clampSample l saturated origin).luminance ≤ 20000 := by
  unfold clampSample
  split
  · exact Nat.le_refl 20000
  · next below => exact Nat.le_of_not_lt below

theorem Candidate.judge_luminance {c : Candidate} {x : Sample} (good : c.judge = some x) : x.luminance ≤ 20000 := by
  unfold Candidate.judge at good
  split at good
  · cases good
  · split at good
    · obtain ⟨l, _, rfl⟩ := Option.map_eq_some_iff.mp good
      exact clampSample_luminance _ _ _
    · cases good

theorem PulseInput.gateSample_luminance {r : PulseInput} {n : Fin 4} {g : Nat} {reference : Option (BitVec 48)} {x : Sample}
    (made : r.gateSample n g reference = some x) : x.luminance ≤ 20000 := by
  unfold PulseInput.gateSample at made
  split at made
  · cases made
    exact clampSample_luminance _ _ _
  · split at made
    · cases made
    · split at made
      · cases made
        exact clampSample_luminance _ _ _
      · cases made

theorem joinHistory_length (h : List Sample) (x : Sample) (short : h.length ≤ 5) : (joinHistory h x).length ≤ 5 := by
  unfold joinHistory
  split <;> simp <;> omega

theorem joinHistory_ne_nil (h : List Sample) (x : Sample) : joinHistory h x ≠ [] := by
  unfold joinHistory
  split
  · simp
  · apply List.ne_nil_of_length_pos
    rw [List.length_drop, List.length_append, List.length_singleton]
    omega

theorem mem_joinHistory {h : List Sample} {x y : Sample} (joined : y ∈ joinHistory h x) : y ∈ h ∨ y = x := by
  unfold joinHistory at joined
  split at joined
  · simpa using joined
  · simpa using List.mem_of_mem_drop joined

/-! ### One sensor -/

/-- A good sample keeps the record sound (R57, R58, R60). -/
theorem Sensor.sound_takeGood {r : Sensor} (now : Time) {x : Sample} (bound : x.luminance ≤ 20000) (sound : r.sound) :
    (r.takeGood now x).sound := by
  obtain ⟨unused, short, bounds, history, timer, counts⟩ := sound
  unfold Sensor.takeGood
  cases state : r.state with
  | unused => exact ⟨unused, short, bounds, history, timer, counts⟩
  | wait | stale =>
    simp only [state, reduceCtorEq, ↓reduceIte] at counts
    obtain ⟨_, good, probation⟩ := counts
    simp_all [Sensor.sound]
  | valid =>
    simp only [state, reduceCtorEq, ↓reduceIte] at counts
    obtain ⟨_, good, probation⟩ := counts
    have joined : ∀ y ∈ joinHistory r.history x, y.luminance ≤ 20000 := fun y hy => by
      rcases mem_joinHistory hy with old | rfl
      · exact bounds y (List.mem_append_left _ old)
      · exact bound
    simp_all [Sensor.sound, joinHistory_length, joinHistory_ne_nil]
  | fault =>
    simp only [state, ↓reduceIte] at counts
    obtain ⟨rejects, good, probation⟩ := counts
    have collected : ∀ y ∈ r.probation ++ [x], y.luminance ≤ 20000 := fun y hy => by
      rcases List.mem_append.mp hy with old | new
      · exact bounds y (List.mem_append_right _ old)
      · rw [List.mem_singleton.mp new]
        exact bound
    dsimp only
    split
    · simp_all [Sensor.sound]
    · simp_all [Sensor.sound]
      omega

/-- A rejected sample keeps the record sound (R59, R60). -/
theorem Sensor.sound_takeReject {r : Sensor} (sound : r.sound) : r.takeReject.sound := by
  obtain ⟨unused, short, bounds, history, timer, counts⟩ := sound
  unfold Sensor.takeReject
  cases state : r.state with
  | unused => exact ⟨unused, short, bounds, history, timer, counts⟩
  | wait | stale | valid =>
    simp only [state, reduceCtorEq, ↓reduceIte] at counts
    obtain ⟨_, good, probation⟩ := counts
    dsimp only
    split
    · simp_all [Sensor.sound]
    · simp_all [Sensor.sound]
      try omega
  | fault =>
    simp only [state, ↓reduceIte] at counts
    simp_all [Sensor.sound]

/-- The record an age expiry leaves (R61). -/
theorem Sensor.sound_stale {r : Sensor} {t : Time} (running : r.ageTimer = some t) (sound : r.sound) :
    ({ r with state := .stale, history := [], ageTimer := none } : Sensor).sound := by
  obtain ⟨unused, short, bounds, history, timer, counts⟩ := sound
  have valid : r.state = .valid := timer.mpr (by rw [running]; rfl)
  simp_all [Sensor.sound]

/-- An emptied record is sound in WAIT when it is used, and in UNUSED when it is not (R52, R72). -/
theorem Sensor.sound_emptied (r : Sensor) (used : Bool) (source : Source) :
    ({ r.emptied (if used then .wait else .unused) with used := used, source := source } : Sensor).sound := by
  cases used <;> simp [Sensor.sound, Sensor.emptied]

theorem Sensor.sound_write {r x : Sensor} {f : SensorField} {v : Nat} (written : r.write f v = some x) (sound : r.sound) :
    x.sound := by
  cases f with
  | used =>
    obtain ⟨y, _, rfl⟩ := Option.map_eq_some_iff.mp written
    split
    · exact sound
    · exact r.sound_emptied y r.source
  | source =>
    obtain ⟨y, _, rfl⟩ := Option.map_eq_some_iff.mp written
    split
    · exact sound
    · split
      · next used => simpa [used, Sensor.emptied] using r.sound_emptied r.used y
      · exact sound
  | staleTimeout =>
    obtain ⟨y, _, rfl⟩ := Option.map_eq_some_iff.mp written
    exact sound
  | _ => cases written

/-! ### The sensor table -/

section
variable {s t : State}

theorem sensorsSound_of_eq (same : t.sensors = s.sensors) (sound : s.sensorsSound) : t.sensorsSound := by
  unfold State.sensorsSound
  rw [same]
  exact sound

theorem sensors_of_exceptRegulation (h : t.exceptRegulation = s.exceptRegulation) : t.sensors = s.sensors :=
  (congrArg (fun u : State => u.sensors) h :)

theorem sensors_of_exceptPolling (h : t.exceptPolling = s.exceptPolling) : t.sensors = s.sensors :=
  (congrArg (fun u : State => u.sensors) h :)

theorem sensorsSound_updAt (i : Fin 8) {f : Sensor → Sensor} (keeps : (s.sensors[i]).sound → (f s.sensors[i]).sound)
    (sound : s.sensorsSound) : ({ s with sensors := updAt s.sensors i f } : State).sensorsSound :=
  updAt_forall (P := Sensor.sound) s.sensors i f sound (keeps (sound i))

theorem sensorsSound_sensorGood (i : Fin 8) {x : Sample} (bound : x.luminance ≤ 20000) (sound : s.sensorsSound) :
    (s.sensorGood i x).sensorsSound :=
  sensorsSound_updAt i (Sensor.sound_takeGood s.now bound) sound

theorem sensorsSound_sensorReject (i : Fin 8) (sound : s.sensorsSound) : (s.sensorReject i).sensorsSound := by
  have taken : ({ s with sensors := updAt s.sensors i (·.takeReject) } : State).sensorsSound :=
    sensorsSound_updAt i Sensor.sound_takeReject sound
  unfold State.sensorReject
  dsimp only
  split
  · exact sensorsSound_of_eq (foldl_keeps (fun u : State => u.sensors) _ (fun t p => State.portalEvent_sensors t p _ _ _) _ _)
      (sensorsSound_of_eq (by simp) taken)
  · exact sensorsSound_of_eq (by simp) taken

theorem sensorsSound_offerCandidate (i : Fin 8) (c : Candidate) (sound : s.sensorsSound) :
    (s.offerCandidate i c).sensorsSound := by
  unfold State.offerCandidate
  split
  · split
    · next x good => exact sensorsSound_sensorGood i (Candidate.judge_luminance good) sound
    · exact sensorsSound_sensorReject i sound
  · exact sound

theorem sensorsSound_ageExpiry (i : Fin 8) (sound : s.sensorsSound) : (s.ageExpiry i).sensorsSound := by
  unfold State.ageExpiry
  split
  · exact sound
  · next t running =>
    have stale := sensorsSound_updAt (s := s.reach t) i
      (f := fun r => { r with state := .stale, history := [], ageTimer := none }) (Sensor.sound_stale running) sound
    dsimp only
    split
    · exact stale
    · exact stale

theorem sensorsSound_gateExpiry (n : Fin 4) (sound : s.sensorsSound) : (s.gateExpiry n).sensorsSound := by
  unfold State.gateExpiry
  split
  · exact sound
  · dsimp only
    split
    · exact sound
    · next x made =>
      exact foldl_inv _ (fun t i => sensorsSound_sensorGood i (PulseInput.gateSample_luminance made)) _ _ sound

theorem sensorsSound_write {after : State} {target : Target} {v : Word} (written : s.write target v = some after)
    (sound : s.sensorsSound) : after.sensorsSound := by
  cases target with
  | sensor i f =>
    obtain ⟨x, record, rfl⟩ := Option.map_eq_some_iff.mp written
    exact sensorsSound_updAt i (Sensor.sound_write record) sound
  | flags set f => cases written
  | _ =>
    obtain ⟨x, _, rfl⟩ := Option.map_eq_some_iff.mp written
    exact sound

end

section
variable (s : State)

@[simp] theorem sensors_offerPoll (d : Fin 160) (o : PollOrigin) : (s.offerPoll d o).sensors = s.sensors :=
  sensors_of_exceptPolling (exceptPolling_offerPoll s d o)

@[simp] theorem sensors_rescanOffer : s.rescanOffer.sensors = s.sensors := sensors_of_exceptPolling (exceptPolling_rescanOffer s)

@[simp] theorem sensors_enterRunning : s.enterRunning.sensors = s.sensors := by
  have started (t : State) (p : Fin 4) : (if t.portals[p].used then t.startPortal p else t).sensors = t.sensors := by
    split
    · exact sensors_of_exceptRegulation (exceptRegulation_startPortal t p)
    · rfl
  unfold State.enterRunning State.rescanStart
  refine (sensors_rescanOffer _).trans ?_
  dsimp only
  rw [foldl_keeps (fun u : State => u.sensors) _ started]
  simp only [State.driversUnknown]

theorem sensors_restartNow (i : Fin 8) :
    s.restartNow.sensors[i] = if s.sensors[i].used then s.sensors[i].emptied .wait else s.sensors[i] :=
  updAll_get s.sensors _ i

theorem sensorsSound_restartNow (sound : s.sensorsSound) : s.restartNow.sensorsSound := by
  intro i
  rw [sensors_restartNow]
  split
  · next used =>
    have emptied := Sensor.sound_emptied s.sensors[i] s.sensors[i].used s.sensors[i].source
    rw [if_pos used] at emptied
    exact emptied
  · exact sound i

/-- No request but a SET changes a sensor record. -/
theorem sensorsSound_effect {s t : State} (did : Effect s t) (sound : s.sensorsSound) : t.sensorsSound := by
  cases did with
  | quiet same => exact sensorsSound_of_eq (congrArg (fun u : State => u.sensors) same.lawful :) sound
  | set _ _ written _ => exact sensorsSound_write written sound
  | activate => exact sensorsSound_of_eq (sensors_enterRunning s) sound
  | deactivate => exact sound
  | standby p => exact sound
  | resume p => exact sensorsSound_of_eq (sensors_of_exceptRegulation (exceptRegulation_startPortal s p)) sound
  | forceZone z k l => exact sensorsSound_of_eq (sensors_of_exceptRegulation (exceptRegulation_forceZone s z k _ _)) sound
  | forcePortal p k l => exact sensorsSound_of_eq (sensors_of_exceptRegulation (exceptRegulation_forcePortal s p k _)) sound
  | releaseZone z => exact sound
  | releasePortal p => exact sound
  | rescan => exact sensorsSound_of_eq (sensors_of_exceptPolling (exceptPolling_rescanStart s)) sound

/-! ### Commands that touch no sensor -/

@[simp] theorem sensors_captureTraffic (pl : List Byte) : (s.captureTraffic pl).sensors = s.sensors := by
  unfold State.captureTraffic
  split <;> simp

@[simp] theorem sensors_offerPassF (f : Frame) : (s.offerPassF f).sensors = s.sensors := by
  unfold State.offerPassF
  split <;> simp

@[simp] theorem sensors_pollExpiry : s.pollExpiry.sensors = s.sensors := by
  unfold State.pollExpiry
  split
  · rfl
  · dsimp only
    split
    · rfl
    · exact sensors_rescanOffer _
    · split
      · rfl
      · exact sensors_offerPoll _ _ _

@[simp] theorem sensors_pulseEdge (n : Fin 4) : (s.pulseEdge n).sensors = s.sensors := by
  unfold State.pulseEdge
  split <;> rfl

@[simp] theorem sensors_pass (p : Fin 4) (a b : Bool) : (s.pass p a b).sensors = s.sensors :=
  sensors_of_exceptRegulation (exceptRegulation_pass s p a b)

@[simp] theorem sensors_passExpiry (p : Fin 4) : (s.passExpiry p).sensors = s.sensors := by
  unfold State.passExpiry
  split
  · rfl
  · exact sensors_pass _ p _ _

@[simp] theorem sensors_holdExpiry (p : Fin 4) : (s.holdExpiry p).sensors = s.sensors := by
  unfold State.holdExpiry
  split
  · rfl
  · exact sensors_pass _ p _ _

@[simp] theorem sensors_rampExpiry (p : Fin 4) : (s.rampExpiry p).sensors = s.sensors := by
  unfold State.rampExpiry
  split
  · rfl
  · exact foldl_keeps (fun u : State => u.sensors) _
      (fun t z => sensors_of_exceptRegulation (exceptRegulation_rampZone t p z)) _ _

@[simp] theorem sensors_startF (e : FEntry) (rest : List FEntry) : (s.startF e rest).sensors = s.sensors := by
  unfold State.startF State.clearPending
  dsimp only
  split <;> simp

@[simp] theorem sensors_secondExpiry : s.secondExpiry.sensors = s.sensors := by
  unfold State.secondExpiry
  simp

end

theorem sensorsSound_powerOn (addr : BitVec 4) (rate : BitVec 2) : (State.powerOn addr rate).sensorsSound := by
  simp [State.sensorsSound, State.powerOn, Sensor.sound, Sensor.reset]

theorem kept_sensorsSound : Kept State.sensorsSound where
  quiet same := sensorsSound_of_eq (congrArg (fun u : State => u.sensors) same :)
  powerOn := sensorsSound_powerOn
  offerCandidate _ i c := sensorsSound_offerCandidate i c
  captureTraffic s pl := sensorsSound_of_eq (sensors_captureTraffic s pl)
  snoop s d c l := sensorsSound_of_eq (sensors_of_exceptPolling (exceptPolling_snoop s d c l))
  offerPassF s f := sensorsSound_of_eq (sensors_offerPassF s f)
  effect := sensorsSound_effect
  chargeMiss s d o := sensorsSound_of_eq (sensors_of_exceptPolling (exceptPolling_chargeMiss s d o))
  scanWindowEnded s d := sensorsSound_of_eq (sensors_of_exceptPolling (exceptPolling_scanWindowEnded s d))
  pollExpiry s := sensorsSound_of_eq (sensors_pollExpiry s)
  ageExpiry _ i := sensorsSound_ageExpiry i
  pulseEdge s n := sensorsSound_of_eq (sensors_pulseEdge s n)
  gateExpiry _ n := sensorsSound_gateExpiry n
  passExpiry s p := sensorsSound_of_eq (sensors_passExpiry s p)
  holdExpiry s p := sensorsSound_of_eq (sensors_holdExpiry s p)
  rampExpiry s p := sensorsSound_of_eq (sensors_rampExpiry s p)
  startF s e rest _ := sensorsSound_of_eq (sensors_startF s e rest)
  restartNow := sensorsSound_restartNow
  secondExpiry s := sensorsSound_of_eq (sensors_secondExpiry s)

/-- Settles O55: a sensor record is changed by its samples, its age timer, a SET and RESTART alone, and each keeps it sound. -/
theorem stepKeepsSensorsSound : Obligations.StepKeepsSensorsSound := fun _ _ sound answers => kept_sensorsSound.step answers sound

end Sys2Proof.Machine

/-! SUPPORT. The on set of a zone, and why no selection, handover, ramp step or override raises a level above 1,000: every step keeps the
levels within range (R34, R115, R122). -/

namespace Sys2Proof.Machine

set_option Elab.async false

/-! ### Sums of lists -/

theorem sum_le_of_sublist {l m : List Nat} (sub : l.Sublist m) : l.sum ≤ m.sum := by
  induction sub with
  | slnil => exact Nat.le_refl _
  | cons x _ ih =>
    rw [List.sum_cons]
    omega
  | cons_cons x _ ih =>
    rw [List.sum_cons, List.sum_cons]
    omega

section
variable {α : Type} {f : α → Nat} {l : List α} {x y : α}

theorem le_sum_of_mem (member : x ∈ l) : f x ≤ (l.map f).sum := by
  induction l with
  | nil => cases member
  | cons z l ih =>
    rw [List.map_cons, List.sum_cons]
    rcases List.mem_cons.mp member with rfl | later
    · exact Nat.le_add_right _ _
    · exact Nat.le_trans (ih later) (Nat.le_add_left _ _)

theorem add_le_sum_of_mem (inX : x ∈ l) (inY : y ∈ l) (differ : x ≠ y) : f x + f y ≤ (l.map f).sum := by
  induction l with
  | nil => cases inX
  | cons z l ih =>
    rw [List.map_cons, List.sum_cons]
    rcases List.mem_cons.mp inX with rfl | laterX <;> rcases List.mem_cons.mp inY with rfl | laterY
    · exact absurd rfl differ
    · exact Nat.add_le_add_left (le_sum_of_mem laterY) _
    · rw [Nat.add_comm]
      exact Nat.add_le_add_left (le_sum_of_mem laterX) _
    · exact Nat.le_trans (ih laterX laterY) (Nat.le_add_left _ _)

end

/-! ### The on set -/

section
variable (z y : Zone)

theorem Zone.isOn_setOn (p q : Place) (b : Bool) : (z.setOn p b).isOn q = if p = q then b else z.isOn q := by
  cases p with
  | reserve => cases q <;> simp [Zone.setOn, Zone.isOn]
  | stage n =>
    cases q with
    | reserve => simp [Zone.setOn, Zone.isOn]
    | stage m => simp [Zone.setOn, Zone.isOn, Vector.getElem_set, Fin.ext_iff]

@[simp] theorem Zone.setOn_stages (p : Place) (b : Bool) : (z.setOn p b).stages = z.stages := by cases p <;> rfl
@[simp] theorem Zone.setOn_reserve (p : Place) (b : Bool) : (z.setOn p b).reserve = z.reserve := by cases p <;> rfl
@[simp] theorem Zone.setOn_dCmd (p : Place) (b : Bool) : (z.setOn p b).dCmd = z.dCmd := by cases p <;> rfl
@[simp] theorem Zone.setOn_dTarget (p : Place) (b : Bool) : (z.setOn p b).dTarget = z.dTarget := by cases p <;> rfl
@[simp] theorem Zone.setOn_override (p : Place) (b : Bool) : (z.setOn p b).override = z.override := by cases p <;> rfl

variable {z y}

/-- The slots of a zone are those of its stage list and its reserve. -/
theorem Zone.places_congr (stages : y.stages = z.stages) (reserve : y.reserve = z.reserve) : y.places = z.places := by
  unfold Zone.places
  rw [stages, reserve]

/-- The same slots, and every stage that was on is on. -/
structure Zone.GrowsTo (z y : Zone) : Prop where
  stages : y.stages = z.stages
  reserve : y.reserve = z.reserve
  on : ∀ p, z.isOn p = true → y.isOn p = true

theorem Zone.GrowsTo.refl (z : Zone) : z.GrowsTo z := ⟨rfl, rfl, fun _ => id⟩

theorem Zone.GrowsTo.trans {x : Zone} (first : z.GrowsTo y) (second : y.GrowsTo x) : z.GrowsTo x :=
  ⟨second.stages.trans first.stages, second.reserve.trans first.reserve, fun p on => second.on p (first.on p on)⟩

theorem Zone.growsTo_setOn (z : Zone) (p : Place) : z.GrowsTo (z.setOn p true) where
  stages := by simp
  reserve := by simp
  on q on := by rw [Zone.isOn_setOn]; split <;> simp [on]

/-- S_on rises with the on set. -/
theorem Zone.GrowsTo.sOn_le (grows : z.GrowsTo y) (sg : Fin 48 → Nat) : z.sOn sg ≤ y.sOn sg := by
  unfold Zone.sOn
  rw [Zone.places_congr grows.stages grows.reserve]
  have fewer : (z.places.filter fun p => z.isOn p.1) = (z.places.filter fun p => y.isOn p.1).filter fun p => z.isOn p.1 := by
    rw [List.filter_filter]
    refine List.filter_congr fun p _ => ?_
    cases on : z.isOn p.1 with
    | false => rfl
    | true => rw [grows.on p.1 on, Bool.and_self]
  rw [fewer]
  exact sum_le_of_sublist (List.filter_sublist.map _)

theorem Zone.growsTo_addStages (z : Zone) (sg : Fin 48 → Nat) (eligible : Bool) (lz : Nat) :
    z.GrowsTo (z.addStages sg eligible lz) := by
  unfold Zone.addStages
  refine foldl_inv (P := z.GrowsTo) _ (fun y p grows => ?_) _ _ (.refl z)
  split
  · exact grows.trans (y.growsTo_setOn p.1)
  · exact grows

theorem Zone.growsTo_allStages (z : Zone) (reserveOn : Bool) (keeps : z.onReserve = true → reserveOn = true) :
    z.GrowsTo (z.allStages reserveOn) where
  stages := rfl
  reserve := rfl
  on p on := by
    cases p with
    | stage n => simp_all [Zone.isOn, Zone.allStages]
    | reserve => exact keeps on

end

/-! ### Bounds on levels -/

/-- Every group's minimum level is at most 500 (Table 6-2). -/
def dminSound (groups : Vector Group 48) : Prop := ∀ g : Fin 48, groups[g].dmin ≤ 500

theorem Zone.dminOn_le (z : Zone) {groups : Vector Group 48} (sound : dminSound groups) : z.dminOn groups ≤ 500 := by
  unfold Zone.dminOn
  split
  · decide
  · exact foldl_inv (P := (· ≤ 500)) _ (fun m q h => Nat.max_le.mpr ⟨h, sound q.2⟩) _ _ (sound _)

/-- The handover lowers the commanded level or sets the minimum, as S_on does not fall. -/
theorem handoverOn_le {dOld sOld sNew dmin : Nat} (level : dOld ≤ 1000) (grows : sOld ≤ sNew) (minimum : dmin ≤ 500) :
    handoverOn dOld sOld sNew dmin ≤ 1000 := by
  unfold handoverOn
  split
  · omega
  · refine Nat.max_le.mpr ⟨by omega, ?_⟩
    calc dOld * sOld / sNew ≤ dOld := Nat.div_le_of_le_mul (Nat.mul_comm sNew dOld ▸ Nat.mul_le_mul_left dOld grows)
      _ ≤ 1000 := level

theorem Group.levelAt_le (g : Group) (on : Bool) (d : Nat) : g.levelAt on d ≤ d := by
  unfold Group.levelAt
  split <;> omega

theorem clampForce_le {level dmin : Nat} (bound : level ≤ 1000) (minimum : dmin ≤ 500) : clampForce level dmin ≤ 1000 := by
  unfold clampForce
  split <;> omega

theorem stepLevel_le {d target : Nat} (rise fall : Nat) (level : d ≤ 1000) (bound : target ≤ 1000) :
    stepLevel d target rise fall ≤ 1000 := by
  unfold stepLevel
  split
  · omega
  · split <;> omega

/-! ### The levels of one record -/

/-- The commanded level, the target and the override level of a zone are within 1,000. -/
def Zone.levelsSound (z : Zone) : Prop :=
  z.dCmd ≤ 1000 ∧ (∀ d, z.dTarget = some d → d ≤ 1000) ∧ ∀ o, z.override = some o → o.level ≤ 1000

/-- The minimum level of a group is within 500, its sent level within 1,000. -/
def Group.levelsSound (g : Group) : Prop := g.dmin ≤ 500 ∧ g.sent ≤ 1000

namespace Zone.levelsSound
variable {z : Zone} (sound : z.levelsSound)
include sound

theorem withTarget {target : Nat} (bound : target ≤ 1000) : ({ z with dTarget := some target } : Zone).levelsSound :=
  ⟨sound.1, fun _ same => Option.some.inj same ▸ bound, sound.2.2⟩

/-- A zone with the target and the override of a sound one. -/
theorem of_dCmd {y : Zone} (dCmd : y.dCmd ≤ 1000) (target : y.dTarget = z.dTarget) (override : y.override = z.override) :
    y.levelsSound := ⟨dCmd, target ▸ sound.2.1, override ▸ sound.2.2⟩

end Zone.levelsSound

section
variable (z : Zone) (sg : Fin 48 → Nat) (groups : Vector Group 48)

theorem Zone.addStages_kept (eligible : Bool) (lz : Nat) :
    (z.addStages sg eligible lz).dCmd = z.dCmd ∧ (z.addStages sg eligible lz).dTarget = z.dTarget
      ∧ (z.addStages sg eligible lz).override = z.override := by
  unfold Zone.addStages
  refine foldl_inv (P := fun y : Zone => y.dCmd = z.dCmd ∧ y.dTarget = z.dTarget ∧ y.override = z.override) _
    (fun y p kept => ?_) _ _ ⟨rfl, rfl, rfl⟩
  split
  · simpa using kept
  · exact kept

variable {z groups}

theorem Zone.levelsSound_switchOn (eligible : Bool) (lz : Nat) (minima : dminSound groups) (sound : z.levelsSound) :
    (z.switchOn sg groups eligible lz).levelsSound := by
  unfold Zone.switchOn
  dsimp only
  split
  · exact sound
  · obtain ⟨_, target, override⟩ := z.addStages_kept sg eligible lz
    exact sound.of_dCmd
      (handoverOn_le sound.1 ((z.growsTo_addStages sg eligible lz).sOn_le sg) (Zone.dminOn_le _ minima)) target override

theorem Zone.levelsSound_switchOff (lz : Nat) (sound : z.levelsSound) : (z.switchOff sg lz).levelsSound := by
  unfold Zone.switchOff
  split
  · exact sound
  · dsimp only
    split
    · next allowed => exact sound.of_dCmd allowed.2 (by simp) (by simp)
    · exact sound

theorem Zone.levelsSound_shedReserve (sound : z.levelsSound) : (z.shedReserve sg).levelsSound := by
  refine sound.of_dCmd ?_ rfl rfl
  simp only [Zone.shedReserve]
  split <;> omega

theorem Zone.levelTarget_le (lz : Nat) : z.levelTarget sg groups lz ≤ 1000 := by
  unfold Zone.levelTarget
  dsimp only
  split <;> omega

theorem Zone.levelsSound_selectAuto (eligible : Bool) (lz : Nat) (minima : dminSound groups) (sound : z.levelsSound) :
    (z.selectAuto sg groups eligible lz).levelsSound := by
  have shed : (if z.onReserve && !eligible then z.shedReserve sg else z).levelsSound := by
    split
    · exact Zone.levelsSound_shedReserve sg sound
    · exact sound
  unfold Zone.selectAuto
  dsimp only
  generalize (if z.onReserve && !eligible then z.shedReserve sg else z) = y at shed ⊢
  refine Zone.levelsSound.withTarget ?_ (Zone.levelTarget_le sg lz)
  have grown := Zone.levelsSound_switchOn sg eligible lz minima shed
  split
  · exact grown
  · exact Zone.levelsSound_switchOff sg lz grown

theorem Zone.levelsSound_started : z.started.levelsSound := by simp [Zone.levelsSound, Zone.started]

theorem Zone.levelsSound_discarded : z.discarded.levelsSound := by simp [Zone.levelsSound, Zone.discarded]

theorem Zone.levelsSound_manual {level : Nat} (scope : OverrideScope) (minima : dminSound groups) (bound : level ≤ 1000)
    (sound : z.levelsSound) : (z.manual sg groups level scope).levelsSound := by
  have clamped := clampForce_le bound ((z.allStages z.onReserve).dminOn_le minima)
  refine ⟨?_, fun _ same => Option.some.inj same ▸ clamped, fun _ same => Option.some.inj same ▸ clamped⟩
  simp only [Zone.manual]
  split
  · exact sound.1
  · exact handoverOn_le sound.1 ((z.growsTo_allStages _ id).sOn_le sg) (Zone.dminOn_le _ minima)

theorem Zone.levelsSound_fire {level : Nat} (scope : OverrideScope) (minima : dminSound groups) (bound : level ≤ 1000) :
    (z.fire groups level scope).levelsSound := by
  have clamped := clampForce_le bound ((z.allStages z.reserve.isSome).dminOn_le minima)
  exact ⟨clamped, fun _ same => Option.some.inj same ▸ clamped, fun _ same => Option.some.inj same ▸ clamped⟩

end

/-! ### Step 1 of a pass touches luminances alone -/

/-- Wipes what step 1 of a pass writes: portals, portal flags and the report. -/
def State.exceptLuminance (s : State) : State :=
  { s.exceptReport with portals := Vector.replicate 4 Portal.reset, portalFlags := Vector.replicate 4 0 }

section
variable (s : State)

@[simp] theorem exceptLuminance_portalAlert (p : Fin 4) (e o : Byte) (v : Nat) :
    (s.portalAlert p e o v).exceptLuminance = s.exceptLuminance := rfl

@[simp] theorem exceptLuminance_portalEvent (p : Fin 4) (f : PortalFlag) (o : Byte) (v : Nat) :
    (s.portalEvent p f o v).exceptLuminance = s.exceptLuminance := rfl

@[simp] theorem exceptLuminance_mapPortal (p : Fin 4) (f : Portal → Portal) :
    (s.mapPortal p f).exceptLuminance = s.exceptLuminance := rfl

@[simp] theorem exceptLuminance_enterTracking (p : Fin 4) (la : Nat) (d : Bool) :
    (s.enterTracking p la d).exceptLuminance = s.exceptLuminance := by
  unfold State.enterTracking
  dsimp only
  split <;> simp

@[simp] theorem exceptLuminance_track (p : Fin 4) (la : Nat) (low : Option Nat) :
    (s.track p la low).exceptLuminance = s.exceptLuminance := by
  unfold State.track
  dsimp only
  split
  · split <;> simp
  · simp

@[simp] theorem exceptLuminance_enterFallback (p : Fin 4) : (s.enterFallback p).exceptLuminance = s.exceptLuminance := by
  unfold State.enterFallback
  simp

@[simp] theorem exceptLuminance_lose (p : Fin 4) (b : Bool) : (s.lose p b).exceptLuminance = s.exceptLuminance := by
  unfold State.lose
  dsimp only
  split
  · split <;> simp
  · split <;> simp
  · simp
  · rfl
  · rfl

@[simp] theorem exceptLuminance_passStep1 (p : Fin 4) (b : Bool) : (s.passStep1 p b).exceptLuminance = s.exceptLuminance := by
  unfold State.passStep1
  dsimp only
  split <;> simp

@[simp] theorem exceptLuminance_passStep2 (p : Fin 4) : (s.passStep2 p).exceptLuminance = s.exceptLuminance := rfl

end

/-! ### The levels of the part -/

section
variable {s t : State}

theorem levelsSound_of_same (groups : t.groups = s.groups) (zones : t.zones = s.zones) (queue : t.fQueue = s.fQueue)
    (sound : s.levelsSound) : t.levelsSound := by
  unfold State.levelsSound
  rw [groups, zones, queue]
  exact sound

theorem levelsSound_of_lawful (same : t.lawful = s.lawful) : s.levelsSound → t.levelsSound :=
  levelsSound_of_same (congrArg (fun u : State => u.groups) same :) (congrArg (fun u : State => u.zones) same :)
    (congrArg (fun u : State => u.fQueue) same :)

theorem levelsSound_of_exceptLuminance (same : t.exceptLuminance = s.exceptLuminance) : s.levelsSound → t.levelsSound :=
  levelsSound_of_same (congrArg (fun u : State => u.groups) same :) (congrArg (fun u : State => u.zones) same :)
    (congrArg (fun u : State => u.fQueue) same :)

theorem State.levelsSound.minima (sound : s.levelsSound) : dminSound s.groups := fun g => (sound.1 g).1

theorem levelsSound_withZones {v : Vector Zone 32} (zones : ∀ z : Fin 32, v[z].levelsSound) (sound : s.levelsSound) :
    ({ s with zones := v } : State).levelsSound := ⟨sound.1, zones, sound.2.2⟩

theorem levelsSound_withGroups {v : Vector Group 48} (groups : ∀ g : Fin 48, v[g].levelsSound) (sound : s.levelsSound) :
    ({ s with groups := v } : State).levelsSound := ⟨groups, sound.2⟩

theorem levelsSound_withQueue {q : List FEntry} (queue : ∀ e ∈ q, e.levelSound) (sound : s.levelsSound) :
    ({ s with fQueue := q } : State).levelsSound := ⟨sound.1, sound.2.1, queue⟩

theorem levelsSound_mapZone (i : Fin 32) {f : Zone → Zone} (keeps : (s.zones[i]).levelsSound → (f s.zones[i]).levelsSound)
    (sound : s.levelsSound) : (s.mapZone i f).levelsSound :=
  levelsSound_withZones (updAt_forall (P := Zone.levelsSound) _ i f sound.2.1 (keeps (sound.2.1 i))) sound

theorem levelsSound_updGroup (g : Fin 48) {f : Group → Group} (keeps : (s.groups[g]).levelsSound → (f s.groups[g]).levelsSound)
    (sound : s.levelsSound) : ({ s with groups := updAt s.groups g f } : State).levelsSound :=
  levelsSound_withGroups (updAt_forall (P := Group.levelsSound) _ g f sound.1 (keeps (sound.1 g))) sound

theorem levelsSound_mapPortal (p : Fin 4) (f : Portal → Portal) : s.levelsSound → (s.mapPortal p f).levelsSound :=
  levelsSound_of_same rfl rfl rfl

theorem levelsSound_count (c : Fin 16) (a : CounterScope → Nat) : s.levelsSound → (s.count c a).levelsSound :=
  levelsSound_of_lawful rfl

/-! ### Offers -/

theorem FEntry.levelSound_fold (g : Fin 48) {level : Nat} (kind : LevelKind) (bound : level ≤ 1000) {e : FEntry}
    (sound : e.levelSound) : (e.fold g level kind).levelSound := by
  cases e with
  | level g' l k =>
    simp only [FEntry.fold]
    split
    · exact bound
    · exact sound
  | passThrough f => trivial
  | poll d o => trivial

/-- An own LEVEL offer within 1,000 writes levels within 1,000 (R36, R118). -/
theorem levelsSound_offerLevel (g : Fin 48) {level : Nat} (kind : LevelKind) (bound : level ≤ 1000) (sound : s.levelsSound) :
    (s.offerLevel g level kind).levelsSound := by
  have accepted := levelsSound_updGroup (f := (·.accepted s.now level)) g (fun sound => ⟨sound.1, bound⟩) sound
  unfold State.offerLevel
  split
  · refine levelsSound_withQueue (fun e queued => ?_) accepted
    obtain ⟨old, before, rfl⟩ := List.mem_map.mp queued
    exact FEntry.levelSound_fold g kind bound (sound.2.2 old before)
  · split
    · refine levelsSound_withQueue (fun e queued => ?_) accepted
      rcases List.mem_append.mp queued with old | new
      · exact sound.2.2 e old
      · rw [List.mem_singleton.mp new]
        exact bound
    · exact levelsSound_count _ _ (levelsSound_updGroup (f := fun r => { r with due := true }) g id sound)

theorem levelsSound_appended {e : FEntry} (bound : e.levelSound) (sound : s.levelsSound) :
    ({ s with fQueue := s.fQueue ++ [e] } : State).levelsSound := by
  refine levelsSound_withQueue (fun x queued => ?_) sound
  rcases List.mem_append.mp queued with old | new
  · exact sound.2.2 x old
  · exact List.mem_singleton.mp new ▸ bound

theorem levelsSound_offerPoll (d : Fin 160) (o : PollOrigin) (sound : s.levelsSound) : (s.offerPoll d o).levelsSound := by
  unfold State.offerPoll
  split
  · exact levelsSound_appended trivial sound
  · exact sound

theorem levelsSound_offerPassF (f : Frame) (sound : s.levelsSound) : (s.offerPassF f).levelsSound := by
  unfold State.offerPassF
  split
  · exact levelsSound_appended trivial sound
  · exact levelsSound_of_lawful rfl sound

theorem levelsSound_startF {e : FEntry} {rest : List FEntry} (picked : pickLowest FEntry.priority s.fQueue = some (e, rest))
    (sound : s.levelsSound) : (s.startF e rest).levelsSound := by
  obtain ⟨a, b, queue, rfl, _⟩ := pickLowest_split FEntry.priority s.fQueue rest e picked
  have waiting : ∀ x ∈ a ++ b, x.levelSound := fun x queued => sound.2.2 x (by
    rw [queue]
    rcases List.mem_append.mp queued with before | behind
    · exact List.mem_append_left _ before
    · exact List.mem_append_right _ (List.mem_cons_of_mem _ behind))
  have left : ({ s with fQueue := a ++ b, fTx := .sending (s.compose e).1 (s.compose e).2 } : State).levelsSound :=
    levelsSound_of_same rfl rfl rfl (levelsSound_withQueue waiting sound)
  refine levelsSound_count _ _ ?_
  unfold State.clearPending
  split
  · exact levelsSound_updGroup _ id left
  · exact left
  · exact left

/-! ### The pass -/

theorem levelsSound_computeGroup (g : Fin 48) (sound : s.levelsSound) : (s.computeGroup g).levelsSound :=
  levelsSound_updGroup g id sound

theorem levelsSound_deficitTest (i : Fin 32) (lz sAll : Nat) (sound : s.levelsSound) : (s.deficitTest i lz sAll).levelsSound := by
  have tested := levelsSound_mapZone (s := s) i
    (f := fun z => { z with deficit := decide (sAll < lz), deficitAmount := if decide (sAll < lz) then lz - sAll else 0 }) id sound
  unfold State.deficitTest
  dsimp only
  split
  · exact levelsSound_of_lawful (lawful_portalEvent _ _ _ _ _) tested
  · split
    · exact levelsSound_of_lawful (lawful_portalAlert _ _ _ _ _) tested
    · exact tested

theorem levelsSound_offerHandover (old : Zone) {new : Zone} (b : Bool) (bound : new.dCmd ≤ 1000) (sound : s.levelsSound) :
    (s.offerHandover old new b).levelsSound := by
  unfold State.offerHandover
  refine foldl_inv _ (fun t p sound => ?_) _ _ sound
  dsimp only
  split
  · exact levelsSound_offerLevel _ _ (Nat.le_trans (Group.levelAt_le _ _ _) bound) sound
  · exact sound

theorem levelsSound_stageZone (i : Fin 32) (b : Bool) (sound : s.levelsSound) : (s.stageZone i b).levelsSound := by
  have figured : (s.zones[i].standing.foldl (fun t g => t.computeGroup g) s).levelsSound :=
    foldl_inv _ (fun t g => levelsSound_computeGroup g) _ _ sound
  unfold State.stageZone
  dsimp only
  generalize s.zones[i].standing.foldl (fun t g => t.computeGroup g) s = t at figured ⊢
  have old : ({ s.zones[i] with reserveEligible := t.reserveEligible s.zones[i] } : Zone).levelsSound := sound.2.1 i
  split
  · have new := Zone.levelsSound_selectAuto t.sg (t.reserveEligible s.zones[i]) (s.zones[i].lz.getD 0) figured.minima old
    exact levelsSound_offerHandover _ b new.1 (levelsSound_deficitTest _ _ _ (levelsSound_mapZone i (fun _ => new) figured))
  · exact levelsSound_deficitTest _ _ _ (levelsSound_mapZone i (fun _ => old) figured)

theorem levelsSound_passStep3 (p : Fin 4) (sound : s.levelsSound) : (s.passStep3 p).levelsSound := by
  refine levelsSound_withZones (fun z => ?_) sound
  rw [updAll_get]
  split <;> exact sound.2.1 z

theorem levelsSound_pass (p : Fin 4) (a b : Bool) (sound : s.levelsSound) : (s.pass p a b).levelsSound := by
  unfold State.pass
  refine foldl_inv _ (fun t z => levelsSound_stageZone z b) _ _ (levelsSound_passStep3 p ?_)
  exact levelsSound_of_exceptLuminance (by simp) sound

theorem levelsSound_passExpiry (p : Fin 4) (sound : s.levelsSound) : (s.passExpiry p).levelsSound := by
  unfold State.passExpiry
  split
  · exact sound
  · exact levelsSound_pass p _ _ (levelsSound_mapPortal p _ sound)

theorem levelsSound_holdExpiry (p : Fin 4) (sound : s.levelsSound) : (s.holdExpiry p).levelsSound := by
  unfold State.holdExpiry
  split
  · exact sound
  · exact levelsSound_pass p _ _ (levelsSound_mapPortal p _ sound)

theorem levelsSound_startPortal (p : Fin 4) (sound : s.levelsSound) : (s.startPortal p).levelsSound := by
  unfold State.startPortal
  refine levelsSound_mapPortal p _ (levelsSound_pass p _ _ (levelsSound_withZones (fun z => ?_) (levelsSound_mapPortal p _ sound)))
  rw [updAll_get]
  split
  · exact Zone.levelsSound_started
  · exact sound.2.1 z

theorem discardRegulation_groups (s : State) (g : Fin 48) :
    s.discardRegulation.groups[g] = { s.groups[g] with mf := none, sg := none, due := false } := by
  unfold State.discardRegulation
  exact updAll_get s.groups (fun _ g => { g with mf := none, sg := none, due := false }) g

theorem discardRegulation_zones (s : State) (z : Fin 32) : s.discardRegulation.zones[z] = s.zones[z].discarded :=
  updAll_get s.zones _ z

theorem levelsSound_discardRegulation (sound : s.levelsSound) : s.discardRegulation.levelsSound := by
  refine ⟨fun g => ?_, fun z => ?_, sound.2.2⟩
  · rw [discardRegulation_groups]
    exact sound.1 g
  · rw [discardRegulation_zones]
    exact Zone.levelsSound_discarded

theorem Zone.levelsSound.released {z : Zone} (sound : z.levelsSound) : ({ z with override := none } : Zone).levelsSound :=
  ⟨sound.1, sound.2.1, fun _ same => by cases same⟩

theorem standbyPortal_groups (s : State) (p : Fin 4) (g : Fin 48) :
    (s.standbyPortal p).groups[g]
      = if (s.zonesOfGroup g).any fun z => s.zones[z].portal == p then { s.groups[g] with due := false } else s.groups[g] :=
  updAll_get s.groups _ g

theorem standbyPortal_zones (s : State) (p : Fin 4) (z : Fin 32) :
    (s.standbyPortal p).zones[z]
      = if s.zones[z].used && s.zones[z].portal == p then
          { s.zones[z] with override := none, deficit := false, deficitAmount := 0 }
        else s.zones[z] :=
  updAll_get s.zones _ z

theorem levelsSound_standbyPortal (p : Fin 4) (sound : s.levelsSound) : (s.standbyPortal p).levelsSound := by
  refine ⟨fun g => ?_, fun z => ?_, sound.2.2⟩
  · rw [standbyPortal_groups]
    split <;> exact sound.1 g
  · rw [standbyPortal_zones]
    split
    · exact Zone.levelsSound.released (sound.2.1 z)
    · exact sound.2.1 z

/-! ### Ramps and overrides -/

theorem levelsSound_offerRamp (p : Fin 4) (i : Fin 32) (k : LevelKind) (sound : s.levelsSound) : (s.offerRamp p i k).levelsSound := by
  have bound := (sound.2.1 i).1
  unfold State.offerRamp
  refine foldl_inv _ (fun t q sound => ?_) _ _ sound
  dsimp only
  split
  · exact levelsSound_offerLevel _ _ (Nat.le_trans (Group.levelAt_le _ _ _) bound) sound
  · exact sound

theorem levelsSound_rampZone (p : Fin 4) (i : Fin 32) (sound : s.levelsSound) : (s.rampZone p i).levelsSound := by
  unfold State.rampZone
  dsimp only
  split
  · exact levelsSound_offerRamp p i _ sound
  · exact sound
  · next target aimed _ =>
    have stepped := levelsSound_mapZone (s := s) i
      (f := fun z => { z with dCmd := stepLevel z.dCmd target s.portals[p].riseStep s.portals[p].fallStep })
      (fun zone => zone.of_dCmd (stepLevel_le _ _ zone.1 (zone.2.1 target aimed)) rfl rfl) sound
    refine levelsSound_offerRamp p i _ ?_
    split
    · exact levelsSound_count _ _ stepped
    · exact stepped

theorem levelsSound_rampExpiry (p : Fin 4) (sound : s.levelsSound) : (s.rampExpiry p).levelsSound := by
  unfold State.rampExpiry
  split
  · exact sound
  · exact foldl_inv _ (fun t z => levelsSound_rampZone p z) _ _ (levelsSound_mapPortal p _ sound)

theorem levelsSound_offerForce (i : Fin 32) (k : OverrideKind) (sound : s.levelsSound) : (s.offerForce i k).levelsSound := by
  have bound := (sound.2.1 i).1
  unfold State.offerForce
  refine foldl_inv _ (fun t q sound => ?_) _ _ sound
  have offered (kind : LevelKind) := levelsSound_offerLevel (s := t) q.2 kind
    (Nat.le_trans (Group.levelAt_le t.groups[q.2] (s.zones[i].isOn q.1) s.zones[i].dCmd) bound) sound
  dsimp only
  split <;> split
  · exact offered .fire
  · exact sound
  · exact offered .autoManual
  · exact sound

theorem levelsSound_forceZone (i : Fin 32) (k : OverrideKind) {level : Nat} (sc : OverrideScope) (bound : level ≤ 1000)
    (sound : s.levelsSound) : (s.forceZone i k level sc).levelsSound := by
  refine levelsSound_offerForce i k (levelsSound_mapZone i (fun zone => ?_) sound)
  cases k with
  | manual => exact Zone.levelsSound_manual s.sg sc sound.minima bound zone
  | fire => exact Zone.levelsSound_fire sc sound.minima bound

theorem levelsSound_forcePortal (p : Fin 4) (k : OverrideKind) {level : Nat} (bound : level ≤ 1000) (sound : s.levelsSound) :
    (s.forcePortal p k level).levelsSound := by
  unfold State.forcePortal
  refine foldl_inv _ (fun t z sound => ?_) _ _ (levelsSound_mapPortal p _ sound)
  exact levelsSound_forceZone z k .portal bound sound

theorem levelsSound_releasePortal (p : Fin 4) (sound : s.levelsSound) : (s.releasePortal p).levelsSound := by
  refine levelsSound_withZones (fun z => ?_) (levelsSound_mapPortal p _ sound)
  rw [updAll_get]
  split
  · exact Zone.levelsSound.released (sound.2.1 z)
  · exact sound.2.1 z

/-! ### Drivers and the poller -/

theorem levelsSound_driverChanged (d : Fin 160) (a b : DriverState) (sound : s.levelsSound) : (s.driverChanged d a b).levelsSound := by
  unfold State.driverChanged
  split
  · exact sound
  · split
    · exact sound
    · split
      · exact levelsSound_of_lawful rfl sound
      · split
        · exact levelsSound_of_lawful rfl sound
        · exact sound

theorem levelsSound_mapDriver (d : Fin 160) (f : Driver → Driver) : s.levelsSound → (s.mapDriver d f).levelsSound :=
  levelsSound_of_same rfl rfl rfl

theorem levelsSound_resync (d : Fin 160) (l : Nat) (sound : s.levelsSound) : (s.resync d l).levelsSound := by
  unfold State.resync
  dsimp only
  split
  · exact sound
  · split
    · exact levelsSound_updGroup _ id sound
    · exact sound

theorem levelsSound_snoop (d : Fin 160) (c : Byte) (l : BitVec 16) (sound : s.levelsSound) : (s.snoop d c l).levelsSound :=
  levelsSound_driverChanged d _ _ (levelsSound_mapDriver d _ (levelsSound_resync d _ sound))

theorem levelsSound_enterAbsent (d : Fin 160) (sound : s.levelsSound) : (s.enterAbsent d).levelsSound :=
  levelsSound_driverChanged d _ _ (levelsSound_mapDriver d _ sound)

theorem levelsSound_chargeMiss (d : Fin 160) (o : PollOrigin) (sound : s.levelsSound) : (s.chargeMiss d o).levelsSound := by
  have counted := levelsSound_count 6 (unscoped 1) (levelsSound_mapDriver d (fun r => { r with misses := r.misses + 1 }) sound)
  unfold State.chargeMiss
  dsimp only
  split
  · split
    · exact levelsSound_enterAbsent d counted
    · split
      · exact levelsSound_enterAbsent d counted
      · exact counted
  · exact sound

theorem levelsSound_rescanOffer (sound : s.levelsSound) : s.rescanOffer.levelsSound := by
  unfold State.rescanOffer
  split
  · exact levelsSound_of_same rfl rfl rfl sound
  · split
    · exact levelsSound_of_same rfl rfl rfl (levelsSound_offerPoll _ .scan sound)
    · dsimp only
      split <;> exact levelsSound_of_same rfl rfl rfl sound

theorem levelsSound_rescanStart (sound : s.levelsSound) : s.rescanStart.levelsSound :=
  levelsSound_rescanOffer (s := { s with rescanPosition := 0, rescan := .awaitWindow }) sound

theorem levelsSound_scanWindowEnded (d : Fin 160) (sound : s.levelsSound) : (s.scanWindowEnded d).levelsSound := by
  unfold State.scanWindowEnded
  split
  · exact sound
  · split
    · exact levelsSound_rescanOffer (s := { s with rescanPosition := d.val + 1 }) sound
    · exact sound

theorem levelsSound_pollExpiry (sound : s.levelsSound) : s.pollExpiry.levelsSound := by
  unfold State.pollExpiry
  split
  · exact sound
  · next e _ =>
    have restarted : ({ s.reach e with pollTimer := some ((s.reach e).now + (s.reach e).device.pollInterval * msTicks) }
        : State).levelsSound := sound
    dsimp only
    split
    · exact restarted
    · exact levelsSound_rescanOffer restarted
    · split
      · exact restarted
      · exact levelsSound_of_same rfl rfl rfl (levelsSound_offerPoll _ .round restarted)

/-! ### Modes, SETs and the one-second timer -/

theorem levelsSound_driversUnknown (sound : s.levelsSound) : s.driversUnknown.levelsSound := by
  unfold State.driversUnknown
  exact levelsSound_of_same (s := s) rfl rfl rfl sound

theorem levelsSound_abandonRescan : s.levelsSound → s.abandonRescan.levelsSound := levelsSound_of_same rfl rfl rfl

theorem levelsSound_enterRunning (sound : s.levelsSound) : s.enterRunning.levelsSound := by
  have unknown := levelsSound_driversUnknown (s := { s with mode := .running }) sound
  unfold State.enterRunning
  refine levelsSound_rescanStart (foldl_inv _ (fun t p sound => ?_) _ _ (levelsSound_of_same rfl rfl rfl unknown))
  split
  · exact levelsSound_startPortal p sound
  · exact sound

theorem removeOwnEntries_groups (s : State) (g : Fin 48) :
    s.removeOwnEntries.groups[g]
      = if s.fQueue.any (·.isLevelOf g) then { s.groups[g] with pendingMark := false } else s.groups[g] :=
  updAll_get s.groups (fun g r => if s.fQueue.any (·.isLevelOf g) then { r with pendingMark := false } else r) g

theorem levelsSound_removeOwnEntries (sound : s.levelsSound) : s.removeOwnEntries.levelsSound := by
  refine ⟨fun g => ?_, sound.2.1, fun e kept => sound.2.2 e (List.mem_filter.mp kept).1⟩
  rw [removeOwnEntries_groups]
  split <;> exact sound.1 g

theorem levelsSound_leaveRunning (sound : s.levelsSound) : s.leaveRunning.levelsSound :=
  levelsSound_abandonRescan (levelsSound_removeOwnEntries
    (levelsSound_discardRegulation (s := { s with mode := .transparent }) sound))

theorem emptyQueues_groups (s : State) (g : Fin 48) : s.emptyQueues.groups[g] = { s.groups[g] with pendingMark := false } :=
  updAll_get s.groups (fun _ r => { r with pendingMark := false }) g

theorem levelsSound_emptyQueues (sound : s.levelsSound) : s.emptyQueues.levelsSound := by
  refine ⟨fun g => ?_, sound.2.1, fun _ queued => absurd queued List.not_mem_nil⟩
  rw [emptyQueues_groups]
  exact sound.1 g

theorem levelsSound_restartNow (sound : s.levelsSound) : s.restartNow.levelsSound := by
  unfold State.restartNow
  exact levelsSound_discardRegulation (levelsSound_abandonRescan (levelsSound_driversUnknown
    (levelsSound_of_same rfl rfl rfl (levelsSound_emptyQueues sound))))

theorem State.writeZone_levelsSound {i : Fin 32} {f : ZoneField} {v : Word} {x : Zone} (written : s.writeZone i f v = some x)
    (sound : s.zones[i].levelsSound) : x.levelsSound := by
  cases f with
  | used =>
    obtain ⟨y, _, rfl⟩ := Option.map_eq_some_iff.mp written
    split
    · exact sound
    · exact Zone.levelsSound_discarded (z := s.zones[i])
  | ratio =>
    simp only [State.writeZone, Option.ite_none_left_eq_some] at written
    obtain ⟨y, _, rfl⟩ := Option.map_eq_some_iff.mp written.2
    exact sound
  | portal | position | stageList | reserve | hysteresis =>
    obtain ⟨y, _, rfl⟩ := Option.map_eq_some_iff.mp written
    exact sound
  | _ => cases written

theorem State.writeGroup_levelsSound {g : Fin 48} {f : GroupField} {v : Nat} {x : Group} (written : s.writeGroup g f v = some x)
    (sound : s.groups[g].levelsSound) : x.levelsSound := by
  cases f with
  | used =>
    obtain ⟨y, _, rfl⟩ := Option.map_eq_some_iff.mp written
    unfold Group.setUsed
    split <;> exact sound
  | owner =>
    obtain ⟨y, _, rfl⟩ := Option.map_eq_some_iff.mp written
    unfold Group.setOwner
    split <;> exact sound
  | dmin =>
    simp only [State.writeGroup, Option.ite_none_left_eq_some] at written
    obtain ⟨y, inside, rfl⟩ := Option.map_eq_some_iff.mp written.2
    exact ⟨le_of_inRange inside, sound.2⟩
  | groupAddress | rated | depreciation | mfFloor | burnHours =>
    obtain ⟨y, _, rfl⟩ := Option.map_eq_some_iff.mp written
    exact sound
  | _ => cases written

theorem levelsSound_write {after : State} {target : Target} {v : Word} (written : s.write target v = some after)
    (sound : s.levelsSound) : after.levelsSound := by
  cases target with
  | zone i f =>
    obtain ⟨x, record, rfl⟩ := Option.map_eq_some_iff.mp written
    exact levelsSound_mapZone i (State.writeZone_levelsSound record) sound
  | group g f =>
    obtain ⟨x, record, rfl⟩ := Option.map_eq_some_iff.mp written
    exact levelsSound_updGroup g (State.writeGroup_levelsSound record) sound
  | flags set f => cases written
  | _ =>
    obtain ⟨x, _, rfl⟩ := Option.map_eq_some_iff.mp written
    exact sound

theorem levelsSound_effect (did : Effect s t) (sound : s.levelsSound) : t.levelsSound := by
  have clamped (level : Nat) : min 1000 level ≤ 1000 := Nat.min_le_left 1000 level
  cases did with
  | quiet same => exact levelsSound_of_lawful same.lawful sound
  | set _ _ written _ => exact levelsSound_write written sound
  | activate => exact levelsSound_enterRunning sound
  | deactivate => exact levelsSound_leaveRunning sound
  | standby p => exact levelsSound_standbyPortal p sound
  | resume p => exact levelsSound_startPortal p sound
  | forceZone z k l => exact levelsSound_forceZone z k .zone (clamped l) sound
  | forcePortal p k l => exact levelsSound_forcePortal p k (clamped l) sound
  | releaseZone z => exact levelsSound_mapZone z Zone.levelsSound.released sound
  | releasePortal p => exact levelsSound_releasePortal p sound
  | rescan => exact levelsSound_rescanStart sound

theorem Group.burn_levels (g : Group) : g.burn.dmin = g.dmin ∧ g.burn.sent = g.sent := by
  unfold Group.burn
  split
  · split <;> exact ⟨rfl, rfl⟩
  · exact ⟨rfl, rfl⟩

theorem levelsSound_secondExpiry (sound : s.levelsSound) : s.secondExpiry.levelsSound := by
  refine levelsSound_count _ _ (levelsSound_count _ _ ⟨fun g => ?_, sound.2⟩)
  dsimp only
  rw [updAll_get, (Group.burn_levels _).1, (Group.burn_levels _).2]
  exact sound.1 g

theorem levelsSound_captureTraffic (pl : List Byte) (sound : s.levelsSound) : (s.captureTraffic pl).levelsSound := by
  unfold State.captureTraffic
  split <;> exact sound

theorem levelsSound_of_exceptSensing (same : t.exceptSensing = s.exceptSensing) : s.levelsSound → t.levelsSound :=
  levelsSound_of_same (congrArg (fun u : State => u.groups) same :) (congrArg (fun u : State => u.zones) same :)
    (congrArg (fun u : State => u.fQueue) same :)

theorem levelsSound_ageExpiry (i : Fin 8) (sound : s.levelsSound) : (s.ageExpiry i).levelsSound := by
  unfold State.ageExpiry
  split
  · exact sound
  · dsimp only
    split <;> exact sound

theorem levelsSound_pulseEdge (n : Fin 4) (sound : s.levelsSound) : (s.pulseEdge n).levelsSound := by
  unfold State.pulseEdge
  split <;> exact sound

theorem levelsSound_gateExpiry (n : Fin 4) (sound : s.levelsSound) : (s.gateExpiry n).levelsSound := by
  unfold State.gateExpiry
  split
  · exact sound
  · dsimp only
    split
    · exact sound
    · exact foldl_inv _ (fun t i sound => levelsSound_of_exceptSensing (exceptSensing_sensorGood t i _) sound) _ _ sound

end

theorem levelsSound_powerOn (addr : BitVec 4) (rate : BitVec 2) : (State.powerOn addr rate).levelsSound := by
  simp [State.levelsSound, State.powerOn, Zone.reset, Group.reset]

theorem kept_levelsSound : Kept State.levelsSound where
  quiet := levelsSound_of_lawful
  powerOn := levelsSound_powerOn
  offerCandidate s i c := levelsSound_of_exceptSensing (exceptSensing_offerCandidate s i c)
  captureTraffic _ pl := levelsSound_captureTraffic pl
  snoop _ d c l := levelsSound_snoop d c l
  offerPassF _ f := levelsSound_offerPassF f
  effect := levelsSound_effect
  chargeMiss _ d o := levelsSound_chargeMiss d o
  scanWindowEnded _ d := levelsSound_scanWindowEnded d
  pollExpiry _ := levelsSound_pollExpiry
  ageExpiry _ i := levelsSound_ageExpiry i
  pulseEdge _ n := levelsSound_pulseEdge n
  gateExpiry _ n := levelsSound_gateExpiry n
  passExpiry _ p := levelsSound_passExpiry p
  holdExpiry _ p := levelsSound_holdExpiry p
  rampExpiry _ p := levelsSound_rampExpiry p
  startF _ _ _ picked := levelsSound_startF picked
  restartNow _ := levelsSound_restartNow
  secondExpiry _ := levelsSound_secondExpiry

/-- Settles O57: S_on does not fall as stages go on, so a handover cannot raise the commanded level; every other level is clamped. -/
theorem stepKeepsLevelsWithinRange : Obligations.StepKeepsLevelsWithinRange :=
  fun _ _ sound answers => kept_levelsSound.step answers sound

end Sys2Proof.Machine

/-! SUPPORT. What a pass makes of the record of its portal, and why every step keeps the portals, their timers and the device mode in
agreement (R75, R78, R79, R82, R86). -/

namespace Sys2Proof.Machine

set_option Elab.async false

/-! ### Tables -/

/-- Two updates of one record are one. -/
theorem updAt_updAt {α : Type} {n : Nat} (v : Vector α n) (i : Fin n) (f g : α → α) :
    updAt (updAt v i f) i g = updAt v i fun x => g (f x) := by
  ext j hj
  simp only [updAt_getElem]
  split <;> rfl

/-- An update of one record reads that record alone. -/
theorem updAt_congr {α : Type} {n : Nat} (v : Vector α n) (i : Fin n) {f g : α → α} (same : f v[i] = g v[i]) :
    updAt v i f = updAt v i g := by
  unfold updAt
  rw [same]

theorem updAt_self {α : Type} {n : Nat} (v : Vector α n) (i : Fin n) : updAt v i (fun _ => v[i]) = v := by
  ext j hj
  rw [updAt_getElem]
  split
  · next same => subst same; rfl
  · rfl

theorem mapPortal_self (s : State) (p : Fin 4) : s.mapPortal p (fun _ => s.portals[p]) = s := by
  unfold State.mapPortal
  rw [updAt_self]

/-! ### Step 1 of a pass -/

/-- The record of a portal after step 1 of a pass at `now`, from the medians of its main and reserve sensor; a sensor that is not VALID
has none (R64, R80 to R82, R86). -/
def Portal.afterStep1 (r : Portal) (main reserve : Option Nat) (atHold : Bool) (now : Time) : Portal :=
  match main, reserve with
  | some a, some b =>
    { r with la := some (max a b), lastGoodLa := some (max a b), state := .tracking, holdTimer := none,
             disagree := disagrees a b r.tolerance }
  | some a, none | none, some a =>
    { r with la := some a, lastGoodLa := some a, state := .tracking, holdTimer := none, disagree := false }
  | none, none =>
    match r.state with
    | .tracking =>
      if r.holdTime = 0 then
        { r with state := .fallback, la := some r.fallbackLuminance, holdTimer := none, disagree := false }
      else
        { r with state := .hold, la := r.lastGoodLa, holdTimer := some (now + r.holdTime * secTicks), disagree := false }
    | .hold =>
      if atHold then { r with state := .fallback, la := some r.fallbackLuminance, holdTimer := none, disagree := false }
      else { r with la := r.lastGoodLa, disagree := false }
    | .fallback => { r with la := some r.fallbackLuminance, disagree := false }
    | .unused | .standby => r

/-- A report step 1 makes: the flag latched, if any, and the ALERT's event and value (R160, R162). -/
structure PortalReport where
  flag : Option PortalFlag
  event : Byte
  value : Nat

/-- A report that latches its flag. -/
def PortalFlag.report (f : PortalFlag) (value : Nat) : PortalReport := { flag := some f, event := f.event, value := value }

/-- The report of the entry into TRACKING, which latches no flag. -/
def trackingReport (la : Nat) : PortalReport := { flag := none, event := evTracking, value := la }

/-- A portal makes a report. -/
def State.portalReport (s : State) (p : Fin 4) (x : PortalReport) : State :=
  match x.flag with
  | some f => (s.latchPortal p f).portalAlert p x.event (BitVec.ofNat 8 p.val) x.value
  | none => s.portalAlert p x.event (BitVec.ofNat 8 p.val) x.value

/-- What a portal reports as it enters TRACKING. -/
def Portal.trackingReports (r : Portal) (la : Nat) : List PortalReport := if r.state = .tracking then [] else [trackingReport la]

/-- What step 1 reports, in order (R81, R82, R86, R162). -/
def Portal.step1Reports (r : Portal) (main reserve : Option Nat) (atHold : Bool) : List PortalReport :=
  match main, reserve with
  | some a, some b =>
    r.trackingReports (max a b)
      ++ if disagrees a b r.tolerance && !r.disagree then [PortalFlag.disagree.report (min a b)] else []
  | some a, none | none, some a => r.trackingReports a
  | none, none =>
    match r.state with
    | .tracking =>
      PortalFlag.sensorLost.report (r.lastGoodLa.getD 0)
        :: if r.holdTime = 0 then [PortalFlag.fallbackEntered.report r.fallbackLuminance] else []
    | .hold => if atHold then [PortalFlag.fallbackEntered.report r.fallbackLuminance] else []
    | .fallback | .unused | .standby => []

section
variable (s : State) (p : Fin 4)

theorem enterTracking_eq (la : Nat) (disagree : Bool) :
    s.enterTracking p la disagree
      = (s.portals[p].trackingReports la).foldl (fun t x => t.portalReport p x)
          (s.mapPortal p fun r =>
            { r with la := some la, lastGoodLa := some la, state := .tracking, holdTimer := none, disagree := disagree }) := by
  unfold State.enterTracking Portal.trackingReports
  dsimp only
  split <;> rfl

theorem track_eq (la : Nat) (low : Option Nat) :
    s.track p la low
      = (s.portals[p].trackingReports la
          ++ if low.isSome && !s.portals[p].disagree then [PortalFlag.disagree.report (low.getD 0)] else []).foldl
          (fun t x => t.portalReport p x)
          (s.mapPortal p fun r =>
            { r with la := some la, lastGoodLa := some la, state := .tracking, holdTimer := none, disagree := low.isSome }) := by
  unfold State.track
  dsimp only
  rw [List.foldl_append, ← enterTracking_eq]
  cases low with
  | none => rfl
  | some m =>
    cases held : s.portals[p].disagree
    · rfl
    · rfl

/-- Step 1 writes one record and then makes its reports. -/
theorem passStep1_eq (atHold : Bool) :
    s.passStep1 p atHold
      = (s.portals[p].step1Reports (s.validMedian s.portals[p].mainSensor) (s.portals[p].reserveSensor.bind s.validMedian)
          atHold).foldl (fun t x => t.portalReport p x)
          (s.mapPortal p fun _ => s.portals[p].afterStep1 (s.validMedian s.portals[p].mainSensor)
            (s.portals[p].reserveSensor.bind s.validMedian) atHold s.now) := by
  unfold State.passStep1 Portal.step1Reports Portal.afterStep1
  dsimp only
  cases s.validMedian s.portals[p].mainSensor with
  | some a =>
    cases s.portals[p].reserveSensor.bind s.validMedian with
    | some b =>
      dsimp only
      rw [track_eq]
      cases disagrees a b s.portals[p].tolerance <;> rfl
    | none => dsimp only; rw [track_eq]; simp; rfl
  | none =>
    cases s.portals[p].reserveSensor.bind s.validMedian with
    | some b => dsimp only; rw [track_eq]; simp; rfl
    | none =>
      unfold State.lose
      cases state : s.portals[p].state with
      | tracking =>
        simp only [state]
        split <;> rfl
      | hold =>
        simp only [state]
        split
        · rfl
        · rw [← state]
          rfl
      | fallback =>
        simp only [state]
        rw [← state]
        rfl
      | unused | standby =>
        simp only [state]
        exact (mapPortal_self s p).symm

end

/-! ### The portals after a pass -/

@[simp] theorem portalReport_portals (s : State) (p : Fin 4) (x : PortalReport) : (s.portalReport p x).portals = s.portals := by
  unfold State.portalReport
  split <;> simp

theorem passStep1_portals (s : State) (p : Fin 4) (atHold : Bool) :
    (s.passStep1 p atHold).portals = updAt s.portals p fun r =>
      r.afterStep1 (s.validMedian r.mainSensor) (r.reserveSensor.bind s.validMedian) atHold s.now := by
  rw [passStep1_eq, foldl_keeps (fun t : State => t.portals) _ fun t x => portalReport_portals t p x, State.mapPortal_portals]
  apply updAt_congr
  rfl

theorem passStep2_portals (s : State) (p : Fin 4) :
    (s.passStep2 p).portals = updAt s.portals p fun r =>
      { r with lth := some (thresholdOf (r.la.getD 0) s.kTable[kRow p r.speed r.traffic] r.ceiling) } := by
  unfold State.passStep2
  rw [State.mapPortal_portals]

theorem passStep3_portals (s : State) (p : Fin 4) : (s.passStep3 p).portals = s.portals := by
  unfold State.passStep3
  rfl

@[simp] theorem stageZone_portals (s : State) (i : Fin 32) (b : Bool) : (s.stageZone i b).portals = s.portals := by
  have offered (t : State) (old new : Zone) : (t.offerHandover old new b).portals = t.portals := by
    unfold State.offerHandover
    refine foldl_keeps (fun u : State => u.portals) _ (fun u q => ?_) _ t
    dsimp only
    split
    · unfold State.offerLevel
      split
      · rfl
      · split <;> simp
    · rfl
  have tested (t : State) (lz sAll : Nat) : (t.deficitTest i lz sAll).portals = t.portals := by
    unfold State.deficitTest
    dsimp only
    split
    · simp
    · split <;> simp
  have figured : (s.zones[i].standing.foldl (fun t g => t.computeGroup g) s).portals = s.portals :=
    foldl_keeps (fun u : State => u.portals) _ (fun t g => (rfl : (t.computeGroup g).portals = t.portals)) _ s
  unfold State.stageZone
  dsimp only
  split
  · rw [offered, tested]
    exact figured
  · rw [tested]
    exact figured

/-- The record of a portal after steps 1 and 2 of a pass (R80 to R83). -/
def State.passed (s : State) (p : Fin 4) (r : Portal) (atHold : Bool) : Portal :=
  let q := r.afterStep1 (s.validMedian r.mainSensor) (r.reserveSensor.bind s.validMedian) atHold s.now
  { q with lth := some (thresholdOf (q.la.getD 0) s.kTable[kRow p q.speed q.traffic] q.ceiling) }

/-- A pass writes its portal's record in steps 1 and 2 and no other record. -/
theorem pass_portals (s : State) (p : Fin 4) (atHold immediate : Bool) :
    (s.pass p atHold immediate).portals = updAt s.portals p fun r => s.passed p r atHold := by
  have kTable : (s.passStep1 p atHold).kTable = s.kTable :=
    (congrArg (fun u : State => u.kTable) (exceptRegulation_passStep1 s p atHold) :)
  unfold State.pass
  dsimp only
  rw [foldl_keeps (fun u : State => u.portals) _ fun t z => stageZone_portals t z immediate]
  rw [passStep3_portals, passStep2_portals, passStep1_portals, updAt_updAt, kTable]
  rfl

/-- A portal at the start of regulation, before its immediate pass (R88). -/
def State.begun (s : State) (p : Fin 4) : State :=
  { s.mapPortal p Portal.started with
    zones := updAll s.zones fun _ z => if z.used && z.portal == p then z.started else z }

/-- The record of a portal whose pass and ramp timers are started at `now` (R79). -/
def Portal.timed (r : Portal) (now : Time) : Portal :=
  { r with passTimer := some (now + r.passPeriod * secTicks), rampTimer := some (now + r.rampPeriod * msTicks) }

theorem startPortal_eq (s : State) (p : Fin 4) :
    s.startPortal p = ((s.begun p).pass p false true).mapPortal p fun r => r.timed ((s.begun p).pass p false true).now := rfl

theorem now_of_exceptRegulation {s t : State} (same : t.exceptRegulation = s.exceptRegulation) : t.now = s.now :=
  (congrArg (fun u : State => u.now) same :)

theorem begun_now (s : State) (p : Fin 4) : (s.begun p).now = s.now := by simp only [State.begun, State.mapPortal_now]

theorem startPortal_portals (s : State) (p : Fin 4) :
    (s.startPortal p).portals = updAt s.portals p fun r => ((s.begun p).passed p r.started false).timed s.now := by
  have now : ((s.begun p).pass p false true).now = s.now := (now_of_exceptRegulation (exceptRegulation_pass _ p _ _)).trans (begun_now s p)
  have started : (s.begun p).portals = updAt s.portals p Portal.started := by simp only [State.begun, State.mapPortal_portals]
  rw [startPortal_eq, State.mapPortal_portals, pass_portals, started, updAt_updAt, updAt_updAt, now]

/-! ### A regulating record -/

/-- What a regulating record holds beside its pass and ramp timers (R82, R86). -/
structure Portal.Steady (r : Portal) : Prop where
  used : r.used = true
  regulating : r.state.regulating = true
  hold : r.holdTimer.isSome = true ↔ r.state = .hold
  lastGood : r.state = .tracking ∨ r.state = .hold → r.lastGoodLa.isSome = true

theorem Portal.sound.steady {r : Portal} (sound : r.sound) (regulating : r.state.regulating = true) : r.Steady := by
  obtain ⟨unused, _, _, hold, lastGood, _⟩ := sound
  refine ⟨?_, regulating, hold, lastGood⟩
  cases used : r.used
  · rw [unused.mpr used] at regulating
    cases regulating
  · rfl

theorem Portal.Steady.sound {r : Portal} (steady : r.Steady) (pass : r.passTimer.isSome = true) (ramp : r.rampTimer.isSome = true) :
    r.sound := by
  obtain ⟨used, regulating, hold, lastGood⟩ := steady
  refine ⟨⟨fun unused => ?_, fun unused => ?_⟩, pass.trans regulating.symm, ramp.trans regulating.symm, hold, lastGood,
    fun _ => regulating⟩
  · rw [unused] at regulating
    cases regulating
  · rw [used] at unused
    cases unused

/-- Step 1 keeps a regulating record regulating; at the hold timer's expiry the record in HOLD has no hold timer left, and step 1
leaves HOLD (R86). -/
theorem Portal.Steady.afterStep1 {r : Portal} (used : r.used = true) (regulating : r.state.regulating = true) {atHold : Bool}
    (hold : r.holdTimer.isSome = true ↔ r.state = .hold ∧ atHold = false)
    (lastGood : r.state = .tracking ∨ r.state = .hold → r.lastGoodLa.isSome = true) (main reserve : Option Nat) (now : Time) :
    (r.afterStep1 main reserve atHold now).Steady := by
  unfold Portal.afterStep1
  split
  · exact ⟨used, rfl, by simp, by simp⟩
  · exact ⟨used, rfl, by simp, by simp⟩
  · exact ⟨used, rfl, by simp, by simp⟩
  · cases state : r.state with
    | unused | standby => rw [state] at regulating; cases regulating
    | fallback =>
      dsimp only
      exact ⟨used, rfl, by simpa [state] using hold, by simp⟩
    | tracking =>
      dsimp only
      split
      · exact ⟨used, rfl, by simp, by simp⟩
      · exact ⟨used, rfl, by simp, fun _ => lastGood (.inl state)⟩
    | hold =>
      dsimp only
      split
      · exact ⟨used, rfl, by simp, by simp⟩
      · next other =>
        exact ⟨used, rfl, by simpa [state, other] using hold, fun _ => lastGood (.inr state)⟩

section
variable (r : Portal) (main reserve : Option Nat) (atHold : Bool) (now : Time)

/-- Step 1 writes luminances, state, hold timer and disagreement alone. -/
theorem Portal.afterStep1_kept :
    (r.afterStep1 main reserve atHold now).config = r.config
      ∧ (r.afterStep1 main reserve atHold now).speed = r.speed ∧ (r.afterStep1 main reserve atHold now).traffic = r.traffic
      ∧ (r.afterStep1 main reserve atHold now).passTimer = r.passTimer
      ∧ (r.afterStep1 main reserve atHold now).rampTimer = r.rampTimer
      ∧ (r.afterStep1 main reserve atHold now).override = r.override := by
  unfold Portal.afterStep1
  split
  · exact ⟨rfl, rfl, rfl, rfl, rfl, rfl⟩
  · exact ⟨rfl, rfl, rfl, rfl, rfl, rfl⟩
  · exact ⟨rfl, rfl, rfl, rfl, rfl, rfl⟩
  · split
    · split <;> exact ⟨rfl, rfl, rfl, rfl, rfl, rfl⟩
    · split <;> exact ⟨rfl, rfl, rfl, rfl, rfl, rfl⟩
    · exact ⟨rfl, rfl, rfl, rfl, rfl, rfl⟩
    · exact ⟨rfl, rfl, rfl, rfl, rfl, rfl⟩
    · exact ⟨rfl, rfl, rfl, rfl, rfl, rfl⟩

end

/-! ### Records, mode and poller in agreement -/

/-- A sound record whose interior luminance is not above its ceiling while it regulates (R75). -/
def Portal.fit (r : Portal) : Prop := r.sound ∧ (r.used = true → r.state.regulating = true → r.interior ≤ r.ceiling)

/-- The law of regulation, with that of the ceilings. -/
def State.governed (s : State) : Prop := s.regulationSound ∧ s.interiorBelowCeiling

section
variable {s t : State}

theorem State.governed_iff :
    s.governed ↔ (∀ p : Fin 4, s.portals[p].fit)
      ∧ (s.mode = .transparent → (∀ p : Fin 4, s.portals[p].state.regulating = false) ∧ s.pollTimer = none ∧ s.rescan = .none)
      ∧ (s.mode = .running → s.pollTimer.isSome = true) := by
  constructor
  · rintro ⟨⟨sound, transparent, running⟩, below⟩
    exact ⟨fun p => ⟨sound p, below p⟩, transparent, running⟩
  · rintro ⟨fit, transparent, running⟩
    exact ⟨⟨fun p => (fit p).1, transparent, running⟩, fun p => (fit p).2⟩

/-- The law reads portals, mode, poll timer and rescan. -/
theorem governed_of_same (portals : t.portals = s.portals) (mode : t.mode = s.mode) (poll : t.pollTimer = s.pollTimer)
    (rescan : t.rescan = s.rescan) (governed : s.governed) : t.governed := by
  rw [State.governed_iff] at governed ⊢
  rw [portals, mode, poll, rescan]
  exact governed

theorem governed_of_exceptSensing (same : t.exceptSensing = s.exceptSensing) : s.governed → t.governed :=
  governed_of_same (congrArg (fun u : State => u.portals) same :) (congrArg (fun u : State => u.mode) same :)
    (congrArg (fun u : State => u.pollTimer) same :) (congrArg (fun u : State => u.rescan) same :)

/-- What regulation writes beside the portals does not matter. -/
theorem governed_of_exceptRegulation (same : t.exceptRegulation = s.exceptRegulation) (portals : t.portals = s.portals) :
    s.governed → t.governed :=
  governed_of_same portals (congrArg (fun u : State => u.mode) same :) (congrArg (fun u : State => u.pollTimer) same :)
    (congrArg (fun u : State => u.rescan) same :)

theorem governed_of_lawful (same : t.lawful = s.lawful) : s.governed → t.governed :=
  governed_of_same (congrArg (fun u : State => u.portals) same :) (congrArg (fun u : State => u.mode) same :)
    (congrArg (fun u : State => u.pollTimer) same :) (congrArg (fun u : State => u.rescan) same :)

/-- A portal whose record may regulate only in RUNNING is rewritten. -/
theorem governed_updPortal (p : Fin 4) {r : Portal} (portals : t.portals = updAt s.portals p fun _ => r)
    (same : t.exceptRegulation = s.exceptRegulation) (fit : r.fit)
    (regulating : r.state.regulating = true → s.mode = .running) (governed : s.governed) : t.governed := by
  have mode : t.mode = s.mode := (congrArg (fun u : State => u.mode) same :)
  have poll : t.pollTimer = s.pollTimer := (congrArg (fun u : State => u.pollTimer) same :)
  have rescan : t.rescan = s.rescan := (congrArg (fun u : State => u.rescan) same :)
  rw [State.governed_iff] at governed ⊢
  obtain ⟨fits, transparent, running⟩ := governed
  rw [portals, mode, poll, rescan]
  refine ⟨updAt_forall (P := Portal.fit) _ p _ fits fit, fun off => ?_, running⟩
  obtain ⟨idle, stopped, ended⟩ := transparent off
  refine ⟨updAt_forall (P := fun r : Portal => r.state.regulating = false) _ p _ idle ?_, stopped, ended⟩
  cases on : r.state.regulating
  · rfl
  · rw [regulating on] at off
    cases off

theorem State.governed.sound (governed : s.governed) (p : Fin 4) : s.portals[p].sound := governed.1.1 p

theorem State.governed.ceiling (governed : s.governed) (p : Fin 4) (used : s.portals[p].used = true)
    (regulating : s.portals[p].state.regulating = true) : s.portals[p].interior ≤ s.portals[p].ceiling :=
  governed.2 p used regulating

/-- A portal regulates only in RUNNING (R78). -/
theorem State.governed.running (governed : s.governed) {p : Fin 4} (regulating : s.portals[p].state.regulating = true) :
    s.mode = .running := by
  cases mode : s.mode with
  | running => rfl
  | transparent =>
    rw [(governed.1.2.1 mode).1 p] at regulating
    cases regulating

/-! ### Expiries of a regulating portal -/

/-- A pass keeps the settings and the timers of a regulating record, and the record steady (R79, R80, R86). -/
theorem Portal.passed_steady (s : State) {r : Portal} (p : Fin 4) {atHold : Bool} (used : r.used = true)
    (regulating : r.state.regulating = true) (hold : r.holdTimer.isSome = true ↔ r.state = .hold ∧ atHold = false)
    (lastGood : r.state = .tracking ∨ r.state = .hold → r.lastGoodLa.isSome = true) :
    (s.passed p r atHold).Steady ∧ (s.passed p r atHold).config = r.config
      ∧ (s.passed p r atHold).passTimer = r.passTimer ∧ (s.passed p r atHold).rampTimer = r.rampTimer := by
  have steady := Portal.Steady.afterStep1 used regulating hold lastGood (s.validMedian r.mainSensor)
    (r.reserveSensor.bind s.validMedian) s.now
  obtain ⟨config, -, -, pass, ramp, -⟩ :=
    r.afterStep1_kept (s.validMedian r.mainSensor) (r.reserveSensor.bind s.validMedian) atHold s.now
  obtain ⟨used, regulating, hold, lastGood⟩ := steady
  exact ⟨⟨used, regulating, hold, lastGood⟩, config, pass, ramp⟩

theorem interior_le_ceiling_of_config {r q : Portal} (same : q.config = r.config) (below : r.interior ≤ r.ceiling) :
    q.interior ≤ q.ceiling := by
  have interior : q.interior = r.interior := (congrArg Portal.interior same :)
  have ceiling : q.ceiling = r.ceiling := (congrArg Portal.ceiling same :)
  rw [interior, ceiling]
  exact below

/-- A pass of a portal whose record `f` has just rewritten. -/
theorem governed_pass (p : Fin 4) (f : Portal → Portal) {atHold immediate : Bool} (running : s.mode = .running)
    (used : (f s.portals[p]).used = true) (regulating : (f s.portals[p]).state.regulating = true)
    (hold : (f s.portals[p]).holdTimer.isSome = true ↔ (f s.portals[p]).state = .hold ∧ atHold = false)
    (lastGood : (f s.portals[p]).state = .tracking ∨ (f s.portals[p]).state = .hold → (f s.portals[p]).lastGoodLa.isSome = true)
    (pass : (f s.portals[p]).passTimer.isSome = true) (ramp : (f s.portals[p]).rampTimer.isSome = true)
    (below : (f s.portals[p]).interior ≤ (f s.portals[p]).ceiling) (governed : s.governed) :
    ((s.mapPortal p f).pass p atHold immediate).governed := by
  obtain ⟨steady, config, passTimer, rampTimer⟩ := Portal.passed_steady (s.mapPortal p f) p used regulating hold lastGood
  refine governed_updPortal p (r := (s.mapPortal p f).passed p (f s.portals[p]) atHold) ?_ ?_ ⟨steady.sound ?_ ?_, fun _ _ => ?_⟩
    (fun _ => running) governed
  · rw [pass_portals, State.mapPortal_portals, updAt_updAt]
    exact updAt_congr s.portals p rfl
  · rw [exceptRegulation_pass, exceptRegulation_mapPortal]
  · rw [passTimer]; exact pass
  · rw [rampTimer]; exact ramp
  · exact interior_le_ceiling_of_config config below

theorem governed_reach (e : Time) (governed : s.governed) : (s.reach e).governed := governed_of_same rfl rfl rfl rfl governed

theorem governed_passExpiry (p : Fin 4) (governed : s.governed) : (s.passExpiry p).governed := by
  unfold State.passExpiry
  split
  · exact governed
  · next e timer =>
    obtain ⟨unused, passTimer, rampTimer, hold, lastGood, _⟩ := governed.sound p
    have regulating : s.portals[p].state.regulating = true := by rw [← passTimer, timer]; rfl
    have used := ((governed.sound p).steady regulating).used
    exact governed_pass (s := s.reach e) p _ (governed.running regulating) used regulating (by simpa using hold) lastGood rfl
      (rampTimer.trans regulating) (governed.ceiling p used regulating) (governed_reach e governed)

theorem governed_holdExpiry (p : Fin 4) (governed : s.governed) : (s.holdExpiry p).governed := by
  unfold State.holdExpiry
  split
  · exact governed
  · next e timer =>
    obtain ⟨unused, passTimer, rampTimer, hold, lastGood, _⟩ := governed.sound p
    have state : s.portals[p].state = .hold := hold.mp (by rw [timer]; rfl)
    have regulating : s.portals[p].state.regulating = true := by rw [state]; rfl
    have used := ((governed.sound p).steady regulating).used
    exact governed_pass (s := s.reach e) p _ (governed.running regulating) used regulating (by simp) lastGood
      (passTimer.trans regulating) (rampTimer.trans regulating) (governed.ceiling p used regulating) (governed_reach e governed)

@[simp] theorem rampZone_portals (s : State) (p : Fin 4) (i : Fin 32) : (s.rampZone p i).portals = s.portals := by
  have leveled (t : State) (g : Fin 48) (l : Nat) (k : LevelKind) : (t.offerLevel g l k).portals = t.portals := by
    unfold State.offerLevel
    split
    · rfl
    · split <;> simp
  have offered (t : State) (k : LevelKind) : (t.offerRamp p i k).portals = t.portals := by
    unfold State.offerRamp
    refine foldl_keeps (fun u : State => u.portals) _ (fun u q => ?_) _ t
    dsimp only
    split
    · exact leveled _ _ _ _
    · rfl
  unfold State.rampZone
  dsimp only
  split
  · exact offered _ _
  · rfl
  · rw [offered]
    split <;> simp

theorem governed_rampExpiry (p : Fin 4) (governed : s.governed) : (s.rampExpiry p).governed := by
  unfold State.rampExpiry
  split
  · exact governed
  · next e timer =>
    obtain ⟨unused, passTimer, rampTimer, hold, lastGood, override⟩ := governed.sound p
    have regulating : s.portals[p].state.regulating = true := by rw [← rampTimer, timer]; rfl
    have below := governed.2 p
    dsimp only
    refine governed_updPortal (s := s.reach e) p
      (r := { s.portals[p] with rampTimer := some ((s.reach e).now + s.portals[p].rampPeriod * msTicks) }) ?_ ?_ ?_
      (fun _ => governed.running regulating) (governed_reach e governed)
    · rw [foldl_keeps (fun u : State => u.portals) _ fun t z => rampZone_portals t p z, State.mapPortal_portals]
      exact updAt_congr s.portals p rfl
    · rw [foldl_keeps (fun u : State => u.exceptRegulation) _ fun t z => exceptRegulation_rampZone t p z,
        exceptRegulation_mapPortal]
    · exact ⟨⟨unused, passTimer, regulating.symm, hold, lastGood, override⟩, below⟩

/-! ### Starting and stopping -/

theorem governed_startPortal (p : Fin 4) (running : s.mode = .running) (used : s.portals[p].used = true)
    (below : s.portals[p].interior ≤ s.portals[p].ceiling) (governed : s.governed) : (s.startPortal p).governed := by
  obtain ⟨steady, config, -, -⟩ := Portal.passed_steady (s.begun p) (r := s.portals[p].started) p (atHold := false) used rfl
    (by simp [Portal.started]) (by simp [Portal.started])
  obtain ⟨used, regulating, hold, lastGood⟩ := steady
  have timed : (((s.begun p).passed p s.portals[p].started false).timed s.now).Steady := ⟨used, regulating, hold, lastGood⟩
  refine governed_updPortal (s := s) p (r := ((s.begun p).passed p s.portals[p].started false).timed s.now) ?_
    (exceptRegulation_startPortal s p) ⟨timed.sound rfl rfl, fun _ _ => ?_⟩ (fun _ => running) governed
  · rw [startPortal_portals]
    exact updAt_congr s.portals p rfl
  · exact interior_le_ceiling_of_config (r := s.portals[p].started) config below

theorem Portal.fit_stopped {r : Portal} (used : r.used = true) : r.stopped.fit := by
  simp [Portal.fit, Portal.sound, Portal.stopped, PortalState.regulating, used]

theorem Portal.fit_discarded {r : Portal} (used : r.used = true) : (r.discarded .standby).fit := by
  simp [Portal.fit, Portal.sound, Portal.discarded, PortalState.regulating, used]

/-- An unused portal does not regulate. -/
theorem Portal.sound.idle {r : Portal} (sound : r.sound) (unused : r.used = false) : r.state.regulating = false := by
  rw [sound.1.mpr unused]
  rfl

theorem governed_standbyPortal (p : Fin 4) (used : s.portals[p].used = true) (governed : s.governed) :
    (s.standbyPortal p).governed := by
  refine governed_updPortal (s := s) p (r := s.portals[p].stopped) ?_ (exceptRegulation_standbyPortal s p) (Portal.fit_stopped used)
    (fun regulating => by cases regulating) governed
  unfold State.standbyPortal
  exact updAt_congr s.portals p rfl

/-- The portals after DEACTIVATE and RESTART: none regulates (R91). -/
theorem governed_off (fit : ∀ p : Fin 4, s.portals[p].fit)
    (portals : t.portals = updAll s.portals fun _ r => if r.used then r.discarded .standby else r) (mode : t.mode = .transparent)
    (poll : t.pollTimer = none) (rescan : t.rescan = .none) : t.governed := by
  have get (p : Fin 4) : t.portals[p] = if s.portals[p].used then s.portals[p].discarded .standby else s.portals[p] := by
    rw [portals, updAll_get]
  refine State.governed_iff.mpr ⟨fun p => ?_, fun _ => ⟨fun p => ?_, poll, rescan⟩, fun running => ?_⟩
  · rw [get]
    split
    · next used => exact Portal.fit_discarded used
    · exact fit p
  · rw [get]
    split
    · rfl
    · next unused => exact (fit p).1.idle (by simpa using unused)
  · rw [mode] at running
    cases running

theorem governed_leaveRunning (governed : s.governed) : s.leaveRunning.governed :=
  governed_off (State.governed_iff.mp governed).1 rfl rfl rfl rfl

theorem governed_restartNow (governed : s.governed) : s.restartNow.governed :=
  governed_off (State.governed_iff.mp governed).1 rfl rfl rfl rfl

/-! ### Polling -/

theorem governed_of_exceptPolling (same : t.exceptPolling = s.exceptPolling) (poll : t.pollTimer.isSome = s.pollTimer.isSome)
    (rescan : s.mode = .transparent → t.rescan = s.rescan) (governed : s.governed) : t.governed := by
  have portals : t.portals = s.portals := (congrArg (fun u : State => u.portals) same :)
  have mode : t.mode = s.mode := (congrArg (fun u : State => u.mode) same :)
  rw [State.governed_iff] at governed ⊢
  rw [portals, mode, poll]
  refine ⟨governed.1, fun off => ?_, governed.2.2⟩
  obtain ⟨idle, stopped, ended⟩ := governed.2.1 off
  rw [stopped] at poll
  exact ⟨idle, by simpa using poll, (rescan off).trans ended⟩

end

section
variable (s : State)

theorem driverChanged_polling (d : Fin 160) (a b : DriverState) :
    (s.driverChanged d a b).pollTimer = s.pollTimer ∧ (s.driverChanged d a b).rescan = s.rescan := by
  unfold State.driverChanged
  split
  · exact ⟨rfl, rfl⟩
  · split
    · exact ⟨rfl, rfl⟩
    · split
      · simp
      · split <;> simp

theorem snoop_polling (d : Fin 160) (c : Byte) (l : BitVec 16) :
    (s.snoop d c l).pollTimer = s.pollTimer ∧ (s.snoop d c l).rescan = s.rescan := by
  have resynced : (s.resync d l.toNat).pollTimer = s.pollTimer ∧ (s.resync d l.toNat).rescan = s.rescan := by
    unfold State.resync
    dsimp only
    split
    · exact ⟨rfl, rfl⟩
    · split <;> exact ⟨rfl, rfl⟩
  unfold State.snoop
  dsimp only
  rw [(driverChanged_polling _ _ _ _).1, (driverChanged_polling _ _ _ _).2]
  exact resynced

theorem chargeMiss_polling (d : Fin 160) (o : PollOrigin) :
    (s.chargeMiss d o).pollTimer = s.pollTimer ∧ (s.chargeMiss d o).rescan = s.rescan := by
  have absent (t : State) : (t.enterAbsent d).pollTimer = t.pollTimer ∧ (t.enterAbsent d).rescan = t.rescan := by
    unfold State.enterAbsent
    dsimp only
    rw [(driverChanged_polling _ _ _ _).1, (driverChanged_polling _ _ _ _).2]
    exact ⟨rfl, rfl⟩
  unfold State.chargeMiss
  dsimp only
  split
  · split
    · rw [(absent _).1, (absent _).2]
      simp
    · split
      · rw [(absent _).1, (absent _).2]
        simp
      · simp
  · exact ⟨rfl, rfl⟩

theorem offerPoll_pollTimer (d : Fin 160) (o : PollOrigin) : (s.offerPoll d o).pollTimer = s.pollTimer := by
  unfold State.offerPoll
  split <;> simp

theorem offerPoll_rescan (d : Fin 160) (o : PollOrigin) : (s.offerPoll d o).rescan = s.rescan := by
  unfold State.offerPoll
  split <;> simp

theorem rescanOffer_pollTimer : s.rescanOffer.pollTimer = s.pollTimer := by
  unfold State.rescanOffer State.rescanEnd
  dsimp only
  split
  · simp
  · split
    · exact offerPoll_pollTimer s _ _
    · split <;> simp

end

section
variable {s : State}

theorem governed_rescanOffer (running : s.mode = .running) (governed : s.governed) : s.rescanOffer.governed :=
  governed_of_exceptPolling (exceptPolling_rescanOffer s) (by rw [rescanOffer_pollTimer])
    (fun off => by rw [running] at off; cases off) governed

/-- In RUNNING the rescan's own fields may change. -/
theorem governed_withRescan (running : s.mode = .running) (x : Rescan) (n : Nat) (governed : s.governed) :
    { s with rescanPosition := n, rescan := x }.governed :=
  governed_of_exceptPolling (s := s) rfl rfl (fun off => by rw [running] at off; cases off) governed

/-- A rescan stands only in RUNNING (R141, R155). -/
theorem State.governed.rescanning (governed : s.governed) (rescan : s.rescan ≠ .none) : s.mode = .running := by
  cases mode : s.mode with
  | running => rfl
  | transparent => exact absurd (governed.1.2.1 mode).2.2 rescan

theorem State.governed.polling (governed : s.governed) (poll : s.pollTimer ≠ none) : s.mode = .running := by
  cases mode : s.mode with
  | running => rfl
  | transparent => exact absurd (governed.1.2.1 mode).2.1 poll

theorem governed_scanWindowEnded (d : Fin 160) (governed : s.governed) : (s.scanWindowEnded d).governed := by
  unfold State.scanWindowEnded
  split
  · exact governed_of_same rfl rfl rfl rfl governed
  · split
    · next walking =>
      have running := governed.rescanning (by rw [walking]; simp)
      exact governed_rescanOffer (s := { s with rescanPosition := d.val + 1 }) running (governed_of_same rfl rfl rfl rfl governed)
    · exact governed

/-- The state at a poll expiry: the poll timer runs again (R53). -/
def State.renewPoll (s : State) (e : Time) : State :=
  { s.reach e with pollTimer := some ((s.reach e).now + (s.reach e).device.pollInterval * msTicks) }

theorem governed_renewPoll {e : Time} (timer : s.pollTimer = some e) (governed : s.governed) : (s.renewPoll e).governed :=
  governed_of_exceptPolling (s := s.reach e) rfl (by rw [State.reach_pollTimer, timer]; rfl) (fun _ => rfl)
    (governed_of_same rfl rfl rfl rfl governed)

theorem governed_pollExpiry (governed : s.governed) : s.pollExpiry.governed := by
  unfold State.pollExpiry
  split
  · exact governed
  · next e timer =>
    have running := governed.polling (by rw [timer]; simp)
    have started := governed_renewPoll timer governed
    dsimp only
    split
    · exact started
    · exact governed_rescanOffer running started
    · split
      · exact started
      · exact governed_of_exceptPolling (s := s.renewPoll e) (exceptPolling_offerPoll _ _ _)
          (congrArg Option.isSome (offerPoll_pollTimer _ _ _)) (fun _ => offerPoll_rescan _ _ _) started

/-! ### ACTIVATE -/

/-- Check 2 lets regulation start with the interior luminance within the ceiling alone (R75, R153). -/
theorem interior_le_ceiling_of_consistency {scope : Option (Fin 4)} (passed : s.consistency scope = none) (p : Fin 4)
    (examined : s.examinesPortal scope p = true) : s.portals[p].interior ≤ s.portals[p].ceiling := by
  have check2 : s.check2 scope = none :=
    List.findSome?_eq_none_iff.mp passed (s.check2 scope) (by simp only [List.mem_cons, true_or, or_true])
  unfold State.check2 firstRow at check2
  have row := List.findSome?_eq_none_iff.mp (Option.map_eq_none_iff.mp check2) p (List.mem_finRange p)
  rw [if_pos examined] at row
  simp only [ownRow, Bool.not_eq_true', Bool.and_eq_false_iff, decide_eq_false_iff_not, ite_eq_right_iff, reduceCtorEq, imp_false,
    not_or, Classical.not_not] at row
  exact row.2

/-- The limits of the portals, which regulation keeps. -/
def State.limits (s : State) (p : Fin 4) : Bool × Nat × Nat := (s.portals[p].used, s.portals[p].interior, s.portals[p].ceiling)

theorem limits_of_configuration {t : State} (same : t.configuration = s.configuration) (p : Fin 4) : t.limits p = s.limits p := by
  have portals : t.portals.map Portal.config = s.portals.map Portal.config := (congrArg (fun u : State => u.portals) same :)
  have record := get_of_map_eq Portal.config portals p
  have used : t.portals[p].used = s.portals[p].used := (congrArg Portal.used record :)
  have interior : t.portals[p].interior = s.portals[p].interior := (congrArg Portal.interior record :)
  have ceiling : t.portals[p].ceiling = s.portals[p].ceiling := (congrArg Portal.ceiling record :)
  unfold State.limits
  rw [used, interior, ceiling]

/-- What an accepted ACTIVATE holds while it starts the portals in turn (R152). -/
def State.starting (s t : State) : Prop := t.governed ∧ t.mode = .running ∧ t.configuration = s.configuration

theorem starting_startPortal {t : State} (below : ∀ p : Fin 4, s.portals[p].used = true → s.portals[p].interior ≤ s.portals[p].ceiling)
    (p : Fin 4) (starting : s.starting t) : s.starting (if t.portals[p].used then t.startPortal p else t) := by
  obtain ⟨governed, running, configuration⟩ := starting
  split
  · next used =>
    have limits := limits_of_configuration configuration p
    simp only [State.limits, Prod.mk.injEq] at limits
    obtain ⟨sameUsed, interior, ceiling⟩ := limits
    refine ⟨governed_startPortal p running used ?_ governed,
      (mode_of_exceptRegulation (exceptRegulation_startPortal t p)).trans running, (configuration_startPortal t p).trans configuration⟩
    rw [interior, ceiling]
    exact below p (sameUsed ▸ used)
  · exact ⟨governed, running, configuration⟩

/-- The state in which an accepted ACTIVATE starts the portals: running, its drivers UNKNOWN, the polling begun (R152). -/
def State.beginPolling (s : State) : State :=
  { ({ s with mode := .running } : State).driversUnknown with
    cursor := 0, pollTimer := some (s.now + s.device.pollInterval * msTicks) }

theorem governed_beginPolling (governed : s.governed) : s.beginPolling.governed := by
  unfold State.beginPolling State.driversUnknown
  refine State.governed_iff.mpr ⟨(State.governed_iff.mp governed).1, fun off => ?_, fun _ => rfl⟩
  cases (off : Mode.running = .transparent)

theorem configuration_beginPolling (s : State) : s.beginPolling.configuration = s.configuration :=
  configuration_driversUnknown { s with mode := .running }

theorem governed_enterRunning (transparent : s.mode = .transparent) (passed : s.consistency none = none) (governed : s.governed) :
    s.enterRunning.governed := by
  have below (p : Fin 4) (used : s.portals[p].used = true) : s.portals[p].interior ≤ s.portals[p].ceiling :=
    interior_le_ceiling_of_consistency passed p (by simpa [State.examinesPortal] using used)
  have idle := (governed.1.2.1 transparent).1
  unfold State.enterRunning State.rescanStart
  dsimp only
  have first : s.starting s.beginPolling :=
    ⟨governed_beginPolling governed, by unfold State.beginPolling State.driversUnknown; rfl, configuration_beginPolling s⟩
  obtain ⟨governed, running, -⟩ := foldl_inv (P := s.starting) _ (fun t p h => starting_startPortal below p h) (List.finRange 4) _ first
  exact governed_rescanOffer running (governed_withRescan running .awaitWindow 0 governed)

/-! ### Requests -/

/-- A SET keeps a portal's record fit: of a regulating one it may not part the interior luminance from the ceiling (R75). -/
theorem Portal.write_fit {r x : Portal} {f : PortalField} {v : Nat} (written : r.write f v = some x) (fit : r.fit) :
    x.fit ∧ (x.state.regulating = true → r.state.regulating = true) := by
  obtain ⟨sound, below⟩ := fit
  cases f with
  | used =>
    obtain ⟨y, _, rfl⟩ := Option.map_eq_some_iff.mp written
    split
    · exact ⟨⟨sound, below⟩, id⟩
    · split
      · next differs used =>
        subst used
        have idle := sound.idle (Bool.eq_false_iff.mpr fun already => differs already.symm)
        obtain ⟨_, pass, ramp, hold, _, override⟩ := sound
        have stopped : PortalState.standby.regulating = r.state.regulating := idle.symm
        refine ⟨⟨⟨by simp, pass.trans stopped.symm, ramp.trans stopped.symm, ⟨fun held => ?_, by simp⟩, by simp,
          fun forced => stopped.trans (override forced)⟩, by simp [PortalState.regulating]⟩, fun on => stopped.symm.trans on⟩
        rw [hold.mp held] at idle
        cases idle
      · simp [Portal.fit, Portal.sound, Portal.discarded, PortalState.regulating]
  | ceiling =>
    simp only [Portal.write, Option.ite_none_left_eq_some] at written
    obtain ⟨apart, written⟩ := written
    obtain ⟨y, inside, rfl⟩ := Option.map_eq_some_iff.mp written
    obtain rfl := (inRange_eq_some_iff.mp inside).1
    refine ⟨⟨sound, fun (used : r.used = true) (regulating : r.state.regulating = true) => ?_⟩, id⟩
    simpa [used, regulating] using apart
  | interior =>
    simp only [Portal.write, Option.ite_none_left_eq_some] at written
    obtain ⟨apart, written⟩ := written
    obtain ⟨y, inside, rfl⟩ := Option.map_eq_some_iff.mp written
    obtain rfl := (inRange_eq_some_iff.mp inside).1
    refine ⟨⟨sound, fun (used : r.used = true) (regulating : r.state.regulating = true) => ?_⟩, id⟩
    simpa [used, regulating] using apart
  | bore | mainSensor | reserveSensor | tolerance | fallbackLuminance | holdTime | passPeriod | rampPeriod | riseStep | fallStep
  | deadband | refreshInterval | initialSpeed | initialTraffic =>
    obtain ⟨y, _, rfl⟩ := Option.map_eq_some_iff.mp written
    exact ⟨⟨sound, below⟩, id⟩
  | _ => cases written

theorem governed_write {after : State} {target : Target} {v : Word} (written : s.write target v = some after)
    (governed : s.governed) : after.governed := by
  cases target with
  | portal p f =>
    obtain ⟨x, record, rfl⟩ := Option.map_eq_some_iff.mp written
    obtain ⟨fit, regulating⟩ := Portal.write_fit record ((State.governed_iff.mp governed).1 p)
    exact governed_updPortal (s := s) p rfl rfl fit (fun on => governed.running (regulating on)) governed
  | flags set f => cases written
  | _ =>
    obtain ⟨x, _, rfl⟩ := Option.map_eq_some_iff.mp written
    exact governed_of_same rfl rfl rfl rfl governed

@[simp] theorem forceZone_portals (s : State) (i : Fin 32) (k : OverrideKind) (l : Nat) (scope : OverrideScope) :
    (s.forceZone i k l scope).portals = s.portals := by
  have leveled (t : State) (g : Fin 48) (l : Nat) (k : LevelKind) : (t.offerLevel g l k).portals = t.portals := by
    unfold State.offerLevel
    split
    · rfl
    · split <;> simp
  have offered (t : State) : (t.offerForce i k).portals = t.portals := by
    unfold State.offerForce
    refine foldl_keeps (fun u : State => u.portals) _ (fun u q => ?_) _ t
    dsimp only
    split
    · split
      · exact leveled _ _ _ _
      · rfl
    · split
      · exact leveled _ _ _ _
      · rfl
  unfold State.forceZone
  rw [offered, State.mapZone_portals]

theorem governed_override {t : State} (p : Fin 4) (o : Option PortalOverride) (regulating : s.portals[p].state.regulating = true)
    (portals : t.portals = updAt s.portals p fun r => { r with override := o }) (same : t.exceptRegulation = s.exceptRegulation)
    (governed : s.governed) : t.governed := by
  have fit := (State.governed_iff.mp governed).1 p
  refine governed_updPortal (s := s) p (r := { s.portals[p] with override := o }) ?_ same ?_ (fun _ => governed.running regulating)
    governed
  · rw [portals]
    exact updAt_congr s.portals p rfl
  · obtain ⟨⟨unused, pass, ramp, hold, lastGood, _⟩, below⟩ := fit
    exact ⟨⟨unused, pass, ramp, hold, lastGood, fun _ => regulating⟩, below⟩

theorem regulating_iff {p : Fin 4} : s.regulating p = true ↔ s.portals[p].used = true ∧ s.portals[p].state.regulating = true := by
  rw [State.regulating, Bool.and_eq_true]

/-- A portal that FORCE or RELEASE reaches regulates (R122, R127). -/
theorem regulating_of_reachable {p : Fin 4} (reachable : s.reachable (.portal p) = true) : s.regulating p = true := by
  simp only [State.reachable, Bool.and_eq_true] at reachable
  exact reachable.2

theorem governed_effect {t : State} (did : Effect s t) (governed : s.governed) : t.governed := by
  cases did with
  | quiet same => exact governed_of_lawful same.lawful governed
  | set _ _ written _ => exact governed_write written governed
  | activate transparent passed => exact governed_enterRunning transparent passed governed
  | deactivate => exact governed_leaveRunning governed
  | standby p _ regulating => exact governed_standbyPortal p (regulating_iff.mp regulating).1 governed
  | resume p running used _ passed =>
    exact governed_startPortal p running used
      (interior_le_ceiling_of_consistency passed p (by simpa [State.examinesPortal] using used)) governed
  | forceZone z k l =>
    exact governed_of_exceptRegulation (exceptRegulation_forceZone s z k _ _) (forceZone_portals s z k _ _) governed
  | forcePortal p k l reachable =>
    refine governed_override p (some { kind := k, level := min 1000 l })
      (regulating_iff.mp (regulating_of_reachable reachable)).2 ?_ (exceptRegulation_forcePortal s p k _) governed
    unfold State.forcePortal
    dsimp only
    rw [foldl_keeps (fun u : State => u.portals) _ fun t z => forceZone_portals t z k _ _, State.mapPortal_portals]
  | releaseZone z => exact governed_of_same rfl rfl rfl rfl governed
  | releasePortal p reachable =>
    exact governed_override p none (regulating_iff.mp (regulating_of_reachable reachable)).2 rfl
      (exceptRegulation_releasePortal s p) governed
  | rescan running _ => exact governed_rescanOffer running (governed_withRescan running .awaitWindow 0 governed)

/-- Every portal's record is rewritten, its state kept. -/
theorem governed_updAll {t : State} (f : Fin 4 → Portal → Portal) (fit : ∀ p : Fin 4, s.portals[p].fit → (f p s.portals[p]).fit)
    (state : ∀ p : Fin 4, (f p s.portals[p]).state = s.portals[p].state) (portals : t.portals = updAll s.portals f)
    (mode : t.mode = s.mode) (poll : t.pollTimer = s.pollTimer) (rescan : t.rescan = s.rescan) (governed : s.governed) :
    t.governed := by
  rw [State.governed_iff] at governed ⊢
  rw [portals, mode, poll, rescan]
  refine ⟨fun p => ?_, fun off => ⟨fun p => ?_, (governed.2.1 off).2⟩, governed.2.2⟩
  · rw [updAll_get]
    exact fit p (governed.1 p)
  · rw [updAll_get, state]
    exact (governed.2.1 off).1 p

theorem governed_captureTraffic (pl : List Byte) (governed : s.governed) : (s.captureTraffic pl).governed := by
  unfold State.captureTraffic
  split
  · exact governed_of_same rfl rfl rfl rfl governed
  · next bore speed traffic _ =>
    refine governed_updAll (fun _ r => if r.used && r.bore == bore then { r with speed := speed, traffic := traffic } else r)
      (fun p => ?_) (fun p => ?_) rfl rfl rfl rfl governed
    · split <;> exact id
    · split <;> rfl

end

theorem governed_powerOn (addr : BitVec 4) (rate : BitVec 2) : (State.powerOn addr rate).governed := by
  simp [State.governed, State.regulationSound, State.interiorBelowCeiling, State.powerOn, Portal.sound, Portal.reset,
    PortalState.regulating]

section
variable {s : State}

theorem governed_offerPassF (f : Frame) (governed : s.governed) : (s.offerPassF f).governed := by
  unfold State.offerPassF
  split
  · exact governed_of_same rfl rfl rfl rfl governed
  · exact governed_of_same (by simp) (by simp) (by simp) (by simp) governed

theorem governed_ageExpiry (i : Fin 8) (governed : s.governed) : (s.ageExpiry i).governed := by
  unfold State.ageExpiry
  split
  · exact governed
  · dsimp only
    split <;> exact governed_of_same rfl rfl rfl rfl governed

theorem governed_pulseEdge (n : Fin 4) (governed : s.governed) : (s.pulseEdge n).governed := by
  unfold State.pulseEdge
  split
  · exact governed_of_same rfl rfl rfl rfl governed
  · exact governed

theorem governed_gateExpiry (n : Fin 4) (governed : s.governed) : (s.gateExpiry n).governed := by
  unfold State.gateExpiry
  split
  · exact governed
  · dsimp only
    split
    · exact governed_of_same rfl rfl rfl rfl governed
    · exact foldl_inv _ (fun t i governed => governed_of_exceptSensing (exceptSensing_sensorGood t i _) governed) _ _
        (governed_of_same rfl rfl rfl rfl governed)

theorem governed_startF (e : FEntry) (rest : List FEntry) (governed : s.governed) : (s.startF e rest).governed := by
  unfold State.startF State.clearPending
  dsimp only
  split <;> exact governed_of_same (by simp) (by simp) (by simp) (by simp) governed

end

theorem kept_governed : Kept State.governed where
  quiet := governed_of_lawful
  powerOn := governed_powerOn
  offerCandidate s i c := governed_of_exceptSensing (exceptSensing_offerCandidate s i c)
  captureTraffic _ pl := governed_captureTraffic pl
  snoop s d c l := governed_of_exceptPolling (exceptPolling_snoop s d c l) (congrArg Option.isSome (snoop_polling s d c l).1)
    fun _ => (snoop_polling s d c l).2
  offerPassF _ f := governed_offerPassF f
  effect := governed_effect
  chargeMiss s d o := governed_of_exceptPolling (exceptPolling_chargeMiss s d o) (congrArg Option.isSome (chargeMiss_polling s d o).1)
    fun _ => (chargeMiss_polling s d o).2
  scanWindowEnded _ d := governed_scanWindowEnded d
  pollExpiry _ := governed_pollExpiry
  ageExpiry _ i := governed_ageExpiry i
  pulseEdge _ n := governed_pulseEdge n
  gateExpiry _ n := governed_gateExpiry n
  passExpiry _ p := governed_passExpiry p
  holdExpiry _ p := governed_holdExpiry p
  rampExpiry _ p := governed_rampExpiry p
  startF _ e rest _ := governed_startF e rest
  restartNow _ := governed_restartNow
  secondExpiry _ governed := governed_of_same rfl rfl rfl rfl governed

/-- Settles O56: a portal's timers run with its regulation, and it regulates only in RUNNING, where the poll timer runs. -/
theorem stepKeepsRegulationSound : Obligations.StepKeepsRegulationSound :=
  fun _ _ governed answers => kept_governed.step answers governed

end Sys2Proof.Machine

/-! SUPPORT. Why every step keeps the sizes of the queues, the pending marks and the request slots (R34, R39, R41, R144, R158). -/

namespace Sys2Proof.Machine

set_option Elab.async false

/-! ### Slots -/

/-- Each slot is kept by a response that found the C queue full, or by a pending RESTART. -/
def State.queued (s : State) : Prop := s.queuesSound ∧ s.slotsSound

/-- Is what a slot holds there for a reason (R41, R144)? -/
def Slot.held (r : Slot) (q : List CEntry) (restart : Bool) : Prop := if r.response.isSome then q.length = 16 else restart = true

section
variable {s t : State}

theorem slotsSound_iff :
    s.slotsSound ↔ (∀ r, s.slot0 = some r → r.held s.cQueue s.restartPending) ∧ ∀ r, s.slot1 = some r → r.held s.cQueue s.restartPending := by
  constructor
  · intro sound
    exact ⟨sound .zero, sound .one⟩
  · rintro ⟨zero, one⟩ k
    cases k with
    | zero => exact zero
    | one => exact one

theorem Slot.held_mono {r : Slot} {q q' : List CEntry} {b b' : Bool} (full : q.length = 16 → q'.length = 16) (restart : b = true → b' = true)
    (held : r.held q b) : r.held q' b' := by
  unfold Slot.held at held ⊢
  split
  · next waits => exact full (by rwa [if_pos waits] at held)
  · next fresh => exact restart (by rwa [if_neg fresh] at held)

theorem slotsSound_of_kept (adds : AlertsAdded s.cQueue t.cQueue) (slot0 : t.slot0 = s.slot0) (slot1 : t.slot1 = s.slot1)
    (restart : s.restartPending = true → t.restartPending = true) (sound : s.slotsSound) : t.slotsSound := by
  rw [slotsSound_iff] at sound ⊢
  rw [slot0, slot1]
  exact ⟨fun r here => Slot.held_mono adds.full restart (sound.1 r here), fun r here => Slot.held_mono adds.full restart (sound.2 r here)⟩

/-- The slots, the mark of a pending RESTART, the supply and the receivers. -/
def State.slots (s : State) : Option Slot × Option Slot × Bool × Bool × Bool × Bool × Receiver × Receiver :=
  (s.slot0, s.slot1, s.restartPending, s.outer)

/-- The queues move as the law of the queues allows, only ALERTs join the C queue, and the slots, the supply and the receivers are left alone; a
RESTART may come to be pending. -/
structure Orderly (s t : State) : Prop where
  regular : Regular s t
  slot0 : t.slot0 = s.slot0
  slot1 : t.slot1 = s.slot1
  restart : s.restartPending = true → t.restartPending = true
  outer : t.outer = s.outer

theorem Orderly.of_slots (regular : Regular s t) (same : t.slots = s.slots) : Orderly s t :=
  ⟨regular, congrArg (·.1) same, congrArg (·.2.1) same, fun pending => (congrArg (·.2.2.1) same).trans pending,
    congrArg (·.2.2.2) same⟩

theorem Orderly.keeps (moved : Orderly s t) (queued : s.queued) : t.queued :=
  ⟨moved.regular.2 queued.1, slotsSound_of_kept moved.regular.1 moved.slot0 moved.slot1 moved.restart queued.2⟩

theorem Orderly.trans {u : State} (h : Orderly s t) (h' : Orderly t u) : Orderly s u :=
  ⟨h.regular.trans h'.regular, h'.slot0.trans h.slot0, h'.slot1.trans h.slot1,
    fun r => h'.restart (h.restart r), h'.outer.trans h.outer⟩

theorem Orderly.refl (s : State) : Orderly s s := .of_slots (.refl s) rfl

theorem slots_of_exceptSensing (same : t.exceptSensing = s.exceptSensing) : t.slots = s.slots :=
  (congrArg (fun u : State => u.slots) same :)

theorem slots_of_exceptRegulation (same : t.exceptRegulation = s.exceptRegulation) : t.slots = s.slots :=
  (congrArg (fun u : State => u.slots) same :)

theorem slots_of_exceptPolling (same : t.exceptPolling = s.exceptPolling) : t.slots = s.slots :=
  (congrArg (fun u : State => u.slots) same :)

@[simp] theorem slots_count (s : State) (c : Fin 16) (a : CounterScope → Nat) : (s.count c a).slots = s.slots := by
  simp [State.slots, State.outer]

@[simp] theorem slots_deviceEvent (s : State) (f : DeviceFlag) (o : Byte) (v : Nat) : (s.deviceEvent f o v).slots = s.slots := by
  simp [State.slots, State.outer]

end

/-! ### What moves nothing -/

section
variable {s t : State}

theorem Unmoved.orderly (same : Unmoved s t) : Orderly s t := by
  have queue : t.fQueue = s.fQueue := (congrArg (fun u : State => u.fQueue) same.lawful :)
  have groups : t.groups = s.groups := (congrArg (fun u : State => u.groups) same.lawful :)
  exact ⟨.of_quiet queue same.adds fun g => by rw [groups], same.slot0, same.slot1, same.restart, same.outer⟩

theorem queued_setRx (s : State) (port : Port) (r : Receiver) (queued : s.queued) : (s.setRx port r).queued := by
  obtain ⟨queues, slots⟩ := queued
  cases port <;> exact ⟨(Regular.of_same rfl rfl rfl).2 queues, slotsSound_of_kept (.of_eq rfl) rfl rfl id slots⟩

/-! ### Requests -/

theorem writeGroup_pendingMark {g : Fin 48} {f : GroupField} {v : Nat} {x : Group} (written : s.writeGroup g f v = some x) :
    x.pendingMark = s.groups[g].pendingMark := by
  cases f with
  | used =>
    obtain ⟨y, _, rfl⟩ := Option.map_eq_some_iff.mp written
    unfold Group.setUsed
    split <;> rfl
  | owner =>
    obtain ⟨y, _, rfl⟩ := Option.map_eq_some_iff.mp written
    unfold Group.setOwner
    split <;> rfl
  | dmin =>
    simp only [State.writeGroup, Option.ite_none_left_eq_some] at written
    obtain ⟨y, _, rfl⟩ := Option.map_eq_some_iff.mp written.2
    rfl
  | groupAddress | rated | depreciation | mfFloor | burnHours =>
    obtain ⟨y, _, rfl⟩ := Option.map_eq_some_iff.mp written
    rfl
  | _ => cases written

theorem Orderly.write {after : State} {target : Target} {v : Word} (written : s.write target v = some after) : Orderly s after := by
  cases target with
  | group g f =>
    obtain ⟨x, record, rfl⟩ := Option.map_eq_some_iff.mp written
    refine .of_slots (.of_quiet rfl (.refl _) fun j => ?_) rfl
    dsimp only
    rw [updAt_get]
    split
    · next same => exact same ▸ writeGroup_pendingMark record
    · rfl
  | flags set f => cases written
  | _ =>
    obtain ⟨x, _, rfl⟩ := Option.map_eq_some_iff.mp written
    exact .of_slots (.of_same rfl rfl rfl) rfl

theorem FEntry.own_of_isLevelOf {e : FEntry} {g : Fin 48} (level : e.isLevelOf g = true) : e.own = true := by
  cases e with
  | level h l k => rfl
  | passThrough f => cases level
  | poll d o => cases level

theorem Orderly.removeOwnEntries (s : State) : Orderly s s.removeOwnEntries := by
  refine .of_slots ⟨.refl _, fun sound => ?_⟩ rfl
  obtain ⟨room, roomC, marks⟩ := sound
  have left (g : Fin 48) : (s.fQueue.filter fun e => !e.own).countP (·.isLevelOf g) = 0 := by
    refine List.countP_eq_zero.mpr fun e member level => ?_
    have foreign := (List.mem_filter.mp member).2
    rw [FEntry.own_of_isLevelOf level] at foreign
    cases foreign
  have mark (g : Fin 48) : s.removeOwnEntries.groups[g].pendingMark = false := by
    unfold State.removeOwnEntries
    dsimp only
    rw [updAll_get]
    split
    · rfl
    · next none =>
      have count : s.fQueue.countP (·.isLevelOf g) = 0 := by
        rw [List.countP_eq_zero]
        simpa using none
      have mark := marks g
      rw [count] at mark
      refine Classical.byContradiction fun marked => ?_
      rw [if_pos (by simpa using marked)] at mark
      cases mark
  refine ⟨Nat.le_trans (List.length_filter_le _ _) room, roomC, fun g => (left g).trans ?_⟩
  rw [mark]
  rfl

theorem Orderly.startPortal (s : State) (p : Fin 4) : Orderly s (s.startPortal p) :=
  .of_slots (.startPortal s p) (slots_of_exceptRegulation (exceptRegulation_startPortal s p))

theorem Orderly.foldl {α : Type} (f : State → α → State) (h : ∀ t x, Orderly t (f t x)) (l : List α) (s : State) :
    Orderly s (l.foldl f s) := by
  induction l generalizing s with
  | nil => exact .refl s
  | cons x l ih => exact (h s x).trans (ih _)

theorem Orderly.driversUnknown (s : State) : Orderly s s.driversUnknown :=
  .of_slots (.driversUnknown s) (slots_of_exceptPolling (exceptPolling_driversUnknown s))

theorem Orderly.rescanStart (s : State) : Orderly s s.rescanStart :=
  .of_slots (.rescanStart s) (slots_of_exceptPolling (exceptPolling_rescanStart s))

theorem Orderly.enterRunning (s : State) : Orderly s s.enterRunning := by
  unfold State.enterRunning
  have running : Orderly s { s with mode := .running } := .of_slots (.of_same rfl rfl rfl) rfl
  have unknown := running.trans (.driversUnknown _)
  have polling : Orderly s { ({ s with mode := .running } : State).driversUnknown with
      cursor := 0, pollTimer := some (s.now + s.device.pollInterval * msTicks) } :=
    unknown.trans (.of_slots (.of_same rfl rfl rfl) rfl)
  refine (polling.trans (.foldl _ (fun t p => ?_) _ _)).trans (.rescanStart _)
  split
  · exact .startPortal t p
  · exact .refl t

theorem Orderly.leaveRunning (s : State) : Orderly s s.leaveRunning := by
  have off : Orderly s { s with mode := .transparent } := .of_slots (.of_same rfl rfl rfl) rfl
  have discarded := off.trans (.of_slots (.discardRegulation _) (slots_of_exceptRegulation (exceptRegulation_discardRegulation _)))
  exact (discarded.trans (.removeOwnEntries _)).trans
    (.of_slots (.abandonRescan _) (slots_of_exceptPolling (exceptPolling_abandonRescan _)))

theorem Orderly.effect (did : Effect s t) : Orderly s t := by
  cases did with
  | quiet same => exact same.orderly
  | set _ _ written _ => exact .write written
  | activate => exact .enterRunning s
  | deactivate => exact .leaveRunning s
  | standby p => exact .of_slots (.standbyPortal s p) (slots_of_exceptRegulation (exceptRegulation_standbyPortal s p))
  | resume p => exact .startPortal s p
  | forceZone z k l => exact .of_slots (.forceZone s z k _ _) (slots_of_exceptRegulation (exceptRegulation_forceZone s z k _ _))
  | forcePortal p k l => exact .of_slots (.forcePortal s p k _) (slots_of_exceptRegulation (exceptRegulation_forcePortal s p k _))
  | releaseZone z => exact .of_slots (.mapZone s z _) rfl
  | releasePortal p => exact .of_slots (.of_same rfl rfl rfl) rfl
  | rescan => exact .rescanStart s

theorem Orderly.runPayload (s : State) (src : Byte) (pl : List Byte) : Orderly s (s.runPayload src pl).state := by
  unfold State.runPayload
  split
  · exact .refl s
  · split
    · exact .effect (runRequest_effect s _)
    · exact .refl s

/-! ### The slots of requests and responses -/

theorem slotAt_setSlot (s : State) (k j : SlotIndex) (v : Option Slot) :
    (s.setSlot k v).slotAt j = if j = k then v else s.slotAt j := by
  cases k <;> cases j <;> rfl

@[simp] theorem setSlot_cQueue (s : State) (k : SlotIndex) (v : Option Slot) : (s.setSlot k v).cQueue = s.cQueue := by cases k <;> rfl
@[simp] theorem setSlot_restartPending (s : State) (k : SlotIndex) (v : Option Slot) :
    (s.setSlot k v).restartPending = s.restartPending := by cases k <;> rfl

theorem queuesSound_setSlot (k : SlotIndex) (v : Option Slot) (sound : s.queuesSound) : (s.setSlot k v).queuesSound := by
  cases k <;> exact sound

theorem slotsSound_iff_held : s.slotsSound ↔ ∀ k r, s.slotAt k = some r → r.held s.cQueue s.restartPending := Iff.rfl

/-- A slot is written. -/
theorem slotsSound_setSlot (k : SlotIndex) {v : Option Slot} (here : ∀ r, v = some r → r.held s.cQueue s.restartPending)
    (others : ∀ j, j ≠ k → ∀ r, s.slotAt j = some r → r.held s.cQueue s.restartPending) : (s.setSlot k v).slotsSound := by
  rw [slotsSound_iff_held]
  intro j r
  rw [slotAt_setSlot, setSlot_cQueue, setSlot_restartPending]
  split
  · exact here r
  · next other => exact others j other r

/-- A response offered: while it found room, no other slot was waiting for room. -/
theorem queued_offerResponse (k : SlotIndex) (e : CEntry) (sound : s.queuesSound)
    (others : ∀ j, j ≠ k → ∀ r, s.slotAt j = some r → r.response.isSome = true ∧ s.cQueue.length = 16) :
    (s.offerResponse k e).queued := by
  obtain ⟨room, roomC, marks⟩ := sound
  unfold State.offerResponse
  split
  · next space =>
    refine ⟨queuesSound_setSlot k none ⟨room, ?_, marks⟩, slotsSound_setSlot k (by simp) fun j other r here => ?_⟩
    · simp only [List.length_append, List.length_singleton]
      omega
    · have full : s.cQueue.length = 16 := (others j other r (by cases j <;> exact here)).2
      omega
  · next full =>
    have full : s.cQueue.length = 16 := by omega
    refine ⟨queuesSound_setSlot k _ ⟨room, roomC, marks⟩, slotsSound_setSlot k (fun r here => ?_) fun j other r here => ?_⟩
    · obtain ⟨q, _, rfl⟩ := Option.map_eq_some_iff.mp here
      exact full
    · unfold Slot.held
      rw [if_pos (others j other r here).1]
      exact full

/-- A slot held with no RESTART pending waits for room. -/
theorem Slot.held_of_idle {r : Slot} {q : List CEntry} {restart : Bool} (held : r.held q restart) (idle : ¬ restart = true) :
    r.response.isSome = true ∧ q.length = 16 := by
  unfold Slot.held at held
  split at held
  · next waits => exact ⟨waits, held⟩
  · exact absurd held idle

theorem Orderly.slotAt (moved : Orderly s t) (k : SlotIndex) : t.slotAt k = s.slotAt k := by
  cases k with
  | zero => exact moved.slot0
  | one => exact moved.slot1

theorem queued_handRequest (f : Frame) (queued : s.queued) : (s.handRequest f).queued := by
  obtain ⟨queues, slots⟩ := queued
  unfold State.handRequest
  split
  · exact ((Unmoved.count s _ _).trans (.deviceEvent _ _ _ _)).orderly.keeps ⟨queues, slots⟩
  · next k _ =>
    have placed : (s.occupy k f).queuesSound := queuesSound_setSlot k _ queues
    have others (j : SlotIndex) (other : j ≠ k) : (s.occupy k f).slotAt j = s.slotAt j := by
      have set : (s.occupy k f).slotAt j =
          (s.setSlot k (some { request := f, moment := s.now, number := s.placed, response := none })).slotAt j := by cases j <;> rfl
      rw [set, slotAt_setSlot, if_neg other]
    split
    · next pending =>
      refine ⟨placed, slotsSound_setSlot k (fun r here => ?_) fun j _ r here => slots j r here⟩
      obtain rfl := Option.some.inj here
      exact pending
    · next idle =>
      unfold State.executeSlot
      have run := Orderly.runPayload (s.occupy k f) f.src f.payload
      refine queued_offerResponse k _ (run.regular.2 placed) fun j other r here => ?_
      rw [run.slotAt, others j other] at here
      have queue : (s.occupy k f).cQueue = s.cQueue := setSlot_cQueue s k _
      have adds := run.regular.1
      rw [queue] at adds
      obtain ⟨waits, full⟩ := Slot.held_of_idle (slots j r here) idle
      exact ⟨waits, adds.full full⟩

/-- With fewer than 16 entries no slot waits for room, and with no RESTART pending a slot is held for no other reason. -/
theorem no_slot_of_room (queued : s.queued) (space : s.cQueue.length < 16) (k : SlotIndex) {r : Slot} (here : s.slotAt k = some r) :
    r.response = none ∧ s.restartPending = true := by
  have held := queued.2 k r here
  cases response : r.response with
  | none => simpa [response] using held
  | some e =>
    rw [response] at held
    have full : s.cQueue.length = 16 := held
    omega

theorem queued_offerPassC (f : Frame) (queued : s.queued) : (s.offerPassC f).queued := by
  refine ⟨queuesSound_offerPassC s f queued.1, ?_⟩
  unfold State.offerPassC
  split
  · next space =>
    intro k r here
    obtain ⟨fresh, pending⟩ := no_slot_of_room queued space k (r := r) (by cases k <;> exact here)
    rw [fresh]
    exact pending
  · exact (((Unmoved.count s _ _).trans (.deviceEvent _ _ _ _)).orderly.keeps queued).2

/-! ### Picks -/

/-- The response placed is one that waits in its slot (R41). -/
theorem slotAt_of_oldestWaiting {k : SlotIndex} {e : CEntry} (oldest : s.oldestWaiting = some (k, e)) :
    ∃ r, s.slotAt k = some r ∧ r.response = some e := by
  unfold State.oldestWaiting at oldest
  split at oldest
  · cases oldest
  · next waits _ =>
    obtain ⟨rfl, rfl⟩ := Prod.mk.inj (Option.some.inj oldest)
    exact Option.bind_eq_some_iff.mp waits
  · next waits =>
    obtain ⟨rfl, rfl⟩ := Prod.mk.inj (Option.some.inj oldest)
    exact Option.bind_eq_some_iff.mp waits
  · next waits0 waits1 =>
    split at oldest
    · obtain ⟨rfl, rfl⟩ := Prod.mk.inj (Option.some.inj oldest)
      exact Option.bind_eq_some_iff.mp waits0
    · obtain ⟨rfl, rfl⟩ := Prod.mk.inj (Option.some.inj oldest)
      exact Option.bind_eq_some_iff.mp waits1

theorem response_none_of_oldestWaiting (none : s.oldestWaiting = none) (k : SlotIndex) {r : Slot} (here : s.slotAt k = some r) :
    r.response = .none := by
  unfold State.oldestWaiting at none
  split at none
  · next first second =>
    cases k with
    | zero => exact Option.bind_eq_none_iff.mp first r here
    | one => exact Option.bind_eq_none_iff.mp second r here
  · cases none
  · cases none
  · split at none <;> cases none

theorem queued_startC (e : CEntry) (rest : List CEntry) (picked : pickLowest CEntry.priority s.cQueue = some (e, rest))
    (queued : s.queued) : (s.startC e rest).queued := by
  have length := pickLowest_length _ _ _ _ picked
  obtain ⟨⟨room, roomC, marks⟩, slots⟩ := queued
  have slotAt (k : SlotIndex) : ({ s with cQueue := rest, cTx := .sending e } : State).slotAt k = s.slotAt k := by cases k <;> rfl
  unfold State.startC State.placeWaiting
  split
  · next none =>
    refine ⟨⟨room, by dsimp only; omega, marks⟩, fun k r here => ?_⟩
    have fresh := response_none_of_oldestWaiting none k here
    rw [slotAt] at here
    have held := slots k r here
    rw [fresh] at held ⊢
    exact held
  · next k e oldest =>
    obtain ⟨r, here, waits⟩ := slotAt_of_oldestWaiting oldest
    rw [slotAt] at here
    have held := slots k r here
    rw [waits] at held
    have full : s.cQueue.length = 16 := held
    have refilled : (rest ++ [e]).length = 16 := by
      rw [List.length_append, List.length_singleton]
      omega
    refine ⟨queuesSound_setSlot k none ⟨room, Nat.le_of_eq refilled, marks⟩, slotsSound_setSlot k (by simp) fun j _ q there => ?_⟩
    have there : s.slotAt j = some q := by cases j <;> exact there
    exact Slot.held_mono (fun _ => refilled) id (slots j q there)

theorem queued_pickC (queued : s.queued) : s.pickC.queued := by
  unfold State.pickC
  split
  · next picked =>
    split
    · exact queued_startC _ _ picked queued
    · exact queued
  · exact queued

theorem queued_startF (e : FEntry) (rest : List FEntry) (picked : pickLowest FEntry.priority s.fQueue = some (e, rest))
    (queued : s.queued) : (s.startF e rest).queued := by
  obtain ⟨⟨room, roomC, marks⟩, slots⟩ := queued
  have length := pickLowest_length _ _ _ _ picked
  obtain ⟨before, after, split, left, -, -⟩ := pickLowest_split _ _ _ _ picked
  have counts (g : Fin 48) : s.fQueue.countP (·.isLevelOf g) = rest.countP (·.isLevelOf g) + if e.isLevelOf g then 1 else 0 := by
    rw [split, left, List.countP_append, List.countP_append, List.countP_cons]
    omega
  unfold State.startF
  refine (Unmoved.count _ _ _).orderly.keeps ?_
  cases e with
  | level h l k =>
    refine ⟨⟨by show rest.length ≤ 32; omega, roomC, fun g => ?_⟩, slots⟩
    show rest.countP (·.isLevelOf g)
      = if (updAt s.groups h fun r => { r with pendingMark := false })[g].pendingMark = true then 1 else 0
    have count := counts g
    rw [marks g] at count
    rw [updAt_get]
    by_cases same : h = g
    · subst same
      have entry : (FEntry.level h l k).isLevelOf h = true := by simp [FEntry.isLevelOf]
      rw [entry, if_pos rfl] at count
      rw [if_pos rfl, if_neg (by simp)]
      split at count <;> omega
    · have other : (FEntry.level h l k).isLevelOf g = false := by simp [FEntry.isLevelOf, same]
      rw [other] at count
      rw [if_neg same]
      exact count.symm
  | passThrough f =>
    refine ⟨⟨by show rest.length ≤ 32; omega, roomC, fun g => ?_⟩, slots⟩
    exact (counts g).symm.trans (marks g)
  | poll d o =>
    refine ⟨⟨by show rest.length ≤ 32; omega, roomC, fun g => ?_⟩, slots⟩
    exact (counts g).symm.trans (marks g)

/-! ### The other operations -/

theorem queued_emptyQueues (slot0 : s.slot0 = none) (slot1 : s.slot1 = none) : s.emptyQueues.queued := by
  refine ⟨⟨Nat.zero_le _, Nat.zero_le _, fun g => ?_⟩, slotsSound_iff.mpr ⟨fun r here => ?_, fun r here => ?_⟩⟩
  · rw [emptyQueues_groups]
    rfl
  · cases slot0.symm.trans here
  · cases slot1.symm.trans here

theorem Orderly.restarted (s : State) :
    Orderly s.emptyQueues s.emptyQueues.restartSensing.driversUnknown.abandonRescan.discardRegulation := by
  have sensed (t : State) : Orderly t t.restartSensing := .of_slots (.of_same rfl rfl rfl) rfl
  exact ((sensed _).trans (.driversUnknown _)).trans <|
    (Orderly.of_slots (.abandonRescan _) (slots_of_exceptPolling (exceptPolling_abandonRescan _))).trans
      (.of_slots (.discardRegulation _) (slots_of_exceptRegulation (exceptRegulation_discardRegulation _)))

theorem queued_restartNow (s : State) : s.restartNow.queued := by
  unfold State.restartNow
  exact Orderly.keeps (.restarted _) (queued_emptyQueues rfl rfl)

theorem Orderly.captureTraffic (s : State) (pl : List Byte) : Orderly s (s.captureTraffic pl) := by
  unfold State.captureTraffic
  split
  · exact (Unmoved.count s _ _).orderly
  · exact .of_slots (.withPortals s _) rfl

theorem Orderly.offerPassF (s : State) (f : Frame) : Orderly s (s.offerPassF f) := by
  refine .of_slots (.offerPassF s f) ?_
  unfold State.offerPassF
  split
  · rfl
  · simp

theorem Orderly.reach (s : State) (e : Time) : Orderly s (s.reach e) := (Unmoved.reach s e).orderly

theorem Orderly.offerPoll (s : State) (d : Fin 160) (o : PollOrigin) : Orderly s (s.offerPoll d o) :=
  .of_slots (.offerPoll s d o) (slots_of_exceptPolling (exceptPolling_offerPoll s d o))

theorem Orderly.pollExpiry (s : State) : Orderly s s.pollExpiry := by
  refine .of_slots (.pollExpiry s) ?_
  unfold State.pollExpiry
  split
  · rfl
  · dsimp only
    split
    · rfl
    · exact (slots_of_exceptPolling (exceptPolling_rescanOffer _)).trans rfl
    · split
      · rfl
      · exact (slots_of_exceptPolling (exceptPolling_offerPoll _ _ _)).trans rfl

theorem Orderly.ageExpiry (s : State) (i : Fin 8) : Orderly s (s.ageExpiry i) := by
  unfold State.ageExpiry
  split
  · exact .refl s
  · dsimp only
    split <;> exact .of_slots (.of_same rfl rfl rfl) rfl

theorem Orderly.pulseEdge (s : State) (n : Fin 4) : Orderly s (s.pulseEdge n) := by
  unfold State.pulseEdge
  split
  · exact .of_slots (.of_same rfl rfl rfl) rfl
  · exact .refl s

theorem Orderly.gateExpiry (s : State) (n : Fin 4) : Orderly s (s.gateExpiry n) := by
  unfold State.gateExpiry
  split
  · exact .refl s
  · dsimp only
    split
    · exact .of_slots (.of_same rfl rfl rfl) rfl
    · refine Orderly.trans ?_ (.foldl _ (fun t i => ?_) _ _)
      · exact .of_slots (.of_same rfl rfl rfl) rfl
      · exact .of_slots (.withSensors t _) rfl

theorem Orderly.passExpiry (s : State) (p : Fin 4) : Orderly s (s.passExpiry p) := by
  refine .of_slots (.passExpiry s p) ?_
  unfold State.passExpiry
  split
  · rfl
  · exact (slots_of_exceptRegulation (exceptRegulation_pass _ p _ _)).trans rfl

theorem Orderly.holdExpiry (s : State) (p : Fin 4) : Orderly s (s.holdExpiry p) := by
  refine .of_slots (.holdExpiry s p) ?_
  unfold State.holdExpiry
  split
  · rfl
  · exact (slots_of_exceptRegulation (exceptRegulation_pass _ p _ _)).trans rfl

theorem Orderly.rampExpiry (s : State) (p : Fin 4) : Orderly s (s.rampExpiry p) := by
  refine .of_slots (.rampExpiry s p) ?_
  unfold State.rampExpiry
  split
  · rfl
  · exact foldl_keeps State.slots _ (fun t z => slots_of_exceptRegulation (exceptRegulation_rampZone t p z)) _ _

theorem Group.burn_pendingMark (g : Group) : g.burn.pendingMark = g.pendingMark := by
  unfold Group.burn
  split
  · split <;> rfl
  · rfl

theorem Orderly.secondExpiry (s : State) : Orderly s s.secondExpiry := by
  unfold State.secondExpiry
  refine Orderly.trans ?_ (((Unmoved.count _ _ _).trans (.count _ _ _)).orderly)
  refine .of_slots (.of_quiet rfl (.refl _) fun g => ?_) rfl
  dsimp only
  rw [updAll_get]
  exact Group.burn_pendingMark _

end

theorem queued_powerOn (addr : BitVec 4) (rate : BitVec 2) : (State.powerOn addr rate).queued := by
  refine ⟨⟨Nat.zero_le _, Nat.zero_le _, fun g => ?_⟩, fun k r here => ?_⟩
  · simp [State.powerOn, Group.reset]
  · cases k <;> cases here

theorem queued_of_unsupplied {s t : State} (same : t.unsupplied = s.unsupplied) (queued : s.queued) : t.queued := by
  have fQueue : t.fQueue = s.fQueue := (congrArg (fun u : State => u.fQueue) same :)
  have cQueue : t.cQueue = s.cQueue := (congrArg (fun u : State => u.cQueue) same :)
  have groups : t.groups = s.groups := (congrArg (fun u : State => u.groups) same :)
  have slot0 : t.slot0 = s.slot0 := (congrArg (fun u : State => u.slot0) same :)
  have slot1 : t.slot1 = s.slot1 := (congrArg (fun u : State => u.slot1) same :)
  have restart : t.restartPending = s.restartPending := (congrArg (fun u : State => u.restartPending) same :)
  exact ⟨(Regular.of_same fQueue cQueue groups).2 queued.1,
    slotsSound_of_kept (.of_eq cQueue) slot0 slot1 (fun pending => restart.trans pending) queued.2⟩

theorem Orderly.offerCandidate (s : State) (i : Fin 8) (c : Candidate) : Orderly s (s.offerCandidate i c) :=
  .of_slots (.offerCandidate s i c) (slots_of_exceptSensing (exceptSensing_offerCandidate s i c))

theorem Orderly.snoop (s : State) (d : Fin 160) (c : Byte) (l : BitVec 16) : Orderly s (s.snoop d c l) :=
  .of_slots (.snoop s d c l) (slots_of_exceptPolling (exceptPolling_snoop s d c l))

theorem Orderly.chargeMiss (s : State) (d : Fin 160) (o : PollOrigin) : Orderly s (s.chargeMiss d o) :=
  .of_slots (.chargeMiss s d o) (slots_of_exceptPolling (exceptPolling_chargeMiss s d o))

theorem Orderly.scanWindowEnded (s : State) (d : Fin 160) : Orderly s (s.scanWindowEnded d) :=
  .of_slots (.scanWindowEnded s d) (slots_of_exceptPolling (exceptPolling_scanWindowEnded s d))

theorem upheld_queued : Upheld State.queued where
  quiet same := same.orderly.keeps
  setRx s port r _ := queued_setRx s port r
  offerCandidate s i c := (Orderly.offerCandidate s i c).keeps
  captureTraffic s pl := (Orderly.captureTraffic s pl).keeps
  snoop s d c l := (Orderly.snoop s d c l).keeps
  offerPassF s f := (Orderly.offerPassF s f).keeps
  offerPassC _ f := queued_offerPassC f
  handRequest _ f := queued_handRequest f
  chargeMiss s d o := (Orderly.chargeMiss s d o).keeps
  scanWindowEnded s d := (Orderly.scanWindowEnded s d).keeps
  pollExpiry s := (Orderly.pollExpiry s).keeps
  ageExpiry s i := (Orderly.ageExpiry s i).keeps
  pulseEdge s n := (Orderly.pulseEdge s n).keeps
  gateExpiry s n := (Orderly.gateExpiry s n).keeps
  passExpiry s p := (Orderly.passExpiry s p).keeps
  holdExpiry s p := (Orderly.holdExpiry s p).keeps
  rampExpiry s p := (Orderly.rampExpiry s p).keeps
  startF _ e rest := queued_startF e rest
  pickC _ := queued_pickC
  restartNow s _ := queued_restartNow s
  secondExpiry s := (Orderly.secondExpiry s).keeps

/-- Settles O54: only an own LEVEL entry moves a pending mark, and while a slot waits for room the C queue is full. -/
theorem stepKeepsQueuesAndSlots : Obligations.StepKeepsQueuesAndSlots :=
  fun _ _ queued answers => upheld_queued.step queued_powerOn queued_of_unsupplied answers queued

end Sys2Proof.Machine

/-! SUPPORT. The statements about supply, reset and power-on (R169), settled. -/

namespace Sys2Proof.Machine

set_option Elab.async false

/-! ### Supply, reset and the relay -/

section
variable {s t : State}

@[simp] theorem outer_setSlot (s : State) (k : SlotIndex) (v : Option Slot) : (s.setSlot k v).outer = s.outer := by cases k <;> rfl

@[simp] theorem outer_offerResponse (s : State) (k : SlotIndex) (e : CEntry) : (s.offerResponse k e).outer = s.outer := by
  unfold State.offerResponse
  split
  · exact (outer_setSlot _ _ _).trans rfl
  · exact outer_setSlot _ _ _

theorem outer_handRequest (s : State) (f : Frame) : (s.handRequest f).outer = s.outer := by
  unfold State.handRequest
  split
  · exact ((Unmoved.count s _ _).trans (.deviceEvent _ _ _ _)).outer
  · next k _ =>
    have placed : (s.occupy k f).outer = s.outer := (outer_setSlot s k _ :)
    split
    · exact placed
    · exact (outer_offerResponse _ _ _).trans ((Orderly.runPayload _ _ _).outer.trans placed)

theorem outer_offerPassC (s : State) (f : Frame) : (s.offerPassC f).outer = s.outer := by
  unfold State.offerPassC
  split
  · rfl
  · exact ((Unmoved.count s _ _).trans (.deviceEvent _ _ _ _)).outer

theorem outer_pickC (s : State) : s.pickC.outer = s.outer := by
  unfold State.pickC State.startC State.placeWaiting
  split
  · split
    · split
      · rfl
      · exact (outer_setSlot _ _ _).trans rfl
    · rfl
  · rfl

theorem outer_startF (s : State) (e : FEntry) (rest : List FEntry) : (s.startF e rest).outer = s.outer := by
  unfold State.startF State.clearPending
  refine (Unmoved.count _ _ _).outer.trans ?_
  split <;> rfl

theorem outer_restartNow (s : State) : s.restartNow.outer = s.outer := by
  unfold State.restartNow
  exact (Orderly.restarted _).outer.trans rfl

/-- A property of the supply, the RESET pin, the relay coil and the receivers is kept by every operation of a supplied part, if it
does not mind a sound receiver for a sound one. -/
theorem upheld_of_outer {P : State → Prop} (reads : ∀ {s t : State}, t.outer = s.outer → P s → P t)
    (setRx : ∀ s port r, ((s.rx port).sound → r.sound) → P s → P (s.setRx port r)) : Upheld P where
  quiet same := reads same.outer
  setRx := setRx
  offerCandidate s i c := reads (Orderly.offerCandidate s i c).outer
  captureTraffic s pl := reads (Orderly.captureTraffic s pl).outer
  snoop s d c l := reads (Orderly.snoop s d c l).outer
  offerPassF s f := reads (Orderly.offerPassF s f).outer
  offerPassC s f := reads (outer_offerPassC s f)
  handRequest s f := reads (outer_handRequest s f)
  chargeMiss s d o := reads (Orderly.chargeMiss s d o).outer
  scanWindowEnded s d := reads (Orderly.scanWindowEnded s d).outer
  pollExpiry s := reads (Orderly.pollExpiry s).outer
  ageExpiry s i := reads (Orderly.ageExpiry s i).outer
  pulseEdge s n := reads (Orderly.pulseEdge s n).outer
  gateExpiry s n := reads (Orderly.gateExpiry s n).outer
  passExpiry s p := reads (Orderly.passExpiry s p).outer
  holdExpiry s p := reads (Orderly.holdExpiry s p).outer
  rampExpiry s p := reads (Orderly.rampExpiry s p).outer
  startF s e rest _ := reads (outer_startF s e rest)
  pickC s := reads (outer_pickC s)
  restartNow s := reads (outer_restartNow s)
  secondExpiry s := reads (Orderly.secondExpiry s).outer

theorem relayFollows_of_outer (same : t.outer = s.outer) (follows : s.relayFollows) : t.relayFollows := by
  have supply : t.supply = s.supply := congrArg (·.1) same
  have reset : t.resetLow = s.resetLow := congrArg (·.2.1) same
  have relay : t.relayDriven = s.relayDriven := congrArg (·.2.2.1) same
  unfold State.relayFollows State.live
  rw [supply, reset, relay]
  exact follows

theorem upheld_relayFollows : Upheld State.relayFollows :=
  upheld_of_outer relayFollows_of_outer fun s port r _ follows => by cases port <;> exact follows

theorem relayFollows_exec {i : Instr} (answers : exec i s = .next t) (follows : s.relayFollows) : t.relayFollows := by
  cases supply : actsOnSupply i with
  | false => exact upheld_relayFollows.run supply answers follows
  | true =>
    cases i with
    | powerOn addr rate =>
      obtain rfl := Host.Outcome.next.inj answers
      split
      · next low =>
        unfold State.relayFollows State.live at follows ⊢
        rw [low] at follows ⊢
        simpa using follows
      · rfl
    | powerLoss =>
      obtain rfl := Host.Outcome.next.inj answers
      rfl
    | resetAssert =>
      obtain rfl := Host.Outcome.next.inj answers
      simp [State.relayFollows, State.live]
    | pinReset addr rate =>
      obtain rfl := Host.Outcome.next.inj answers
      split
      · rfl
      · next off =>
        unfold State.relayFollows State.live at follows ⊢
        simp only [Bool.not_eq_true] at off
        rw [off] at follows ⊢
        simpa using follows
    | _ => cases supply

/-- A command other than the four of supply and reset does nothing on a part that is not live (R169). -/
theorem exec_of_not_live {i : Instr} (other : actsOnSupply i = false) (dead : s.live = false) : exec i s = .next s := by
  have idle (act : State → State) : s.whenLive act = .next s := by
    unfold State.whenLive
    rw [dead]
    rfl
  cases hr : requestOf i with
  | some r =>
    obtain ⟨dt, src, pl⟩ := r
    rw [exec_request hr]
    exact idle _
  | none =>
    cases i with
    | powerOn | powerLoss | resetAssert | pinReset => cases other
    | receiveByte dt port b => exact idle fun s => (s.elapse dt).receiveByte port b
    | closeExpiry port => exact idle (·.closeExpiry port)
    | freeExpiry port => exact idle (·.freeExpiry port)
    | ageTimerExpiry i => exact idle (·.ageExpiry i)
    | pulseEdge dt n => exact idle fun s => (s.elapse dt).pulseEdge n
    | gateExpiry n => exact idle (·.gateExpiry n)
    | passTimerExpiry p => exact idle (·.passExpiry p)
    | holdTimerExpiry p => exact idle (·.holdExpiry p)
    | rampTimerExpiry p => exact idle (·.rampExpiry p)
    | fPick dt => exact idle fun s => (s.elapse dt).pickF
    | fSendComplete dt => exact idle fun s => (s.elapse dt).sentF
    | replyWindowExpiry => exact idle (·.windowExpiry)
    | pollTimerExpiry => exact idle (·.pollExpiry)
    | cPick dt => exact idle fun s => (s.elapse dt).pickC
    | cSendComplete dt => exact idle fun s => (s.elapse dt).sentC
    | oneSecondExpiry => exact idle (·.secondExpiry)
    | _ => cases hr

/-- Settles O3: the relay is driven by power-on alone and released with the supply and at RESET; no other command touches the three. -/
theorem relayFollowsSupplyAndReset : Obligations.RelayFollowsSupplyAndReset := by
  refine ⟨fun s t follows answers => ?_, fun i s => exec_of_not_live, fun s => ⟨_, rfl, rfl, rfl, rfl⟩, fun s => rfl,
    fun addr rate s low => ?_, fun addr rate s off => ?_⟩
  · unfold step at answers
    split at answers
    · obtain rfl := Host.Outcome.next.inj answers
      exact follows
    · exact relayFollows_exec answers follows
  · show Host.Outcome.next _ = _
    rw [if_pos low]
  · show Host.Outcome.next _ = _
    rw [if_neg (by simp [off])]

end

/-! ### Steps and power-on -/

/-- Settles O1. -/
theorem stepTakesOldestCommand : Obligations.StepTakesOldestCommand := ⟨fun _ _ _ => rfl, fun _ => rfl⟩

theorem receiversSound_powerOn (addr : BitVec 4) (rate : BitVec 2) : (State.powerOn addr rate).receiversSound := ⟨rfl, rfl⟩

/-- Settles O60: each law holds of the power-on values. -/
theorem lawsHoldAfterPowerOn : Obligations.LawsHoldAfterPowerOn := by
  intro addr rate
  obtain ⟨queues, slots⟩ := queued_powerOn addr rate
  obtain ⟨regulation, ceilings⟩ := governed_powerOn addr rate
  exact ⟨receiversSound_powerOn addr rate, queues, slots, sensorsSound_powerOn addr rate, regulation, ceilings,
    levelsSound_powerOn addr rate, fun running => (nomatch running), configSound_powerOn addr rate, rfl, rfl⟩

theorem ownAddress_powerOn (addr : BitVec 4) (rate : BitVec 2) : (State.powerOn addr rate).ownAddress.toNat = 184 + addr.toNat := by
  show (BitVec.ofNat 8 (184 + addr.toNat)).toNat = _
  rw [BitVec.toNat_ofNat, Nat.mod_eq_of_lt (by omega)]

theorem microClock_powerOn (addr : BitVec 4) (rate : BitVec 2) : (State.powerOn addr rate).microClock = 0 := by
  simp [State.microClock, State.powerOn, usTicks]

theorem guard_powerOn (addr : BitVec 4) (rate : BitVec 2) :
    (State.powerOn addr rate).cTx = .idle ((State.powerOn addr rate).now + 4 * (State.powerOn addr rate).byteTime .c) := by
  simp [State.byteTime, State.powerOn]

theorem secondTimer_powerOn (addr : BitVec 4) (rate : BitVec 2) :
    (State.powerOn addr rate).secondTimer = (State.powerOn addr rate).now + secTicks := by
  simp [State.powerOn, secTicks]

/-- A record of a table that was filled with one record. -/
theorem replicate_get {α : Type} {n : Nat} (x : α) (i : Fin n) : (Vector.replicate n x)[i] = x := Vector.getElem_replicate i.isLt

/-- A supplied part out of reset, its power-on values just set, the commands to come kept. -/
theorem exec_supplied {i : Instr} {addr : BitVec 4} {rate : BitVec 2} {s : State}
    (begins : (i = .powerOn addr rate ∧ s.resetLow = false) ∨ (i = .pinReset addr rate ∧ s.supply = true)) :
    exec i s = .next { State.powerOn addr rate with pending := s.pending } := by
  rcases begins with ⟨rfl, high⟩ | ⟨rfl, supplied⟩
  · show Host.Outcome.next _ = _
    rw [if_neg (by simp [high])]
  · show Host.Outcome.next _ = _
    rw [if_pos supplied]

/-- Settles O2: both commands set the power-on values, read off one table after the other. -/
theorem powerOnValues : Obligations.PowerOnValues := by
  intro i addr rate s begins
  refine ⟨_, exec_supplied begins, rfl, rfl, rfl, ownAddress_powerOn addr rate, rfl, fun port => ?_, rfl, guard_powerOn addr rate,
    rfl, rfl, ?_⟩
  · cases port <;> exact ⟨rfl, rfl, rfl, rfl, rfl, rfl⟩
  · exact ⟨fun g => congrArg Group.pendingMark (replicate_get _ g), microClock_powerOn addr rate, secondTimer_powerOn addr rate, replicate_get _,
      replicate_get _, replicate_get _, replicate_get _, replicate_get _, replicate_get _, replicate_get _, replicate_get _, rfl, rfl,
      rfl, rfl, rfl, rfl, replicate_get _, replicate_get _, rfl, rfl, rfl, rfl⟩

end Sys2Proof.Machine

/-! SUPPORT. The statements about the receivers' free expiry, the queues' other offers and the two transmitters, settled (R7, R35 to R44). -/

namespace Sys2Proof.Machine

set_option Elab.async false

section
variable {s : State}

/-! ### Commands on a live part -/

/-- A live part takes the command. -/
theorem whenLive_of_live (live : s.live = true) (act : State → State) : s.whenLive act = .next (act s) := by
  unfold State.whenLive
  rw [if_pos live]

end

/-! ### The free expiry -/

/-- Settles O6: the free expiry readies the receiver, but for its state when a byte of a frame is held. -/
theorem freeExpiryReadies : Obligations.FreeExpiryReadies := by
  intro port last s live gap
  have run : exec (.freeExpiry port) s = .next (s.freeAt port (last + 4 * s.byteTime port)) := by
    refine (whenLive_of_live live (·.freeExpiry port)).trans ?_
    unfold State.freeExpiry
    rw [gap]
  refine ⟨fun unsync whole => ?_, fun unsync fragment => ?_, fun other => ?_⟩
  · rw [run]
    unfold State.freeAt
    simp only [reach_rx, unsync, whole, if_true]
    rfl
  · rw [run]
    unfold State.freeAt
    simp only [reach_rx, unsync, fragment, if_true]
    rfl
  · rw [run]
    unfold State.freeAt
    simp only [reach_rx, other, if_false, false_and]

/-! ### Pass-through and POLL offers -/

/-- Settles O13. -/
theorem passThroughAndPollOffers : Obligations.PassThroughAndPollOffers := by
  intro f s
  unfold State.offerPassF State.offerPassC State.offerPoll
  refine ⟨fun room => if_pos room, fun full => if_neg (by omega), fun room => if_pos room, fun full => if_neg (by omega),
    fun d origin => ⟨fun room => if_pos room, fun full => if_neg (by omega)⟩⟩

/-! ### The F-port transmitter -/

/-- Settles O16. -/
theorem fSendCompleteOpensWindow : Obligations.FSendCompleteOpensWindow := by
  intro dt f own s live sending
  have run : exec (.fSendComplete dt) s = .next (s.elapse dt).sentF := whenLive_of_live live fun s => (s.elapse dt).sentF
  refine ⟨fun other => ?_, fun poll => ?_⟩
  · rw [run]
    unfold State.sentF
    rw [State.elapse_fTx, sending]
    dsimp only
    rw [if_neg other]
    rfl
  · rw [run]
    unfold State.sentF
    rw [State.elapse_fTx, sending]
    dsimp only
    rw [if_pos poll]
    rfl

/-! ### Picks -/

theorem mem_of_pickLowest {α : Type} {prio : α → Nat} {q rest : List α} {e : α} (picked : pickLowest prio q = some (e, rest)) :
    e ∈ q := by
  obtain ⟨a, b, rfl, -, -, -⟩ := pickLowest_split prio q rest e picked
  simp

/-- The first entry of the lowest priority number is the one picked (R35, R39). -/
theorem pickLowest_of_split {α : Type} {prio : α → Nat} (a b : List α) {e : α} (before : ∀ x ∈ a, prio e < prio x)
    (after : ∀ x ∈ b, prio e ≤ prio x) : pickLowest prio (a ++ e :: b) = some (e, a ++ b) := by
  induction a with
  | nil =>
    simp only [List.nil_append, pickLowest]
    split
    · rfl
    · next picked => rw [if_pos (after _ (mem_of_pickLowest picked))]
  | cons x a ih =>
    have first : prio e < prio x := before x List.mem_cons_self
    simp only [List.cons_append, pickLowest, ih fun y member => before y (List.mem_cons_of_mem x member)]
    rw [if_neg (by omega)]

/-- Settles O15. -/
theorem fPickSendsFirst : Obligations.FPickSendsFirst := by
  intro dt a b e s live idle ready queue before after
  have run : exec (.fPick dt) s = .next ((s.elapse dt).startF e (a ++ b)) := by
    refine (whenLive_of_live live fun s => (s.elapse dt).pickF).trans ?_
    unfold State.pickF
    simp only [State.elapse_fTx, State.elapse_fRx, State.elapse_fQueue, idle, ready, queue, pickLowest_of_split a b before after]
  refine ⟨?_, ?_, ?_⟩
  · rintro f rfl
    exact run
  · rintro g level kind rfl
    exact run
  · rintro d origin rfl
    exact run

/-- The pick of a C queue entry, its guard time run out. -/
theorem exec_cPick {s : State} (dt : Nat) {guardEnd : Nat} {a b : List CEntry} {e : CEntry} (live : s.live = true)
    (idle : s.cTx = .idle guardEnd) (free : guardEnd ≤ s.now + dt) (queue : s.cQueue = a ++ e :: b)
    (before : ∀ x ∈ a, e.priority < x.priority) (after : ∀ x ∈ b, e.priority ≤ x.priority) :
    exec (.cPick dt) s = .next ((s.elapse dt).startC e (a ++ b)) := by
  refine (whenLive_of_live live fun s => (s.elapse dt).pickC).trans ?_
  unfold State.pickC
  simp only [State.elapse_cTx, State.elapse_cQueue, State.elapse_now, idle, queue, pickLowest_of_split a b before after, free, if_true]

section
variable {s : State}

theorem oldestWaiting_none (none0 : s.slot0.bind (·.response) = none) (none1 : s.slot1.bind (·.response) = none) :
    s.oldestWaiting = none := by
  unfold State.oldestWaiting
  rw [none0, none1]

/-- The response of slot 0 was placed earlier than one waiting in slot 1 (R41). -/
theorem oldestWaiting_zero {r : Slot} {w : CEntry} (here : s.slot0 = some r) (waits : r.response = some w)
    (older : ∀ r' : Slot, s.slot1 = some r' → r'.response.isSome = true → r.number < r'.number) :
    s.oldestWaiting = some (.zero, w) := by
  unfold State.oldestWaiting
  rw [here, Option.bind_some, waits]
  cases other : s.slot1.bind (·.response) with
  | none => rfl
  | some w' =>
    obtain ⟨r', there, waits'⟩ := Option.bind_eq_some_iff.mp other
    have less := older r' there (by rw [waits']; rfl)
    rw [there]
    exact if_pos less

theorem oldestWaiting_one {r : Slot} {w : CEntry} (here : s.slot1 = some r) (waits : r.response = some w)
    (older : ∀ r' : Slot, s.slot0 = some r' → r'.response.isSome = true → r.number < r'.number) :
    s.oldestWaiting = some (.one, w) := by
  unfold State.oldestWaiting
  rw [here, Option.bind_some, waits]
  cases other : s.slot0.bind (·.response) with
  | none => rfl
  | some w' =>
    obtain ⟨r', there, waits'⟩ := Option.bind_eq_some_iff.mp other
    have less := older r' there (by rw [waits']; rfl)
    rw [there]
    exact if_neg (show ¬ r'.number < r.number by omega)

end

theorem placeWaiting_of_none {s : State} (none : s.oldestWaiting = none) : s.placeWaiting = s := by
  unfold State.placeWaiting
  rw [none]

theorem placeWaiting_of_some {s : State} {k : SlotIndex} {e : CEntry} (oldest : s.oldestWaiting = some (k, e)) :
    s.placeWaiting = { s with cQueue := s.cQueue ++ [e] }.setSlot k none := by
  unfold State.placeWaiting
  rw [oldest]

/-- Settles O19: the freed place goes to the response whose request was placed first. -/
theorem cPortSends : Obligations.CPortSends := by
  refine ⟨fun dt e s live sending other => ?_, fun dt guardEnd a b e s live idle free queue before after => ?_⟩
  · refine (whenLive_of_live live fun s => (s.elapse dt).sentC).trans ?_
    unfold State.sentC
    rw [State.elapse_cTx, sending]
    dsimp only
    split
    · next kind => exact absurd kind other
    · rfl
    · rfl
    · rfl
  · have run := exec_cPick dt live idle free queue before after
    refine ⟨fun none0 none1 => ?_, fun r w here waits older => ?_, fun r w here waits older => ?_⟩
    · rw [run]
      unfold State.startC
      rw [placeWaiting_of_none (s := { s.elapse dt with cQueue := a ++ b, cTx := .sending e }) (oldestWaiting_none none0 none1)]
    · rw [run]
      unfold State.startC
      rw [placeWaiting_of_some (s := { s.elapse dt with cQueue := a ++ b, cTx := .sending e }) (oldestWaiting_zero here waits older)]
      rfl
    · rw [run]
      unfold State.startC
      rw [placeWaiting_of_some (s := { s.elapse dt with cQueue := a ++ b, cTx := .sending e }) (oldestWaiting_one here waits older)]
      rfl

end Sys2Proof.Machine

/-! SUPPORT. The statements about good frames, the acceptance table, the poller's timer and the one-second timer, settled (R12, R13, R21
to R30, R96, R134, R165). -/

namespace Sys2Proof.Machine

set_option Elab.async false

/-! ### Searches in index order -/

/-- The lowest index with a property is the one found. -/
theorem find_finRange_of_lowest {n : Nat} {p : Fin n → Bool} {i : Fin n} (here : p i = true) (before : ∀ j, j < i → p j = false) :
    (List.finRange n).find? p = some i := by
  cases found : (List.finRange n).find? p with
  | none => exact absurd here (List.find?_eq_none.mp found i (List.mem_finRange i))
  | some j =>
    obtain ⟨holds, front, back, split, fails⟩ := List.find?_eq_some_iff_append.mp found
    have ordered := List.pairwise_lt_finRange n
    rw [split, List.pairwise_append, List.pairwise_cons] at ordered
    have member : i ∈ front ++ j :: back := split ▸ List.mem_finRange i
    rcases List.mem_append.mp member with earlier | later
    · have fails := fails i earlier
      simp [here] at fails
    · rcases List.mem_cons.mp later with rfl | later
      · rfl
      · have wrong := before j (ordered.2.1.1 i later)
        rw [holds] at wrong
        cases wrong

theorem find_finRange_eq_none {n : Nat} {p : Fin n → Bool} (none : ∀ i, p i = false) : (List.finRange n).find? p = .none :=
  List.find?_eq_none.mpr fun i _ => by simp [none i]

/-! ### The acceptance table -/

/-- Settles O9. -/
theorem firstFittingEntryDecides : Obligations.FirstFittingEntryDecides := by
  intro port f s other
  have skip : s.dispatch port f = if (s.acceptance port f).onward then (s.acceptance port f).state.handleOnward port f
      else (s.acceptance port f).state := if_neg other
  refine ⟨fun none => ?_, fun i fits before => ?_⟩
  · have undecided : s.decidingEntry port f = .none := find_finRange_eq_none none
    rw [skip]
    unfold State.acceptance
    rw [undecided]
    rfl
  · have decided : s.decidingEntry port f = some i := find_finRange_of_lowest fits before
    refine ⟨fun action => ?_, fun action => ?_, fun action => ?_, fun action => ?_⟩
    · rw [skip]
      unfold State.acceptance
      simp only [decided, action]
      rfl
    · rw [skip]
      unfold State.acceptance
      simp only [decided, action]
      rfl
    · rw [skip]
      unfold State.acceptance
      simp only [decided, action]
    · rw [skip]
      unfold State.acceptance
      simp only [decided, action]

theorem finOf_of_lt {n v : Nat} (below : v < n) : finOf n v = some ⟨v, below⟩ := dif_pos below

theorem finOf_of_not_lt {n v : Nat} (above : ¬ v < n) : finOf n v = none := dif_neg above

theorem trafficReport_of_valid {b v t : Byte} (more : List Byte) (bore : b.toNat < 2) (speed : v.toNat < 8) (traffic : t.toNat < 4) :
    trafficReport (b :: v :: t :: more) = some (⟨b.toNat, bore⟩, ⟨v.toNat, speed⟩, ⟨t.toNat, traffic⟩) := by
  simp only [trafficReport, finOf_of_lt bore, finOf_of_lt speed, finOf_of_lt traffic]

theorem trafficReport_of_invalid {payload : List Byte}
    (invalid : ∀ b v t more, payload = b :: v :: t :: more → b.toNat ≤ 1 → v.toNat ≤ 7 → ¬ t.toNat ≤ 3) : trafficReport payload = none := by
  match payload with
  | [] | [_] | [_, _] => rfl
  | b :: v :: t :: more =>
    unfold trafficReport
    by_cases bore : b.toNat < 2
    · by_cases speed : v.toNat < 8
      · have traffic : ¬ t.toNat < 4 := fun below => invalid b v t more rfl (by omega) (by omega) (by omega)
        simp [finOf_of_not_lt traffic]
      · simp [finOf_of_not_lt speed]
    · simp [finOf_of_not_lt bore]

/-- Settles O10. -/
theorem trafficReportSetsClasses : Obligations.TrafficReportSetsClasses := by
  intro payload s
  refine ⟨?_, fun invalid => ?_⟩
  · rintro b v t more rfl bore speed traffic
    have report := trafficReport_of_valid (b := b) (v := v) (t := t) more (by omega) (by omega) (by omega)
    refine ⟨_, rfl, ?_, fun p => ⟨⟨v.toNat, by omega⟩, ⟨t.toNat, by omega⟩, rfl, rfl, ?_⟩⟩
    · unfold State.captureTraffic
      rw [report]
    · unfold State.captureTraffic
      rw [report]
      dsimp only
      rw [updAll_get]
      simp only [Bool.and_eq_true, beq_iff_eq, Fin.ext_iff]
  · unfold State.captureTraffic
    rw [trafficReport_of_invalid invalid]

/-! ### Good frames -/

theorem windowEndedBy_of_polled {s : State} {f : Frame} {w : Window} {ends : Time} (awaits : s.fTx = .awaitReply w ends)
    (status : f.cls = clsStatus) (scope : w.scope = .individual) (polled : w.polled = f.src) : s.windowEndedBy .f f = some w := by
  simp only [State.windowEndedBy, FTx.endedBy, awaits, status, scope, polled, if_true]

theorem goodFrame_of_ended {s : State} {f : Frame} {w : Window} (ended : s.windowEndedBy .f f = some w) :
    s.goodFrame .f f = ({ s.count 2 (unscoped 1) with fTx := .idle }.dispatch .f f).afterWindow w := by
  unfold State.goodFrame
  rw [ended]
  rfl

/-- Settles O7. -/
theorem goodFrameCountedThenDispatched : Obligations.GoodFrameCountedThenDispatched := by
  refine ⟨fun f s => rfl, fun f s unended => ?_, fun f w ends s awaits status scope polled origin => ?_,
    fun f w ends d s awaits status scope polled origin owner => ?_, fun port f s own => ⟨fun request => ?_, fun other => ?_⟩⟩
  · have none : s.windowEndedBy .f f = .none := by
      unfold State.windowEndedBy FTx.endedBy
      cases tx : s.fTx with
      | idle | sending => simp
      | awaitReply w ends =>
        cases scope : w.scope with
        | group => simp [scope]
        | individual => simpa [scope] using fun status => unended w ends tx status scope
    unfold State.goodFrame
    rw [none]
    rfl
  · rw [goodFrame_of_ended (windowEndedBy_of_polled awaits status scope polled)]
    unfold State.afterWindow
    split
    · next scan => exact absurd scan origin
    · rfl
  · rw [goodFrame_of_ended (windowEndedBy_of_polled awaits status scope polled)]
    unfold State.afterWindow
    rw [origin, owner]
  · unfold State.dispatch State.handleOwn
    rw [if_pos own, if_pos request]
  · unfold State.dispatch State.handleOwn
    rw [if_pos own, if_neg other]

/-! ### The poll timer -/

section
variable {s : State} {d : Fin 160}

theorem nextUsed_of_lowest {start : Nat} (used : s.drivers[d].used = true) (above : start ≤ d.val)
    (before : ∀ m : Fin 160, start ≤ m.val → m < d → s.drivers[m].used = false) : s.nextUsed start = some d := by
  refine find_finRange_of_lowest (by rw [used, decide_eq_true above]; rfl) fun m less => ?_
  by_cases reached : start ≤ m.val
  · rw [before m reached less, Bool.false_and]
  · rw [decide_eq_false reached, Bool.and_false]

theorem nextUsed_eq_none {start : Nat} (unused : ∀ m : Fin 160, start ≤ m.val → s.drivers[m].used = false) : s.nextUsed start = none := by
  refine find_finRange_eq_none fun m => ?_
  by_cases reached : start ≤ m.val
  · rw [unused m reached, Bool.false_and]
  · rw [decide_eq_false reached, Bool.and_false]

end

/-- The cursor finds the first used driver at or above it, or else the first of all (R134). -/
theorem roundNext_of_first {s : State} {d : Fin 160} (used : s.drivers[d].used = true)
    (first : (s.cursor ≤ d ∧ ∀ m : Fin 160, s.cursor ≤ m → m < d → s.drivers[m].used = false)
      ∨ ((∀ m : Fin 160, s.cursor ≤ m → s.drivers[m].used = false) ∧ ∀ m : Fin 160, m < d → s.drivers[m].used = false)) :
    s.roundNext = some d := by
  unfold State.roundNext
  rcases first with ⟨above, before⟩ | ⟨none, before⟩
  · rw [nextUsed_of_lowest used above before]
  · rw [nextUsed_eq_none none, nextUsed_of_lowest used (Nat.zero_le _) fun m _ => before m]

/-- The state once a poll timer that ran out at `e` is renewed (R134). -/
def State.repolled (s : State) (e : Time) : State :=
  { s.reach e with pollTimer := some (max s.now e + s.device.pollInterval * msTicks) }

section
variable {s : State} {e : Time} (timer : s.pollTimer = some e)
include timer

theorem pollExpiry_of_awaitWindow (rescan : s.rescan = .awaitWindow) : s.pollExpiry = s.repolled e := by
  unfold State.pollExpiry
  rw [timer]
  dsimp only
  split
  · rfl
  · next other => cases rescan.symm.trans other
  · next other => cases rescan.symm.trans other

theorem pollExpiry_of_awaitTimer (rescan : s.rescan = .awaitTimer) : s.pollExpiry = (s.repolled e).rescanOffer := by
  unfold State.pollExpiry
  rw [timer]
  dsimp only
  split
  · next other => cases rescan.symm.trans other
  · rfl
  · next other => cases rescan.symm.trans other

/-- With no rescan the poll timer offers the next ROUND POLL (R134). -/
theorem pollExpiry_of_none (rescan : s.rescan = .none) :
    s.pollExpiry = s.roundNext.elim (s.repolled e) fun d => { (s.repolled e).offerPoll d .round with cursor := d + 1 } := by
  unfold State.pollExpiry
  rw [timer]
  dsimp only
  split
  · next other => cases rescan.symm.trans other
  · next other => cases rescan.symm.trans other
  · split
    · next found =>
      have found : s.roundNext = none := found
      rw [found]
      rfl
    · next d found =>
      have found : s.roundNext = some d := found
      rw [found]
      rfl

end

/-- Settles O18. -/
theorem pollTimerOffersRound : Obligations.PollTimerOffersRound := by
  intro e s live timer
  have run : exec .pollTimerExpiry s = .next s.pollExpiry := whenLive_of_live live (·.pollExpiry)
  rw [run]
  refine ⟨fun waits => ?_, fun skipped => ?_, fun idle unused => ?_, fun d idle used first => ?_⟩
  · exact congrArg _ (pollExpiry_of_awaitWindow timer waits)
  · exact congrArg _ (pollExpiry_of_awaitTimer timer skipped)
  · have nothing : s.roundNext = none := by
      unfold State.roundNext
      rw [nextUsed_eq_none fun m _ => unused m, nextUsed_eq_none fun m _ => unused m]
    rw [pollExpiry_of_none timer idle, nothing]
    rfl
  · rw [pollExpiry_of_none timer idle, roundNext_of_first used first]
    rfl

/-! ### The one-second timer -/

theorem Group.burn_eq (g : Group) :
    g.burn = if g.used = true ∧ g.owner = .part then
        if 60000 ≤ g.burnSub + g.sent then
          { g with burnSub := g.burnSub + g.sent - 60000, burnMinutes := min 4294967295 (g.burnMinutes + 1) }
        else { g with burnSub := g.burnSub + g.sent }
      else g := by
  unfold Group.burn
  cases used : g.used <;> cases owner : g.owner <;> simp

theorem CounterScope.covers_iff (scope : CounterScope) (p : Fin 4) : scope.covers p = true ↔ scope = .all ∨ scope = .portal p := by
  cases scope <;> simp [CounterScope.covers]

/-- Settles O21. -/
theorem oneSecondAccounts : Obligations.OneSecondAccounts := by
  intro s live
  refine ⟨s.zonesInDeficit, s.portalsNotTracking, ?_, fun scope => ⟨_, (List.nodup_finRange 32).filter _, rfl, fun z => ?_⟩,
    fun scope => ⟨_, (List.nodup_finRange 4).filter _, rfl, fun p => ?_⟩⟩
  · refine (whenLive_of_live live (·.secondExpiry)).trans ?_
    unfold State.secondExpiry
    simp only [Group.burn_eq]
    rfl
  · simp [CounterScope.covers_iff, and_assoc]
  · rw [List.mem_filter]
    have state : (s.portals[p].state.regulating = true ∧ s.portals[p].state ≠ .tracking)
        ↔ s.portals[p].state = .fallback ∨ s.portals[p].state = .hold := by
      cases s.portals[p].state <;> simp [PortalState.regulating]
    simp only [List.mem_finRange, true_and, Bool.and_eq_true, regulating_iff, bne_iff_ne, CounterScope.covers_iff, and_assoc]
    rw [← state]
    simp only [and_assoc]

end Sys2Proof.Machine

/-! SUPPORT. What counting and alerting come to: the counters added to, the flag of a wrap, and the ALERT that joins the C queue or is
dropped and counted (R40, R160 to R166). -/

namespace Sys2Proof.Machine

set_option Elab.async false

/-! ### Counters added to -/

/-- The counters among those listed that count the code are added to. -/
def bumped (v : Vector Counter 8) (l : List (Fin 8)) (code : Fin 16) (amount : CounterScope → Nat) : Vector Counter 8 :=
  updAll v fun j c => if j ∈ l ∧ c.select = code then c.add (amount c.scope) else c

/-- One counter is added to, if it counts the code. -/
def Report.bump (r : Report) (code : Fin 16) (amount : CounterScope → Nat) (i : Fin 8) : Report :=
  if r.counters[i].select = code then { r with counters := updAt r.counters i (·.add (amount r.counters[i].scope)) } else r

/-- Counter `i` counts the code and wraps (R166). -/
def Report.wrapsAt (r : Report) (code : Fin 16) (amount : CounterScope → Nat) (i : Fin 8) : Prop :=
  r.counters[i].select = code ∧ r.counters[i].wraps (amount r.counters[i].scope) = true

theorem bumped_get (v : Vector Counter 8) (l : List (Fin 8)) (code : Fin 16) (amount : CounterScope → Nat) (i : Fin 8) :
    (bumped v l code amount)[i] = if i ∈ l ∧ v[i].select = code then v[i].add (amount v[i].scope) else v[i] := updAll_get v _ i

section
variable {code : Fin 16} {amount : CounterScope → Nat}

theorem Report.bump_get (r : Report) (i j : Fin 8) :
    (r.bump code amount i).counters[j]
      = if i = j ∧ r.counters[j].select = code then r.counters[j].add (amount r.counters[j].scope) else r.counters[j] := by
  unfold Report.bump
  split
  · next counts =>
    rw [updAt_get]
    by_cases same : i = j
    · subst same
      rw [if_pos rfl, if_pos ⟨rfl, counts⟩]
    · rw [if_neg same, if_neg fun both : _ ∧ _ => same both.1]
  · next other =>
    refine (if_neg ?_).symm
    rintro ⟨rfl, counts⟩
    exact other counts

theorem Report.ext_counters {r t : Report} (counters : ∀ i : Fin 8, r.counters[i] = t.counters[i])
    (flags : r.deviceFlags = t.deviceFlags) (queue : r.cQueue = t.cQueue) : r = t := by
  obtain ⟨c, f, q⟩ := r
  obtain ⟨c', f', q'⟩ := t
  obtain rfl : f = f' := flags
  obtain rfl : q = q' := queue
  congr 1
  ext1 i below
  exact counters ⟨i, below⟩

@[simp] theorem Report.bump_deviceFlags (r : Report) (i : Fin 8) : (r.bump code amount i).deviceFlags = r.deviceFlags := by
  unfold Report.bump
  split <;> rfl

@[simp] theorem Report.bump_cQueue (r : Report) (i : Fin 8) : (r.bump code amount i).cQueue = r.cQueue := by
  unfold Report.bump
  split <;> rfl

/-- Rounds that wrap no counter add to the counters of the code and do nothing else. -/
theorem foldl_of_unwrapped {round : Report → Fin 8 → Report}
    (quiet : ∀ r i, ¬ r.wrapsAt code amount i → round r i = r.bump code amount i) (l : List (Fin 8)) (nodup : l.Nodup) (r : Report)
    (unwrapped : ∀ i ∈ l, ¬ r.wrapsAt code amount i) : l.foldl round r = { r with counters := bumped r.counters l code amount } := by
  induction l generalizing r with
  | nil => exact Report.ext_counters (fun i => by rw [bumped_get, if_neg (by simp)]; rfl) rfl rfl
  | cons x l ih =>
    obtain ⟨fresh, nodup⟩ := List.nodup_cons.mp nodup
    have untouched (i : Fin 8) (member : i ∈ l) : (r.bump code amount x).counters[i] = r.counters[i] := by
      rw [Report.bump_get, if_neg]
      rintro ⟨rfl, _⟩
      exact fresh member
    rw [List.foldl_cons, quiet r x (unwrapped x List.mem_cons_self), ih nodup (r.bump code amount x) fun i member => ?_]
    · refine Report.ext_counters (fun i => ?_) (by simp) (by simp)
      dsimp only
      rw [bumped_get, bumped_get, Report.bump_get]
      by_cases same : x = i
      · subst same
        simp [fresh]
      · simp [same, Ne.symm same]
    · unfold Report.wrapsAt
      rw [untouched i member]
      exact unwrapped i (List.mem_cons_of_mem x member)

end

/-! ### Dropped ALERTs -/

theorem Counter.add_eq (c : Counter) (n : Nat) :
    c.add n = { c with value := c.value + BitVec.ofNat 32 n, sticky := c.sticky || c.wraps n } := by
  unfold Counter.add Counter.wraps
  rw [BitVec.ofNat_add, BitVec.ofNat_toNat, BitVec.setWidth_eq]

theorem Counter.add_of_unwrapped {c : Counter} {n : Nat} (below : c.wraps n = false) :
    c.add n = { c with value := c.value + BitVec.ofNat 32 n } := by
  rw [Counter.add_eq, below, Bool.or_false]

theorem Counter.wraps_iff (c : Counter) (n : Nat) : c.wraps n = true ↔ 2 ^ 32 ≤ c.value.toNat + n := decide_eq_true_iff

theorem Report.dropRound_of_unwrapped (cfg : ReportCfg) (again : Report → Report) (r : Report) (i : Fin 8)
    (unwrapped : ¬ r.wrapsAt 11 (unscoped 1) i) : r.dropRound cfg again i = r.bump 11 (unscoped 1) i := by
  unfold Report.dropRound Report.bump
  split
  · next counts => exact if_neg fun wraps => unwrapped ⟨counts, wraps⟩
  · rfl

theorem Report.dropRound_of_wrapped (cfg : ReportCfg) (again : Report → Report) (r : Report) (i : Fin 8)
    (wrapped : r.wrapsAt 11 (unscoped 1) i) :
    r.dropRound cfg again i =
      if cfg.deviceAlert then again ((r.bump 11 (unscoped 1) i).latch .cntOvf) else (r.bump 11 (unscoped 1) i).latch .cntOvf := by
  obtain ⟨counts, wraps⟩ := wrapped
  unfold Report.dropRound Report.bump
  rw [if_pos counts, if_pos counts]
  exact if_pos wraps

theorem Report.countDropped_succ (cfg : ReportCfg) (n : Nat) (r : Report) :
    Report.countDropped cfg (n + 1) r = (List.finRange 8).foldl (Report.dropRound cfg (Report.countDropped cfg n)) r := by
  unfold Report.countDropped
  rfl

/-- A dropped ALERT is counted under code 11 (R40). -/
theorem Report.countDropped_of_unwrapped (cfg : ReportCfg) (n : Nat) (r : Report)
    (unwrapped : ∀ i, ¬ r.wrapsAt 11 (unscoped 1) i) :
    Report.countDropped cfg (n + 1) r = { r with counters := bumped r.counters (List.finRange 8) 11 (unscoped 1) } := by
  rw [Report.countDropped_succ]
  exact foldl_of_unwrapped (Report.dropRound_of_unwrapped cfg _) _ (List.nodup_finRange 8) r fun i _ => unwrapped i

/-! ### Offered ALERTs -/

section
variable (cfg : ReportCfg) (e o : Byte) (v : Nat) (r : Report)

theorem Report.offerAlert_off : r.offerAlert cfg false e o v = r := by
  unfold Report.offerAlert
  rfl

theorem Report.offerAlert_room (room : r.cQueue.length < 16) :
    r.offerAlert cfg true e o v = { r with cQueue := r.cQueue ++ [{ kind := .alert, frame := cfg.alertFrame e o v }] } := by
  unfold Report.offerAlert
  rw [if_pos rfl, if_pos room]

theorem Report.offerAlert_full (full : r.cQueue.length = 16) : r.offerAlert cfg true e o v = Report.countDropped cfg 9 r := by
  unfold Report.offerAlert
  rw [if_pos rfl, if_neg (by omega)]

end

/-! ### One counter of code 11 wraps -/

theorem Counter.wraps_one_of_top {c : Counter} (top : c.value = -1) : c.wraps 1 = true := by
  rw [Counter.wraps_iff, top]
  decide

theorem Counter.add_one_of_top {c : Counter} (top : c.value = -1) : c.add 1 = { c with value := 0, sticky := true } := by
  rw [Counter.add_eq, Counter.wraps_one_of_top top, top, Bool.or_true]
  rfl

theorem Counter.not_wraps_one {c : Counter} (below : c.value.toNat + 1 ≤ 4294967295) : c.wraps 1 = false := by
  rw [Bool.eq_false_iff, ne_eq, Counter.wraps_iff]
  omega

/-- A counter below the top two values does not wrap as it is added to twice. -/
theorem Counter.add_one_add_one {c : Counter} (below : c.value.toNat + 2 ≤ 4294967295) :
    (c.add 1).wraps 1 = false ∧ (c.add 1).add 1 = { c with value := c.value + 2 } := by
  have first := Counter.add_of_unwrapped (Counter.not_wraps_one (c := c) (by omega))
  have value : (c.add 1).value.toNat = c.value.toNat + 1 := by
    rw [first, BitVec.toNat_add, BitVec.toNat_ofNat]
    omega
  have second := Counter.not_wraps_one (c := c.add 1) (by omega)
  refine ⟨second, ?_⟩
  rw [Counter.add_of_unwrapped second, first]
  simp only [BitVec.add_assoc]
  rfl

section
variable (cfg : ReportCfg) (n : Nat) (r : Report) (i : Fin 8)

/-- The list of the counters, split at one of them. -/
theorem finRange_split (i : Fin 8) : ∃ front back, List.finRange 8 = front ++ i :: back ∧ i ∉ front ∧ i ∉ back
    ∧ front.Nodup ∧ back.Nodup ∧ (∀ j ∈ front, j ∉ back) ∧ ∀ j, j ∈ front ∨ j = i ∨ j ∈ back := by
  obtain ⟨front, back, split⟩ := List.append_of_mem (List.mem_finRange i)
  have nodup := split ▸ List.nodup_finRange 8
  obtain ⟨frontNodup, tailNodup, disjoint⟩ := List.nodup_append.mp nodup
  obtain ⟨fresh, backNodup⟩ := List.nodup_cons.mp tailNodup
  refine ⟨front, back, split, fun member => disjoint i member i List.mem_cons_self rfl, fresh, frontNodup, backNodup,
    fun j before after => disjoint j before j (List.mem_cons_of_mem i after) rfl, fun j => ?_⟩
  have member : j ∈ front ++ i :: back := split ▸ List.mem_finRange j
  simpa using member

/-- A counter of code 11 wraps while a dropped ALERT is counted: its own ALERT is dropped too (R166). -/
theorem Report.countDropped_of_wrapped (counts : r.counters[i].select = 11) (top : r.counters[i].value = -1)
    (others : ∀ c : Fin 8, c ≠ i → r.counters[c].select = 11 → r.counters[c].value.toNat + 2 ≤ 4294967295) :
    (cfg.deviceAlert = true → Report.countDropped cfg (n + 2) r =
        { r with
          deviceFlags := r.deviceFlags ||| 16#5
          counters := updAll r.counters fun j c =>
            if c.select = 11 then if j = i then { c with value := 1, sticky := true } else { c with value := c.value + 2 } else c })
      ∧ (cfg.deviceAlert = false → Report.countDropped cfg (n + 2) r =
        { r with
          deviceFlags := r.deviceFlags ||| 16#5
          counters := updAll r.counters fun j c =>
            if c.select = 11 then { c with value := c.value + 1, sticky := c.sticky || decide (j = i) } else c }) := by
  obtain ⟨front, back, split, notFront, notBack, frontNodup, backNodup, apart, all⟩ := finRange_split i
  have below (c : Fin 8) (other : c ≠ i) (code : r.counters[c].select = 11) : r.counters[c].wraps 1 = false :=
    Counter.not_wraps_one (by have := others c other code; omega)
  have first := foldl_of_unwrapped (Report.dropRound_of_unwrapped cfg (Report.countDropped cfg (n + 1))) front frontNodup r
    fun j member wraps => by
      have other : j ≠ i := fun same => notFront (same ▸ member)
      have := below j other wraps.1
      rw [show r.counters[j].wraps 1 = true from wraps.2] at this
      cases this
  rw [Report.countDropped_succ, split, List.foldl_append, List.foldl_cons, first]
  generalize front' : ({ r with counters := bumped r.counters front 11 (unscoped 1) } : Report) = r1
  have counters1 (j : Fin 8) : r1.counters[j] = if j ∈ front ∧ r.counters[j].select = 11 then r.counters[j].add 1 else r.counters[j] := by
    rw [← front']
    exact bumped_get _ _ _ _ j
  have here : r1.counters[i] = r.counters[i] := by rw [counters1, if_neg fun both : _ ∧ _ => notFront both.1]
  have wraps : r1.wrapsAt 11 (unscoped 1) i := by
    unfold Report.wrapsAt
    rw [here]
    exact ⟨counts, Counter.wraps_one_of_top top⟩
  generalize second : (r1.bump 11 (unscoped 1) i).latch .cntOvf = r2
  have counters2 (j : Fin 8) : r2.counters[j] = if i = j ∧ r1.counters[j].select = 11 then r1.counters[j].add 1 else r1.counters[j] := by
    rw [← second]
    exact Report.bump_get r1 i j
  have flags2 : r2.deviceFlags = r.deviceFlags ||| 16#5 := by
    rw [← second, ← front']
    exact congrArg (· ||| 16#5) (Report.bump_deviceFlags _ i)
  have queue2 : r2.cQueue = r.cQueue := by
    rw [← second, ← front']
    exact Report.bump_cQueue _ i
  have untouched (j : Fin 8) (other : j ≠ i) : r2.counters[j] = r1.counters[j] := by
    rw [counters2]
    exact if_neg fun both => other both.1.symm
  have later (j : Fin 8) (member : j ∈ back) : r2.counters[j] = r.counters[j] := by
    rw [untouched j fun same => notBack (same ▸ member), counters1, if_neg fun both : _ ∧ _ => apart j both.1 member]
  rw [Report.dropRound_of_wrapped cfg _ r1 i wraps, second]
  constructor
  · intro alert
    rw [alert, if_pos rfl]
    have atTop : r2.counters[i] = { r.counters[i] with value := 0, sticky := true } := by
      rw [counters2, here, if_pos ⟨rfl, counts⟩, Counter.add_one_of_top top]
    have before2 (j : Fin 8) (member : j ∈ front) : r2.counters[j] = if r.counters[j].select = 11 then r.counters[j].add 1 else r.counters[j] := by
      rw [untouched j fun same => notFront (same ▸ member), counters1]
      simp only [member, true_and]
    have select2 (j : Fin 8) : r2.counters[j].select = r.counters[j].select := by
      rcases all j with before | same | after
      · rw [before2 j before]
        split <;> rfl
      · rw [same, atTop]
      · rw [later j after]
    have unwrapped2 (j : Fin 8) : ¬ r2.wrapsAt 11 (unscoped 1) j := by
      rintro ⟨code, wraps⟩
      rw [select2] at code
      have wraps : r2.counters[j].wraps 1 = true := wraps
      rcases all j with before | same | after
      · have other : j ≠ i := fun same => notFront (same ▸ before)
        rw [before2 j before, if_pos code, (Counter.add_one_add_one (others j other code)).1] at wraps
        cases wraps
      · rw [same, atTop, Counter.wraps_iff] at wraps
        exact absurd wraps (by simp)
      · have other : j ≠ i := fun same => notBack (same ▸ after)
        rw [later j after] at wraps
        cases (below j other code).symm.trans wraps
    rw [Report.countDropped_of_unwrapped cfg n r2 unwrapped2]
    generalize third : ({ r2 with counters := bumped r2.counters (List.finRange 8) 11 (unscoped 1) } : Report) = r3
    have counters3 (j : Fin 8) : r3.counters[j] = if r.counters[j].select = 11 then r2.counters[j].add 1 else r2.counters[j] := by
      rw [← third]
      dsimp only
      rw [bumped_get, select2]
      simp only [List.mem_finRange, true_and]
      rfl
    rw [foldl_of_unwrapped (Report.dropRound_of_unwrapped cfg _) back backNodup r3 fun j member wraps => by
      have other : j ≠ i := fun same => notBack (same ▸ member)
      obtain ⟨code, wraps⟩ := wraps
      have wraps : r3.counters[j].wraps 1 = true := wraps
      have code : r.counters[j].select = 11 := by
        refine Classical.byContradiction fun free => ?_
        rw [counters3, if_neg free, select2] at code
        exact free code
      rw [counters3, if_pos code, later j member, (Counter.add_one_add_one (others j other code)).1] at wraps
      cases wraps]
    refine Report.ext_counters (fun j => ?_) (by rw [← third]; exact flags2) (by rw [← third]; exact queue2)
    dsimp only
    rw [bumped_get, updAll_get]
    by_cases code : r.counters[j].select = 11
    · rw [if_pos code]
      rcases all j with before | same | after
      · have other : j ≠ i := fun same => notFront (same ▸ before)
        rw [if_neg fun both : _ ∧ _ => apart j before both.1, counters3, if_pos code, before2 j before, if_pos code, if_neg other,
          (Counter.add_one_add_one (others j other code)).2]
      · subst same
        rw [if_neg fun both : _ ∧ _ => notBack both.1, counters3, if_pos code, if_pos rfl, atTop]
        rfl
      · have other : j ≠ i := fun same => notBack (same ▸ after)
        rw [counters3, if_pos code, later j after, if_neg other, if_pos ⟨after, code⟩]
        exact (Counter.add_one_add_one (others j other code)).2
    · have free3 : r3.counters[j].select ≠ 11 := by
        rw [counters3, if_neg code, select2]
        exact code
      rw [if_neg code, if_neg fun both : _ ∧ _ => free3 both.2, counters3, if_neg code]
      rcases all j with before | same | after
      · rw [before2 j before, if_neg code]
      · exact absurd (same ▸ counts) code
      · exact later j after
  · intro quiet
    rw [quiet, if_neg (by simp)]
    rw [foldl_of_unwrapped (Report.dropRound_of_unwrapped cfg _) back backNodup r2 fun j member wraps => by
      have other : j ≠ i := fun same => notBack (same ▸ member)
      unfold Report.wrapsAt at wraps
      rw [later j member] at wraps
      cases (below j other wraps.1).symm.trans wraps.2]
    refine Report.ext_counters (fun j => ?_) flags2 queue2
    dsimp only
    rw [bumped_get, updAll_get]
    rcases all j with before | rfl | after
    · have other : j ≠ i := fun same => notFront (same ▸ before)
      rw [if_neg fun both : _ ∧ _ => apart j before both.1, counters2, if_neg fun both : _ ∧ _ => other both.1.symm, counters1]
      by_cases code : r.counters[j].select = 11
      · rw [if_pos ⟨before, code⟩, if_pos code, Counter.add_of_unwrapped (below j other code), decide_eq_false other, Bool.or_false]
        rfl
      · rw [if_neg fun both : _ ∧ _ => code both.2, if_neg code]
    · rw [if_neg fun both : _ ∧ _ => notBack both.1, counters2, here, if_pos ⟨rfl, counts⟩, if_pos counts, Counter.add_eq,
        Counter.wraps_one_of_top top, decide_eq_true rfl]
      rfl
    · have other : j ≠ i := fun same => notBack (same ▸ after)
      rw [later j after]
      by_cases code : r.counters[j].select = 11
      · rw [if_pos ⟨after, code⟩, if_pos code]
        rw [show unscoped 1 r.counters[j].scope = 1 from rfl, Counter.add_of_unwrapped (below j other code), decide_eq_false other, Bool.or_false]
        rfl
      · rw [if_neg fun both : _ ∧ _ => code both.2, if_neg code]

end

end Sys2Proof.Machine

/-! SUPPORT. The statements about flags, ALERTs and counters, settled (R40, R160 to R166). -/

namespace Sys2Proof.Machine

set_option Elab.async false

/-! ### Flags and their ALERTs -/

theorem updAll_congr {α : Type} {n : Nat} {v : Vector α n} {f g : Fin n → α → α} (same : ∀ i : Fin n, f i v[i] = g i v[i]) :
    updAll v f = updAll v g := by
  ext j below
  have here := same ⟨j, below⟩
  rw [← updAll_get v f, ← updAll_get v g] at here
  exact here

/-- Counters none of which wraps are added to, and their sticky marks stay. -/
theorem bumped_of_unwrapped {v : Vector Counter 8} {code : Fin 16} {amount : CounterScope → Nat}
    (below : ∀ j : Fin 8, v[j].select = code → v[j].wraps (amount v[j].scope) = false) :
    bumped v (List.finRange 8) code amount =
      updAll v fun _ c => if c.select = code then { c with value := c.value + BitVec.ofNat 32 (amount c.scope) } else c := by
  refine updAll_congr fun j => ?_
  simp only [List.mem_finRange, true_and]
  split
  · next counts => exact Counter.add_of_unwrapped (below j counts)
  · rfl

theorem Counter.not_wraps_one_of_ne_top {c : Counter} (other : c.value ≠ -1) : c.wraps 1 = false := by
  refine Counter.not_wraps_one ?_
  refine Classical.byContradiction fun above => ?_
  have bound := c.value.isLt
  exact other (BitVec.eq_of_toNat_eq (by simp; omega))

/-- A dropped ALERT that wraps no counter of code 11. -/
theorem countDropped_of_no_top (cfg : ReportCfg) (n : Nat) (r : Report)
    (below : ∀ c : Fin 8, r.counters[c].select = 11 → r.counters[c].value ≠ -1) :
    Report.countDropped cfg (n + 1) r =
      { r with counters := updAll r.counters fun _ c => if c.select = 11 then { c with value := c.value + 1 } else c } := by
  rw [Report.countDropped_of_unwrapped cfg n r fun j wraps => by
    cases (Counter.not_wraps_one_of_ne_top (below j wraps.1)).symm.trans wraps.2]
  rw [bumped_of_unwrapped fun j counts => Counter.not_wraps_one_of_ne_top (below j counts)]
  rfl

/-- Settles O22: the latch, then the four outcomes of the ALERT. -/
theorem flagLatchesAndAlerts : Obligations.FlagLatchesAndAlerts := by
  refine ⟨fun f object value s => ⟨fun off => ?_, fun on room => ?_, fun on full below => ?_, fun i on full counts top others => ?_⟩,
    fun p f object value s => ⟨fun off => ?_, fun on room => ?_, fun on full below => ?_, fun i on full counts top others => ?_⟩⟩
  · unfold State.deviceEvent
    rw [off, Report.offerAlert_off]
    rfl
  · unfold State.deviceEvent
    rw [on, Report.offerAlert_room _ _ _ _ _ room]
    rfl
  · unfold State.deviceEvent
    rw [on, Report.offerAlert_full _ _ _ _ _ full, countDropped_of_no_top _ _ _ below]
    rfl
  · unfold State.deviceEvent
    rw [on, Report.offerAlert_full _ _ _ _ _ full,
      (Report.countDropped_of_wrapped s.reportCfg 7 (s.report.latch f) i counts top others).1 on]
    rfl
  · unfold State.portalEvent State.portalAlert State.offerAlert
    rw [show (s.latchPortal p f).device.portalAlert[p] = false from off, Report.offerAlert_off]
    rfl
  · unfold State.portalEvent State.portalAlert State.offerAlert
    rw [show (s.latchPortal p f).device.portalAlert[p] = true from on, Report.offerAlert_room _ _ _ _ _ room]
    rfl
  · unfold State.portalEvent State.portalAlert State.offerAlert
    rw [show (s.latchPortal p f).device.portalAlert[p] = true from on, Report.offerAlert_full _ _ _ _ _ full,
      countDropped_of_no_top _ _ _ below]
    rfl
  · have dropped := Report.countDropped_of_wrapped s.reportCfg 7 (s.latchPortal p f).report i counts top others
    unfold State.portalEvent State.portalAlert State.offerAlert
    rw [show (s.latchPortal p f).device.portalAlert[p] = true from on, Report.offerAlert_full _ _ _ _ _ full]
    refine ⟨fun alert => ?_, fun quiet => ?_⟩
    · rw [show (s.latchPortal p f).reportCfg = s.reportCfg from rfl, dropped.1 alert]
      rfl
    · rw [show (s.latchPortal p f).reportCfg = s.reportCfg from rfl, dropped.2 quiet]
      rfl

/-! ### Counting -/

/-- One counter's part in counting an event (R165, R166). -/
def Report.countRound (cfg : ReportCfg) (code : Fin 16) (amount : CounterScope → Nat) (r : Report) (i : Fin 8) : Report :=
  if r.counters[i].select = code ∧ r.counters[i].wraps (amount r.counters[i].scope) = true then
    ((r.bump code amount i).latch .cntOvf).offerAlert cfg cfg.deviceAlert (DeviceFlag.event .cntOvf) (BitVec.ofNat 8 i.val) code.val
  else r.bump code amount i

section
variable (cfg : ReportCfg) (code : Fin 16) (amount : CounterScope → Nat) (r : Report)

theorem Report.count_eq : r.count cfg code amount = (List.finRange 8).foldl (Report.countRound cfg code amount) r := by
  have round (r : Report) (i : Fin 8) :
      r.countRound cfg code amount i = if r.counters[i].select = code then
        let n := amount r.counters[i].scope
        let r' := { r with counters := updAt r.counters i (·.add n) }
        if r.counters[i].wraps n then
          (r'.latch .cntOvf).offerAlert cfg cfg.deviceAlert (DeviceFlag.event .cntOvf) (BitVec.ofNat 8 i.val) code.val
        else r'
      else r := by
    unfold Report.countRound Report.bump
    by_cases counts : r.counters[i].select = code
    · by_cases wraps : r.counters[i].wraps (amount r.counters[i].scope) = true
      · rw [if_pos ⟨counts, wraps⟩, if_pos counts, if_pos counts]
        dsimp only
        rw [if_pos wraps]
      · rw [if_neg fun both : _ ∧ _ => wraps both.2, if_pos counts, if_pos counts]
        dsimp only
        rw [if_neg wraps]
    · rw [if_neg fun both : _ ∧ _ => counts both.1, if_neg counts, if_neg counts]
  unfold Report.count
  congr 1
  funext r i
  exact (round r i).symm

theorem Report.countRound_of_unwrapped (r : Report) (i : Fin 8) (unwrapped : ¬ r.wrapsAt code amount i) :
    r.countRound cfg code amount i = r.bump code amount i := if_neg unwrapped

/-- Counting that wraps no counter. -/
theorem Report.count_of_unwrapped (unwrapped : ∀ i, ¬ r.wrapsAt code amount i) :
    r.count cfg code amount = { r with counters := bumped r.counters (List.finRange 8) code amount } := by
  rw [Report.count_eq]
  exact foldl_of_unwrapped (Report.countRound_of_unwrapped cfg code amount) _ (List.nodup_finRange 8) r fun i _ => unwrapped i

theorem Report.bump_shape (i j : Fin 8) : (r.bump code amount i).counters[j].select = r.counters[j].select
    ∧ (r.bump code amount i).counters[j].scope = r.counters[j].scope := by
  rw [Report.bump_get]
  split <;> exact ⟨rfl, rfl⟩

/-- What a round does to a counter that does not count dropped ALERTs. -/
theorem Report.countRound_get (i j : Fin 8) (free : r.counters[j].select ≠ 11) :
    (r.countRound cfg code amount i).counters[j]
      = if i = j ∧ r.counters[j].select = code then r.counters[j].add (amount r.counters[j].scope) else r.counters[j] := by
  unfold Report.countRound
  split
  · have kept := (Report.offerAlert_only cfg cfg.deviceAlert (DeviceFlag.event .cntOvf) (BitVec.ofNat 8 i.val) code.val
      ((r.bump code amount i).latch .cntOvf) j).2.2
    rw [kept (by rw [show ((r.bump code amount i).latch .cntOvf).counters = (r.bump code amount i).counters from rfl,
      (Report.bump_shape code amount r i j).1]; exact free)]
    exact Report.bump_get r i j
  · exact Report.bump_get r i j

theorem Report.countRound_select (i j : Fin 8) : (r.countRound cfg code amount i).counters[j].select = r.counters[j].select := by
  unfold Report.countRound
  split
  · exact (Report.offerAlert_only cfg cfg.deviceAlert (DeviceFlag.event .cntOvf) (BitVec.ofNat 8 i.val) code.val
      ((r.bump code amount i).latch .cntOvf) j).1.trans (Report.bump_shape code amount r i j).1
  · exact (Report.bump_shape code amount r i j).1

theorem Report.countRounds_get (l : List (Fin 8)) (nodup : l.Nodup) (j : Fin 8) (free : r.counters[j].select ≠ 11) :
    (l.foldl (Report.countRound cfg code amount) r).counters[j]
      = if j ∈ l ∧ r.counters[j].select = code then r.counters[j].add (amount r.counters[j].scope) else r.counters[j] := by
  induction l generalizing r with
  | nil => exact (if_neg (by simp)).symm
  | cons x l ih =>
    obtain ⟨fresh, nodup⟩ := List.nodup_cons.mp nodup
    have round := Report.countRound_get cfg code amount r x j free
    by_cases same : x = j
    · subst same
      have select : (r.countRound cfg code amount x).counters[x].select = r.counters[x].select := by
        rw [round]
        split <;> rfl
      rw [List.foldl_cons, ih _ nodup (by rw [select]; exact free), if_neg fun both : _ ∧ _ => fresh both.1, round]
      simp
    · have untouched : (r.countRound cfg code amount x).counters[j] = r.counters[j] := by
        rw [round, if_neg fun both : _ ∧ _ => same both.1]
      rw [List.foldl_cons, ih _ nodup (by rw [untouched]; exact free), untouched]
      simp [Ne.symm same]

/-- Counting adds to every counter of the code that does not count dropped ALERTs (R165). -/
theorem Report.count_get (j : Fin 8) (free : r.counters[j].select ≠ 11) :
    (r.count cfg code amount).counters[j]
      = if r.counters[j].select = code then r.counters[j].add (amount r.counters[j].scope) else r.counters[j] := by
  rw [Report.count_eq, Report.countRounds_get cfg code amount r _ (List.nodup_finRange 8) j free]
  simp

end

/-! ### Device flags, once latched -/

/-- The device flags that stand in `r` stand in `t`. -/
def FlagsKept (r t : Report) : Prop := ∀ k, r.deviceFlags.getLsbD k = true → t.deviceFlags.getLsbD k = true

theorem FlagsKept.latch (r : Report) (f : DeviceFlag) : FlagsKept r (r.latch f) := by
  intro k set
  unfold Report.latch
  rw [BitVec.getLsbD_or, set, Bool.true_or]

theorem FlagsKept.foldl {α : Type} (f : Report → α → Report) (kept : ∀ r x, FlagsKept r (f r x)) (l : List α) (r : Report) :
    FlagsKept r (l.foldl f r) := by
  induction l generalizing r with
  | nil => exact fun _ => id
  | cons x l ih => exact fun k set => ih (f r x) k (kept r x k set)

theorem FlagsKept.bump (r : Report) (code : Fin 16) (amount : CounterScope → Nat) (i : Fin 8) :
    FlagsKept r (r.bump code amount i) := by
  intro k set
  rw [Report.bump_deviceFlags]
  exact set

theorem FlagsKept.countDropped (cfg : ReportCfg) (n : Nat) (r : Report) : FlagsKept r (Report.countDropped cfg n r) := by
  induction n generalizing r with
  | zero =>
    unfold Report.countDropped
    exact fun _ => id
  | succ n ih =>
    rw [Report.countDropped_succ]
    refine .foldl _ (fun r i => ?_) _ r
    have latched : FlagsKept r ((r.bump 11 (unscoped 1) i).latch .cntOvf) := fun k set =>
      FlagsKept.latch _ _ k (FlagsKept.bump r 11 (unscoped 1) i k set)
    by_cases wraps : r.wrapsAt 11 (unscoped 1) i
    · rw [Report.dropRound_of_wrapped cfg _ r i wraps]
      split
      · exact fun k set => ih _ k (latched k set)
      · exact latched
    · rw [Report.dropRound_of_unwrapped cfg _ r i wraps]
      exact .bump r _ _ i

theorem FlagsKept.offerAlert (cfg : ReportCfg) (en : Bool) (e o : Byte) (v : Nat) (r : Report) :
    FlagsKept r (r.offerAlert cfg en e o v) := by
  unfold Report.offerAlert
  split
  · split
    · exact fun _ => id
    · exact .countDropped cfg 9 r
  · exact fun _ => id

theorem FlagsKept.countRound (cfg : ReportCfg) (code : Fin 16) (amount : CounterScope → Nat) (r : Report) (i : Fin 8) :
    FlagsKept r (r.countRound cfg code amount i) := by
  unfold Report.countRound
  split
  · exact fun k set => FlagsKept.offerAlert _ _ _ _ _ _ k (FlagsKept.latch _ _ k (FlagsKept.bump r code amount i k set))
  · exact .bump r code amount i

theorem FlagsKept.count (cfg : ReportCfg) (code : Fin 16) (amount : CounterScope → Nat) (r : Report) :
    FlagsKept r (r.count cfg code amount) := by
  rw [Report.count_eq]
  exact .foldl _ (FlagsKept.countRound cfg code amount) _ r

/-- A counter of the code that wraps latches CNT_OVF (R166). -/
theorem Report.count_latches {cfg : ReportCfg} {code : Fin 16} {amount : CounterScope → Nat} {r : Report} {i : Fin 8}
    (free : code ≠ 11) (wraps : r.wrapsAt code amount i) : (r.count cfg code amount).deviceFlags.getLsbD 4 = true := by
  obtain ⟨front, back, split, notFront, -, frontNodup, -, -, -⟩ := finRange_split i
  rw [Report.count_eq, split, List.foldl_append, List.foldl_cons]
  generalize first : front.foldl (Report.countRound cfg code amount) r = r1
  have here : r1.counters[i] = r.counters[i] := by
    rw [← first, Report.countRounds_get cfg code amount r front frontNodup i (by rw [wraps.1]; exact free),
      if_neg fun both : _ ∧ _ => notFront both.1]
  have wraps : r1.wrapsAt code amount i := by
    unfold Report.wrapsAt
    rw [here]
    exact wraps
  refine FlagsKept.foldl _ (FlagsKept.countRound cfg code amount) back _ 4 ?_
  unfold Report.countRound
  rw [if_pos (show _ ∧ _ from wraps)]
  refine FlagsKept.offerAlert _ _ _ _ _ _ 4 ?_
  unfold Report.latch
  rw [BitVec.getLsbD_or]
  simp [DeviceFlag.bit]

/-! ### One counter of the code wraps -/

section
variable {cfg : ReportCfg} {code : Fin 16} {amount : CounterScope → Nat} {r : Report} {i : Fin 8}

/-- Where counter `i` alone wraps: what the rounds after it start from, once its ALERT was offered to `r2`, with the counters up to `i`
added to; an ALERT changes no counter of the code. -/
theorem Report.count_of_wrapped (free : code ≠ 11) (wraps : r.wrapsAt code amount i)
    (others : ∀ j : Fin 8, j ≠ i → ¬ r.wrapsAt code amount j) :
    ∃ r2 : Report, r2.deviceFlags = r.deviceFlags ||| 16#5 ∧ r2.cQueue = r.cQueue
      ∧ (∀ j : Fin 8, r2.counters[j].select = r.counters[j].select)
      ∧ (∀ j : Fin 8, r.counters[j].select ≠ code → r2.counters[j] = r.counters[j])
      ∧ ∀ t : Report, r2.offerAlert cfg cfg.deviceAlert 5 (BitVec.ofNat 8 i.val) code.val = t →
        (r.count cfg code amount).deviceFlags = t.deviceFlags ∧ (r.count cfg code amount).cQueue = t.cQueue
          ∧ ∀ j : Fin 8, (r.count cfg code amount).counters[j]
              = if r.counters[j].select = code then r.counters[j].add (amount r.counters[j].scope) else t.counters[j] := by
  obtain ⟨front, back, split, notFront, notBack, frontNodup, backNodup, apart, all⟩ := finRange_split i
  have first := foldl_of_unwrapped (Report.countRound_of_unwrapped cfg code amount) front frontNodup r
    fun j member => others j fun same => notFront (same ▸ member)
  generalize front' : ({ r with counters := bumped r.counters front code amount } : Report) = r1 at first
  have counters1 (j : Fin 8) : r1.counters[j]
      = if j ∈ front ∧ r.counters[j].select = code then r.counters[j].add (amount r.counters[j].scope) else r.counters[j] := by
    rw [← front']
    exact bumped_get _ _ _ _ j
  have wraps1 : r1.counters[i].select = code ∧ r1.counters[i].wraps (amount r1.counters[i].scope) = true := by
    rw [counters1, if_neg fun both : _ ∧ _ => notFront both.1]
    exact wraps
  refine ⟨(r1.bump code amount i).latch .cntOvf, ?_, ?_, fun j => ?_, fun j other => ?_, ?_⟩
  · rw [← front']
    exact congrArg (· ||| 16#5) (Report.bump_deviceFlags _ i)
  · rw [← front']
    exact Report.bump_cQueue _ i
  · refine (Report.bump_shape code amount r1 i j).1.trans ?_
    rw [counters1]
    split <;> rfl
  · refine (Report.bump_get r1 i j).trans ?_
    rw [counters1, if_neg fun both : _ ∧ _ => other both.2, if_neg fun both : _ ∧ _ => other both.2]
  · rintro t rfl
    have round : r1.countRound cfg code amount i
        = ((r1.bump code amount i).latch .cntOvf).offerAlert cfg cfg.deviceAlert 5 (BitVec.ofNat 8 i.val) code.val := if_pos wraps1
    have run : r.count cfg code amount = back.foldl (Report.countRound cfg code amount) (r1.countRound cfg code amount i) := by
      rw [Report.count_eq, split, List.foldl_append, List.foldl_cons, first]
    have untouched (j : Fin 8) (counts : r.counters[j].select = code) (other : j ≠ i) :
        (r1.countRound cfg code amount i).counters[j] = r1.counters[j] := by
      have select : r1.counters[j].select = code := by
        rw [counters1]
        split <;> exact counts
      rw [Report.countRound_get cfg code amount r1 i j (by rw [select]; exact free), if_neg fun both : _ ∧ _ => other both.1.symm]
    have unwrapped (j : Fin 8) (member : j ∈ back) : ¬ (r1.countRound cfg code amount i).wrapsAt code amount j := by
      have other : j ≠ i := fun same => notBack (same ▸ member)
      by_cases counts : r.counters[j].select = code
      · unfold Report.wrapsAt
        rw [untouched j counts other, counters1, if_neg fun both : _ ∧ _ => apart j both.1 member]
        exact others j other
      · rintro ⟨now, _⟩
        rw [Report.countRound_select, counters1] at now
        split at now <;> exact counts now
    have last := foldl_of_unwrapped (Report.countRound_of_unwrapped cfg code amount) back backNodup _ unwrapped
    refine ⟨?_, ?_, fun j => ?_⟩
    · rw [run, last, round]
    · rw [run, last, round]
    · split
      · next counts => rw [Report.count_get cfg code amount r j (by rw [counts]; exact free), if_pos counts]
      · next other =>
        rw [run, last, round]
        dsimp only
        rw [bumped_get, if_neg]
        rintro ⟨_, now⟩
        rw [← round, Report.countRound_select, counters1] at now
        split at now <;> exact other now

end

theorem State.count_ext {s : State} {code : Fin 16} {amount : CounterScope → Nat} {v : Vector Counter 8} {f : BitVec 5}
    {q : List CEntry} (counters : ∀ j : Fin 8, (s.report.count s.reportCfg code amount).counters[j] = v[j])
    (flags : (s.report.count s.reportCfg code amount).deviceFlags = f) (queue : (s.report.count s.reportCfg code amount).cQueue = q) :
    s.count code amount = { s with counters := v, deviceFlags := f, cQueue := q } := by
  have report : s.report.count s.reportCfg code amount = { counters := v, deviceFlags := f, cQueue := q } :=
    Report.ext_counters counters flags queue
  unfold State.count
  rw [report]
  rfl

/-- Settles O23. -/
theorem countingAddsAndWraps : Obligations.CountingAddsAndWraps := by
  intro code amount s free bounded
  have get (i : Fin 8) (other : s.counters[i].select ≠ 11) := Report.count_get s.reportCfg code amount s.report i other
  have overflows (i : Fin 8) (wraps : 4294967295 < s.counters[i].value.toNat + amount s.counters[i].scope) :
      s.counters[i].wraps (amount s.counters[i].scope) = true := by
    rw [Counter.wraps_iff]
    omega
  have fits (i : Fin 8) (below : s.counters[i].value.toNat + amount s.counters[i].scope ≤ 4294967295) :
      s.counters[i].wraps (amount s.counters[i].scope) = false := by
    rw [Bool.eq_false_iff, ne_eq, Counter.wraps_iff]
    omega
  refine ⟨fun i counts => ?_, fun i other free => (get i free).trans (if_neg other), fun below => ?_,
    fun i counts wraps others => ?_, rfl⟩
  · have here : (s.count code amount).counters[i] = s.counters[i].add (amount s.counters[i].scope) :=
      (get i (by rw [counts]; exact free)).trans (if_pos counts)
    have low := s.counters[i].value.isLt
    have bound := bounded s.counters[i].scope
    dsimp only
    rw [here]
    refine ⟨?_, ?_, rfl, rfl, fun wraps => ?_⟩
    · unfold Counter.add
      dsimp only
      rw [BitVec.toNat_ofNat]
      split <;> omega
    · unfold Counter.add
      dsimp only
      congr 1
    · exact Report.count_latches (cfg := s.reportCfg) (r := s.report) free ⟨counts, overflows i wraps⟩
  · have unwrapped (j : Fin 8) (counts : s.counters[j].select = code) := fits j (below j counts)
    have quiet := Report.count_of_unwrapped s.reportCfg code amount s.report fun j wraps => by
      cases (unwrapped j wraps.1).symm.trans wraps.2
    unfold State.count
    rw [quiet, show s.report.counters = s.counters from rfl, bumped_of_unwrapped unwrapped]
    rfl
  · have unwrapped (j : Fin 8) (other : j ≠ i) (counts : s.counters[j].select = code) := fits j (others j other counts)
    obtain ⟨r2, flags2, queue2, select2, rest2, final⟩ := Report.count_of_wrapped (cfg := s.reportCfg) (amount := amount) (r := s.report)
      free ⟨counts, overflows i wraps⟩ fun j other wraps => by cases (unwrapped j other wraps.1).symm.trans wraps.2
    have added (j : Fin 8) (counts : s.counters[j].select = code) : s.counters[j].add (amount s.counters[j].scope)
        = { s.counters[j] with
            value := s.counters[j].value + BitVec.ofNat 32 (amount s.counters[j].scope)
            sticky := s.counters[j].sticky || decide (j = i) } := by
      rw [Counter.add_eq]
      by_cases same : j = i
      · subst same
        rw [overflows j wraps, decide_eq_true rfl]
      · rw [unwrapped j same counts, decide_eq_false same]
    have shape (w : Vector Counter 8) (j : Fin 8) (same : s.counters[j].select ≠ code → w[j] = s.counters[j]) :
        (if s.counters[j].select = code then s.counters[j].add (amount s.counters[j].scope) else w[j])
          = if s.counters[j].select = code then
              { s.counters[j] with
                value := s.counters[j].value + BitVec.ofNat 32 (amount s.counters[j].scope)
                sticky := s.counters[j].sticky || decide (j = i) }
            else s.counters[j] := by
      split
      · next counts => exact added j counts
      · next other => exact same other
    refine ⟨fun off => ?_, fun on room => ?_, fun on full below => ?_⟩
    · rw [show s.reportCfg.deviceAlert = false from off] at final
      obtain ⟨flags, queue, counters⟩ := final _ (Report.offerAlert_off ..)
      refine State.count_ext (fun j => ?_) (flags.trans flags2) (queue.trans queue2)
      rw [counters, updAll_get]
      exact shape _ j (rest2 j)
    · rw [show s.reportCfg.deviceAlert = true from on] at final
      obtain ⟨flags, queue, counters⟩ := final _ (Report.offerAlert_room _ _ _ _ r2 (by rw [queue2]; exact room))
      refine State.count_ext (fun j => ?_) (flags.trans flags2) (queue.trans ?_)
      · rw [counters, updAll_get]
        exact shape _ j (rest2 j)
      · exact congrArg (· ++ _) queue2
    · rw [show s.reportCfg.deviceAlert = true from on] at final
      have free2 (c : Fin 8) (drops : r2.counters[c].select = 11) : r2.counters[c] = s.counters[c] := by
        refine rest2 c fun counts => free ?_
        rw [← counts, ← select2, drops]
      obtain ⟨flags, queue, counters⟩ := final _ ((Report.offerAlert_full _ _ _ _ r2 (by rw [queue2]; exact full)).trans
        (countDropped_of_no_top _ 8 r2 fun c drops => by
          rw [free2 c drops]
          exact below c (by rw [← free2 c drops]; exact drops)))
      refine State.count_ext (fun j => ?_) (flags.trans flags2) (queue.trans queue2)
      rw [counters, updAll_get, updAll_get, updAll_get]
      by_cases counts : s.counters[j].select = code
      · rw [if_pos (show s.report.counters[j].select = code from counts), if_pos counts, if_neg (by rw [counts]; exact free)]
        exact added j counts
      · rw [if_neg (show ¬ s.report.counters[j].select = code from counts), if_neg counts, rest2 j counts]
        rfl

end Sys2Proof.Machine

/-! SUPPORT. The statements about sensors and pulse inputs, settled (Chapter 4). -/

namespace Sys2Proof.Machine

set_option Elab.async false

/-! ### ALERTs that joined the C queue -/

/-- The C queue has grown, and what an ALERT reads of the configuration is unchanged. -/
structure Grown (s t : State) : Prop where
  queue : s.cQueue <+: t.cQueue
  device : t.device = s.device
  address : t.addrPins = s.addrPins

section
variable {s t u : State}

theorem Grown.refl (s : State) : Grown s s := ⟨List.prefix_rfl, rfl, rfl⟩

theorem Grown.trans (h : Grown s t) (h' : Grown t u) : Grown s u :=
  ⟨h.queue.trans h'.queue, h'.device.trans h.device, h'.address.trans h.address⟩

theorem AlertsAdded.leads {q q' : List CEntry} (h : AlertsAdded q q') : q <+: q' := by
  obtain ⟨added, rfl, -, -⟩ := h
  exact List.prefix_append q added

theorem Grown.count (s : State) (c : Fin 16) (a : CounterScope → Nat) : Grown s (s.count c a) :=
  ⟨(count_adds s c a).leads, by simp, by simp⟩

theorem Grown.offerAlert (s : State) (en : Bool) (e o : Byte) (v : Nat) : Grown s (s.offerAlert en e o v) :=
  ⟨(offerAlert_adds s en e o v).leads, by simp, by simp⟩

theorem Grown.portalAlert (s : State) (p : Fin 4) (e o : Byte) (v : Nat) : Grown s (s.portalAlert p e o v) := .offerAlert s _ e o v

theorem Grown.portalEvent (s : State) (p : Fin 4) (f : PortalFlag) (o : Byte) (v : Nat) : Grown s (s.portalEvent p f o v) :=
  ⟨(portalEvent_adds s p f o v).leads, by simp, by simp⟩

theorem Grown.deviceEvent (s : State) (f : DeviceFlag) (o : Byte) (v : Nat) : Grown s (s.deviceEvent f o v) :=
  ⟨(deviceEvent_adds s f o v).leads, by simp, by simp⟩

theorem Grown.foldl {α : Type} (f : State → α → State) (h : ∀ t x, Grown t (f t x)) (l : List α) (s : State) :
    Grown s (l.foldl f s) := by
  induction l generalizing s with
  | nil => exact .refl s
  | cons x l ih => exact (h s x).trans (ih _)

theorem Grown.alertEntry (h : Grown s t) (e o : Byte) (v : Nat) : t.alertEntry e o v = s.alertEntry e o v := by
  unfold State.alertEntry State.ownAddress
  rw [h.device, h.address]

/-- An ALERT that joined stays while the queue grows. -/
theorem alerted_of_grown {en : Bool} {e o : Byte} {v : Nat} (alerted : s.alerted t en e o v) (later : Grown t u) :
    s.alerted u en e o v := by
  intro on
  obtain ⟨rest, joined⟩ := later.queue
  rcases alerted on with member | full
  · refine .inl ?_
    rw [← joined, List.drop_append]
    exact List.mem_append_left _ member
  · refine .inr ?_
    rw [← joined, List.length_append]
    omega

/-- An ALERT that joined behind a grown queue joined behind the queue before. -/
theorem alerted_of_later {en : Bool} {e o : Byte} {v : Nat} (earlier : Grown s t) (alerted : t.alerted u en e o v) :
    s.alerted u en e o v := by
  intro on
  rcases alerted on with member | full
  · rw [earlier.alertEntry] at member
    exact .inl (List.drop_subset_drop_left _ earlier.queue.length_le member)
  · exact .inr full

theorem alerted_offerAlert (s : State) (en : Bool) (e o : Byte) (v : Nat) : s.alerted (s.offerAlert en e o v) en e o v := by
  intro on
  subst on
  unfold State.offerAlert
  by_cases room : s.report.cQueue.length < 16
  · rw [Report.offerAlert_room _ _ _ _ _ room]
    refine .inl ?_
    show _ ∈ (s.cQueue ++ [_]).drop s.cQueue.length
    rw [List.drop_left]
    exact List.mem_singleton.mpr rfl
  · refine .inr ?_
    have grown := (offerAlert_adds s true e o v).leads.length_le
    have full : 16 ≤ s.cQueue.length := by
      have : ¬ s.cQueue.length < 16 := room
      omega
    exact Nat.le_trans full grown

theorem alerted_portalAlert (s : State) (p : Fin 4) (e o : Byte) (v : Nat) :
    s.alerted (s.portalAlert p e o v) s.device.portalAlert[p] e o v := alerted_offerAlert s _ e o v

theorem alerted_portalEvent (s : State) (p : Fin 4) (f : PortalFlag) (o : Byte) (v : Nat) :
    s.alerted (s.portalEvent p f o v) s.device.portalAlert[p] f.event o v := by
  have latched : Grown s (s.latchPortal p f) := ⟨List.prefix_rfl, rfl, rfl⟩
  exact alerted_of_later latched (alerted_portalAlert (s.latchPortal p f) p f.event o v)

theorem alerted_deviceEvent (s : State) (f : DeviceFlag) (o : Byte) (v : Nat) :
    s.alerted (s.deviceEvent f o v) s.device.deviceAlert f.event o v := by
  have latched : Grown s (s.withReport (s.report.latch f)) := ⟨List.prefix_rfl, rfl, rfl⟩
  exact alerted_of_later latched (alerted_offerAlert (s.withReport (s.report.latch f)) _ f.event o v)

end

/-! ### Judging a candidate -/

theorem clampSample_eq (l : Nat) (saturated : Bool) (origin : Origin) :
    clampSample l saturated origin
      = { luminance := min l 20000, saturated := saturated || decide (20000 < l), origin := origin } := by
  unfold clampSample
  split
  · next above =>
    rw [decide_eq_true above, Bool.or_true, Nat.min_eq_right (by omega)]
  · next within =>
    rw [decide_eq_false within, Bool.or_false, Nat.min_eq_left (by omega)]

theorem toNat_joinBytes (hi lo : Byte) : joinBytes hi lo = hi.toNat * 256 + lo.toNat := by
  unfold joinBytes
  rfl

/-- Settles O24. -/
theorem lineCandidateJudged : Obligations.LineCandidateJudged := by
  intro i origin payload s
  refine ⟨fun passed => ?_, fun used line bad => ?_, ?_⟩
  · unfold State.offerCandidate
    rw [if_neg]
    simp only [Bool.and_eq_true, beq_iff_eq]
    rintro ⟨used, line⟩
    rcases passed with unused | other
    · cases unused.symm.trans used
    · exact other line
  · have judged : (Candidate.ofPayload origin payload).judge = none := by
      unfold Candidate.judge
      split
      · rfl
      · next long =>
        have long : ¬ payload.length < 4 := by simpa [Candidate.ofPayload] using long
        exact if_neg (bad.resolve_left long)
    unfold State.offerCandidate
    rw [if_pos (by rw [used, line]; rfl), judged]
  · rintro b hi lo more used line rfl
    have judged : (Candidate.ofPayload origin (b :: hi :: lo :: 0 :: more)).judge
        = some (clampSample (joinBytes hi lo) false (.entry origin)) := by
      simp [Candidate.judge, Candidate.ofPayload]
    unfold State.offerCandidate
    rw [if_pos (by rw [used, line]; rfl), judged, clampSample_eq, toNat_joinBytes, Bool.false_or]

/-- Settles O25. -/
theorem goodSampleTaken : Obligations.GoodSampleTaken := by
  intro i x s
  have taken {f : Sensor → Sensor} (same : s.sensors[i].takeGood s.now x = f s.sensors[i]) :
      s.sensorGood i x = { s with sensors := updAt s.sensors i f } := by
    unfold State.sensorGood
    rw [updAt_congr s.sensors i same]
  refine ⟨fun state => taken ?_, fun state short => taken ?_, fun state full => taken ?_, fun state few => taken ?_,
    fun state third => taken ?_⟩
  · unfold Sensor.takeGood
    rcases state with state | state <;> rw [state]
  · unfold Sensor.takeGood joinHistory
    rw [state]
    dsimp only
    rw [if_pos short]
  · unfold Sensor.takeGood joinHistory
    rw [state]
    dsimp only
    rw [if_neg (by omega), full]
    congr 1
    cases history : s.sensors[i].history with
    | nil =>
      rw [history] at full
      cases full
    | cons y ys => rfl
  · unfold Sensor.takeGood
    rw [state]
    dsimp only
    rw [if_pos few]
  · unfold Sensor.takeGood
    rw [state]
    dsimp only
    rw [if_neg (by omega)]

/-! ### Rejected samples -/

theorem mem_sensorPortals {s : State} {i : Fin 8} {p : Fin 4} :
    p ∈ s.sensorPortals i ↔ s.portals[p].used = true ∧ (s.portals[p].mainSensor = i ∨ s.portals[p].reserveSensor = some i) := by
  simp only [State.sensorPortals, List.mem_filter, List.mem_finRange, true_and, Bool.and_eq_true, Bool.or_eq_true, beq_iff_eq]

theorem scopedTo_portal (ps : List (Fin 4)) (p : Fin 4) : scopedTo ps (.portal p) = if p ∈ ps then 1 else 0 := by
  unfold scopedTo
  simp only [List.contains_iff_mem]

/-- Counting keeps what a counter counts. -/
theorem count_select (s : State) (c : Fin 16) (a : CounterScope → Nat) {j : Fin 8} (free : s.counters[j].select ≠ 11) :
    (s.count c a).counters[j].select = s.counters[j].select := by
  have get : (s.count c a).counters[j] = _ := Report.count_get s.reportCfg c a s.report j free
  rw [get]
  split <;> rfl

section
variable (f : PortalFlag) (o : Byte) (v : Fin 4 → Nat) (l : List (Fin 4)) (s : State)

/-- An event of several portals latches the flag of each. -/
theorem portalEvents_flags (q : Fin 4) :
    (l.foldl (fun t p => t.portalEvent p f o (v p)) s).portalFlags[q]
      = if q ∈ l then s.portalFlags[q] ||| BitVec.ofNat 6 (2 ^ f.bit) else s.portalFlags[q] := by
  induction l generalizing s with
  | nil => rfl
  | cons p l ih =>
    rw [List.foldl_cons, ih, State.portalEvent_portalFlags, updAt_get]
    by_cases same : p = q
    · subst same
      by_cases member : p ∈ l
      · simp [member, BitVec.or_assoc]
      · simp [member]
    · simp [same, Ne.symm same]

theorem portalEvents_alerted {q : Fin 4} (member : q ∈ l) :
    s.alerted (l.foldl (fun t p => t.portalEvent p f o (v p)) s) s.device.portalAlert[q] f.event o (v q) := by
  induction l generalizing s with
  | nil => cases member
  | cons p l ih =>
    rw [List.foldl_cons]
    have grown := Grown.portalEvent s p f o (v p)
    rcases List.mem_cons.mp member with rfl | later
    · exact alerted_of_grown (alerted_portalEvent s q f o (v q))
        (.foldl (fun t p => t.portalEvent p f o (v p)) (fun t p => Grown.portalEvent t p f o (v p)) l _)
    · have alerted := alerted_of_later grown (ih (s.portalEvent p f o (v p)) later)
      rw [grown.device] at alerted
      exact alerted

end

/-- Settles O26. -/
theorem rejectedSampleTaken : Obligations.RejectedSampleTaken := by
  intro i s
  have member (p : Fin 4) := mem_sensorPortals (s := s) (i := i) (p := p)
  have stays {f : Sensor → Sensor} (quiet : s.sensors[i].faultsNext = false) (same : s.sensors[i].takeReject = f s.sensors[i]) :
      s.sensorReject i = { s.count 7 (scopedTo (s.sensorPortals i)) with sensors := updAt s.sensors i f } := by
    unfold State.sensorReject
    dsimp only
    rw [quiet, State.count_sensors, updAt_congr s.sensors i same]
    rfl
  refine ⟨scopedTo (s.sensorPortals i), rfl, fun p => ⟨fun named => ?_, fun unnamed => ?_⟩, fun state few => ?_, fun state third => ?_,
    fun state => ?_⟩
  · rw [scopedTo_portal, if_pos ((member p).mpr named)]
  · rw [scopedTo_portal, if_neg fun here => unnamed ((member p).mp here)]
  · refine stays ?_ ?_
    · unfold Sensor.faultsNext
      rcases state with state | state | state <;> rw [state] <;> exact decide_eq_false (by omega)
    · unfold Sensor.takeReject
      rcases state with state | state | state <;> rw [state] <;> exact if_neg (by omega)
  · have faults : s.sensors[i].faultsNext = true := by
      unfold Sensor.faultsNext
      rcases state with state | state | state <;> rw [state] <;> exact decide_eq_true third
    have taken : s.sensors[i].takeReject
        = { s.sensors[i] with state := .fault, rejects := 3, history := [], ageTimer := none, probation := [], good := 0 } := by
      unfold Sensor.takeReject
      rcases state with state | state | state <;> rw [state] <;> exact if_pos third
    generalize first : ({ s.count 7 (scopedTo (s.sensorPortals i)) with
      sensors := updAt (s.count 7 (scopedTo (s.sensorPortals i))).sensors i (·.takeReject) } : State) = t
    have run : s.sensorReject i
        = (s.sensorPortals i).foldl (fun t p => t.portalEvent p .sensorFault (BitVec.ofNat 8 i.val) p.val) t := by
      unfold State.sensorReject
      rw [faults, ← first]
      rfl
    have grown : Grown s t := by
      have counted := Grown.count s 7 (scopedTo (s.sensorPortals i))
      rw [← first]
      exact ⟨counted.queue, counted.device, counted.address⟩
    have flags (p : Fin 4) := portalEvents_flags .sensorFault (BitVec.ofNat 8 i.val) (·.val) (s.sensorPortals i) t p
    have oldFlags : t.portalFlags = s.portalFlags := by
      rw [← first]
      exact State.count_portalFlags s 7 (scopedTo (s.sensorPortals i))
    refine ⟨?_, fun p => ⟨fun named => ?_, fun unnamed => ?_⟩, fun p named => ?_, fun c free => ?_, ?_, exceptSensing_sensorReject s i⟩
    · rw [run, foldl_keeps (fun u : State => u.sensors) _ fun u p => State.portalEvent_sensors u p _ _ _, ← first]
      dsimp only
      rw [State.count_sensors]
      exact updAt_congr s.sensors i taken
    · rw [run, flags, if_pos ((member p).mpr named), oldFlags]
      rfl
    · rw [run, flags, if_neg fun here => unnamed ((member p).mp here), oldFlags]
    · rw [run]
      have alerted := portalEvents_alerted .sensorFault (BitVec.ofNat 8 i.val) (·.val) (s.sensorPortals i) t ((member p).mpr named)
      rw [grown.device] at alerted
      exact alerted_of_later grown alerted
    · have counters : t.counters = (s.count 7 (scopedTo (s.sensorPortals i))).counters := by rw [← first]
      rw [run, ← counters]
      refine (OnlyCode11.foldl (fun u : State => u.counters) _ (fun u p => portalEvent_only u p _ _ _) _ t c).2.2 ?_
      rw [counters, count_select s _ _ free]
      exact free
    · rw [run, foldl_keeps (fun u : State => u.pulses) _ fun u p => State.portalEvent_pulses u p _ _ _, ← first]
      exact State.count_pulses s 7 (scopedTo (s.sensorPortals i))
  · refine stays ?_ ?_
    · unfold Sensor.faultsNext
      rw [state]
    · unfold Sensor.takeReject
      rw [state]

/-! ### Age timers and pulse inputs -/

/-- Settles O28. -/
theorem ageTimerMakesStale : Obligations.AgeTimerMakesStale := by
  intro i e s live timer
  have run : exec (.ageTimerExpiry i) s = .next (s.ageExpiry i) := whenLive_of_live live (·.ageExpiry i)
  have clears {n : Fin 4} {x : Option (BitVec 48)} (source : s.sensors[i].source = .pulse n)
      (reference : s.pulses[n].referenceAt (max s.now e) = x) :
      s.ageExpiry i = { s.reach e with
        sensors := updAt s.sensors i fun r => { r with state := .stale, history := [], ageTimer := none }
        pulses := updAt s.pulses n fun r =>
          { r with reference := none, cleared := some { moment := max s.now e, reference := x } } } := by
    have pulses : updAt s.pulses n (·.clearReference (max s.now e)) = updAt s.pulses n fun r =>
          { r with reference := none, cleared := some { moment := max s.now e, reference := x } } := by
      refine updAt_congr s.pulses n ?_
      unfold PulseInput.clearReference
      rw [reference]
    unfold State.ageExpiry
    rw [timer]
    dsimp only
    rw [State.reach_sensors, source, ← pulses]
    rfl
  refine ⟨fun line => ?_, fun n source => ⟨fun apart => ?_, fun c cleared now => ?_⟩⟩
  · rw [run]
    unfold State.ageExpiry
    rw [timer]
    dsimp only
    rw [State.reach_sensors, line]
  · rw [run, clears source (PulseInput.referenceAt_of_not_cleared apart)]
    rfl
  · rw [run, clears source (PulseInput.referenceAt_of_cleared cleared now)]

/-- Sensors that take a sample in turn, each once. -/
theorem foldl_takeGood (now : Time) (x : Sample) (l : List (Fin 8)) (nodup : l.Nodup) (v : Vector Sensor 8) (i : Fin 8) :
    (l.foldl (fun v i => updAt v i (·.takeGood now x)) v)[i] = if i ∈ l then v[i].takeGood now x else v[i] := by
  induction l generalizing v with
  | nil => rfl
  | cons j l ih =>
    obtain ⟨fresh, nodup⟩ := List.nodup_cons.mp nodup
    rw [List.foldl_cons, ih nodup, updAt_get]
    by_cases same : j = i
    · subst same
      simp [fresh]
    · simp [same, Ne.symm same]

theorem foldl_sensorGood (x : Sample) (l : List (Fin 8)) (s : State) :
    l.foldl (fun t i => t.sensorGood i x) s
      = { s with sensors := l.foldl (fun v i => updAt v i (·.takeGood s.now x)) s.sensors } := by
  induction l generalizing s with
  | nil => rfl
  | cons i l ih =>
    rw [List.foldl_cons, ih]
    rfl

/-- The record of a pulse input once a gate that ended now has been sampled: what the statement writes for it (R67, R69). -/
def PulseInput.gated (r : PulseInput) (now : Time) : PulseInput :=
  { r with count := 0, reference := if r.count = 0 then r.reference else r.lastEdge, cleared := none,
           gate := some { ends := now + r.gateLength * msTicks, length := r.gateLength } }

theorem PulseInput.nextReference_none (r : PulseInput) (now : Time) :
    r.nextReference now none = if r.count = 0 then r.reference else r.lastEdge := by
  unfold PulseInput.nextReference
  simp

/-- After a sample the reference is the last edge, but stays cleared where an age expiry of this moment cleared it (R62 (1)). -/
theorem PulseInput.nextReference_some {r : PulseInput} (now : Time) (x : Sample) (held : 1 ≤ r.count) :
    (r.clearedNow now = true → r.nextReference now (some x) = none)
      ∧ (r.clearedNow now = false → r.nextReference now (some x) = r.lastEdge) := by
  unfold PulseInput.nextReference
  rw [if_neg (by omega)]
  constructor <;> intro cleared <;> simp [cleared]

theorem mem_sensorsOfPulse {s : State} {n : Fin 4} {i : Fin 8} :
    i ∈ s.sensorsOfPulse n ↔ s.sensors[i].used = true ∧ s.sensors[i].source = .pulse n := by
  simp only [State.sensorsOfPulse, List.mem_filter, List.mem_finRange, true_and, Bool.and_eq_true, beq_iff_eq]

section
variable {s : State} {n : Fin 4} {g : Gate} (gate : s.pulses[n].gate = some g)
include gate

/-- A gate that makes no sample. -/
theorem gateExpiry_of_none
    (none : s.pulses[n].gateSample n g.length (s.pulses[n].referenceAt (max s.now g.ends)) = .none) :
    s.gateExpiry n = { s.reach g.ends with pulses := updAt s.pulses n fun _ => s.pulses[n].gated (max s.now g.ends) } := by
  have pulses : updAt s.pulses n (fun r => { r with
      count := 0
      reference := r.nextReference (max s.now g.ends) .none
      lastSample := r.lastSample
      gate := some { ends := max s.now g.ends + r.gateLength * msTicks, length := r.gateLength }
      cleared := .none }) = updAt s.pulses n fun _ => s.pulses[n].gated (max s.now g.ends) := by
    refine updAt_congr s.pulses n ?_
    rw [PulseInput.nextReference_none]
    rfl
  unfold State.gateExpiry
  rw [gate]
  dsimp only
  rw [State.reach_pulses, State.reach_now, none, ← pulses]

/-- A gate that makes the sample `x`. -/
theorem gateExpiry_of_sample {x : Sample}
    (made : s.pulses[n].gateSample n g.length (s.pulses[n].referenceAt (max s.now g.ends)) = some x) :
    ∃ sensors : Vector Sensor 8, s.gateExpiry n = { s.reach g.ends with
        sensors := sensors
        pulses := updAt s.pulses n fun _ =>
          { s.pulses[n].gated (max s.now g.ends) with
            lastSample := some x, reference := s.pulses[n].nextReference (max s.now g.ends) (some x) } }
      ∧ ∀ i : Fin 8, sensors[i] = if s.sensors[i].used = true ∧ s.sensors[i].source = .pulse n then
          s.sensors[i].takeGood (max s.now g.ends) x else s.sensors[i] := by
  refine ⟨(s.sensorsOfPulse n).foldl (fun v i => updAt v i (·.takeGood (max s.now g.ends) x)) s.sensors, ?_, fun i => ?_⟩
  · unfold State.gateExpiry
    rw [gate]
    dsimp only
    rw [State.reach_pulses, State.reach_now, made]
    dsimp only
    rw [foldl_sensorGood]
    rfl
  · have nodup : (s.sensorsOfPulse n).Nodup := (List.nodup_finRange 8).filter _
    rw [foldl_takeGood _ _ _ nodup]
    simp only [mem_sensorsOfPulse]

end

/-- The reference a gate counts from, as the statement names it (R62 (1)). -/
theorem referenceAt_of_used {r : PulseInput} {now : Time} {x : Option (BitVec 48)}
    (used : (∀ c, r.cleared = some c → c.moment = now → x = c.reference)
      ∧ ((¬ ∃ c, r.cleared = some c ∧ c.moment = now) → x = r.reference)) : r.referenceAt now = x := by
  obtain ⟨together, apart⟩ := used
  by_cases cleared : ∃ c, r.cleared = some c ∧ c.moment = now
  · obtain ⟨c, cleared, moment⟩ := cleared
    rw [PulseInput.referenceAt_of_cleared cleared moment, together c cleared moment]
  · rw [PulseInput.referenceAt_of_not_cleared fun c here moment => cleared ⟨c, here, moment⟩, apart cleared]

/-- Settles O29. -/
theorem pulseInputCountsAndSamples : Obligations.PulseInputCountsAndSamples := by
  refine ⟨fun dt n s live => ?_, fun n g s live gate => ?_⟩
  · have run : exec (.pulseEdge dt n) s = .next ((s.elapse dt).pulseEdge n) := whenLive_of_live live fun s => (s.elapse dt).pulseEdge n
    have takes : s.pulses[n].takesEdge (s.now + dt) = true
        ↔ s.pulses[n].enable = true ∧ ∀ t, s.pulses[n].lastTaken = some t → t + 14 * usTicks ≤ s.now + dt := by
      unfold PulseInput.takesEdge
      cases s.pulses[n].lastTaken <;> simp only [Bool.and_eq_true, decide_eq_true_eq, Option.some.injEq, reduceCtorEq, forall_eq',
        false_implies, implies_true]
    refine ⟨fun enabled apart => ?_, fun passed => ?_⟩
    · rw [run]
      unfold State.pulseEdge
      rw [if_pos (show (s.elapse dt).pulses[n].takesEdge (s.elapse dt).now = true from takes.mpr ⟨enabled, apart⟩)]
      rfl
    · rw [run]
      unfold State.pulseEdge
      rw [if_neg]
      intro taken
      obtain ⟨enabled, apart⟩ := takes.mp taken
      rcases passed with off | ⟨t, last, early⟩
      · cases off.symm.trans enabled
      · exact absurd early (Nat.not_lt.mpr (apart t last))
  · have run : exec (.gateExpiry n) s = .next (s.gateExpiry n) := whenLive_of_live live (·.gateExpiry n)
    rw [run]
    have together := s.pulses[n].clearedNow_iff (max s.now g.ends)
    have sampled (luminance : Nat) (saturated : Bool) (held : 1 ≤ s.pulses[n].count) {x : Sample}
        (sample : clampSample luminance saturated (.pulse n) = x)
        (made : s.pulses[n].gateSample n g.length (s.pulses[n].referenceAt (max s.now g.ends))
          = some (clampSample luminance saturated (.pulse n))) :
        ∃ (sensors : Vector Sensor 8) (reference : Option (BitVec 48)),
          Host.Outcome.next (φ := Fault) (ρ := Refusal) (s.gateExpiry n) = .next { s.reach g.ends with
            sensors := sensors
            pulses := updAt s.pulses n fun _ =>
              { s.pulses[n].gated (max s.now g.ends) with lastSample := some x, reference := reference } }
          ∧ ((∃ c, s.pulses[n].cleared = some c ∧ c.moment = max s.now g.ends) → reference = none)
          ∧ ((¬ ∃ c, s.pulses[n].cleared = some c ∧ c.moment = max s.now g.ends) → reference = s.pulses[n].lastEdge)
          ∧ ∀ i : Fin 8, sensors[i] = if s.sensors[i].used = true ∧ s.sensors[i].source = .pulse n then
              s.sensors[i].takeGood (max s.now g.ends) x else s.sensors[i] := by
      subst sample
      obtain ⟨sensors, expiry, taken⟩ := gateExpiry_of_sample gate made
      have next := PulseInput.nextReference_some (max s.now g.ends) (clampSample luminance saturated (.pulse n)) held
      rw [← together, Bool.not_eq_true]
      exact ⟨sensors, _, congrArg _ expiry, next.1, next.2, taken⟩
    refine ⟨fun many => ?_, fun e f one few last used => ?_, fun few unmade => ?_⟩
    · exact sampled _ _ (by omega) (clampSample_eq _ _ _) (if_pos many)
    · have reference := referenceAt_of_used used
      refine ⟨if (e - f).toNat = 0 then Config.zeroPeriodLuminance s.pulses[n].count s.pulses[n].scale
        else s.pulses[n].count * s.pulses[n].scale * 1000 / (e - f).toNat, sampled _ false one (clampSample_eq _ _ _) ?_, fun period => if_neg period⟩
      unfold PulseInput.gateSample
      rw [if_neg (by omega), if_neg (by omega), last, reference]
    · have none : s.pulses[n].gateSample n g.length (s.pulses[n].referenceAt (max s.now g.ends)) = .none := by
        unfold PulseInput.gateSample
        rw [if_neg (by omega)]
        rcases unmade with empty | used
        · exact if_pos empty
        · rw [referenceAt_of_used used]
          split
          · rfl
          · split
            · next clash => cases clash
            · rfl
      exact congrArg _ (gateExpiry_of_none gate none)

end Sys2Proof.Machine

/-! SUPPORT. The statements about interception, snooping, the reply window and RESTART's effect, settled (R15 to R17, R45, R120, R132 to
R139, R158). -/

namespace Sys2Proof.Machine

set_option Elab.async false

/-! ### The C queue after one ALERT -/

theorem offerAlert_cQueue_eq (s : State) (en : Bool) (e o : Byte) (v : Nat) :
    (s.offerAlert en e o v).cQueue
      = if en = true ∧ s.cQueue.length < 16 then s.cQueue ++ [s.alertEntry e o v] else s.cQueue := by
  unfold State.offerAlert
  cases en with
  | false =>
    rw [Report.offerAlert_off]
    rfl
  | true =>
    by_cases room : s.cQueue.length < 16
    · rw [Report.offerAlert_room _ _ _ _ _ (show s.report.cQueue.length < 16 from room), if_pos ⟨rfl, room⟩]
      rfl
    · rw [if_neg fun both : _ ∧ _ => room both.2]
      unfold Report.offerAlert
      rw [if_pos rfl, if_neg (show ¬ s.report.cQueue.length < 16 from room)]
      exact Report.countDropped_cQueue _ _ _

theorem portalAlert_cQueue_eq (s : State) (p : Fin 4) (e o : Byte) (v : Nat) :
    (s.portalAlert p e o v).cQueue
      = if s.device.portalAlert[p] = true ∧ s.cQueue.length < 16 then s.cQueue ++ [s.alertEntry e o v] else s.cQueue :=
  offerAlert_cQueue_eq s _ e o v

theorem portalEvent_cQueue_eq (s : State) (p : Fin 4) (f : PortalFlag) (o : Byte) (v : Nat) :
    (s.portalEvent p f o v).cQueue
      = if s.device.portalAlert[p] = true ∧ s.cQueue.length < 16 then s.cQueue ++ [s.alertEntry f.event o v] else s.cQueue :=
  portalAlert_cQueue_eq (s.latchPortal p f) p f.event o v

/-- The flag an event latches stands. -/
theorem portalEvent_latches (s : State) (p : Fin 4) (f : PortalFlag) (o : Byte) (v : Nat) :
    (s.portalEvent p f o v).portalFlags[p].getLsbD f.bit = true := by
  rw [State.portalEvent_portalFlags, updAt_get, if_pos rfl, BitVec.getLsbD_or]
  cases f <;> simp [PortalFlag.bit]

/-! ### Where a group stands -/

section
variable {s : State} {g : Fin 48}

theorem mem_zonesOfGroup {z : Fin 32} : z ∈ s.zonesOfGroup g ↔ s.zones[z].used = true ∧ g ∈ s.zones[z].standing := by
  simp only [State.zonesOfGroup, List.mem_filter, List.mem_finRange, true_and, Bool.and_eq_true, List.contains_iff_mem]

/-- A group of one slot stands in one zone (R150). -/
theorem zone_unique_of_slotCount (one : s.slotCount g = 1) {y z : Fin 32} (inY : y ∈ s.zonesOfGroup g) (inZ : z ∈ s.zonesOfGroup g) :
    y = z := by
  refine Classical.byContradiction fun differ => ?_
  unfold State.slotCount at one
  have slots (x : Fin 32) (here : x ∈ s.zonesOfGroup g) :
      1 ≤ if s.zones[x].used = true then s.zones[x].standing.count g else 0 := by
    obtain ⟨used, stands⟩ := mem_zonesOfGroup.mp here
    rw [if_pos used]
    exact List.count_pos_iff.mpr stands
  have both := add_le_sum_of_mem (f := fun x : Fin 32 => if s.zones[x].used = true then s.zones[x].standing.count g else 0)
    (List.mem_finRange y) (List.mem_finRange z) differ
  have atY := slots y inY
  have atZ := slots z inZ
  omega

end

/-! ### Snooping -/

section
variable {s : State} {d : Fin 160} {old new : DriverState}

theorem driverChanged_of_none (none : s.portalOfGroup s.drivers[d].group = .none) : s.driverChanged d old new = s := by
  unfold State.driverChanged
  rw [none]

theorem driverChanged_of_same (same : old = new) : s.driverChanged d old new = s := by
  unfold State.driverChanged
  split
  · rfl
  · exact if_pos same

variable {p : Fin 4} (portal : s.portalOfGroup s.drivers[d].group = some p)
include portal

theorem driverChanged_of_ailing (change : old ≠ new) (ailing : new.ailing = true) :
    s.driverChanged d old new = s.portalEvent p .driver (BitVec.ofNat 8 d.val) new.code := by
  unfold State.driverChanged
  rw [portal]
  dsimp only
  rw [if_neg change, if_pos ailing]

theorem driverChanged_of_well (well : new = .ok) :
    s.driverChanged d old new
      = if old.ailing = true then s.portalAlert p PortalFlag.driver.event (BitVec.ofNat 8 d.val) new.code else s := by
  subst well
  unfold State.driverChanged
  rw [portal]
  cases old <;> rfl

end

theorem stateOfCondition_eq (c : Byte) :
    stateOfCondition c = if c = 0 then .ok else if c = 1 then .degraded else .failed := by
  unfold stateOfCondition
  by_cases zero : c = 0
  · subst zero
    rfl
  · by_cases one : c = 1
    · subst one
      rfl
    · rw [if_neg zero, if_neg one]
      split
      · next code => exact absurd (BitVec.eq_of_toNat_eq code) zero
      · next code => exact absurd (BitVec.eq_of_toNat_eq code) one
      · rfl

theorem DriverState.ailing_iff (d : DriverState) : d.ailing = true ↔ d = .degraded ∨ d = .failed ∨ d = .absent := by
  cases d <;> simp [DriverState.ailing]

theorem stateOfCondition_ailing (c : Byte) (other : stateOfCondition c ≠ .ok) : (stateOfCondition c).ailing = true := by
  rw [stateOfCondition_eq] at other ⊢
  by_cases zero : c = 0
  · exact absurd (if_pos zero) other
  · rw [if_neg zero]
    split <;> rfl

/-- Wipes what events write: the report and the portal flags. -/
def State.exceptEvents (s : State) : State := { s.exceptReport with portalFlags := Vector.replicate 4 0 }

theorem of_exceptEvents {s t : State} (same : t.exceptEvents = s.exceptEvents) :
    t.groups = s.groups ∧ t.drivers = s.drivers ∧ t.fQueue = s.fQueue ∧ t.pollTimer = s.pollTimer ∧ t.cursor = s.cursor
      ∧ t.rescan = s.rescan ∧ t.rescanPosition = s.rescanPosition ∧ t.scanOrphan = s.scanOrphan ∧ t.fTx = s.fTx :=
  ⟨(congrArg (fun u : State => u.groups) same :), (congrArg (fun u : State => u.drivers) same :),
    (congrArg (fun u : State => u.fQueue) same :), (congrArg (fun u : State => u.pollTimer) same :),
    (congrArg (fun u : State => u.cursor) same :), (congrArg (fun u : State => u.rescan) same :),
    (congrArg (fun u : State => u.rescanPosition) same :), (congrArg (fun u : State => u.scanOrphan) same :),
    (congrArg (fun u : State => u.fTx) same :)⟩

theorem exceptEvents_portalEvent (s : State) (p : Fin 4) (f : PortalFlag) (o : Byte) (v : Nat) :
    (s.portalEvent p f o v).exceptEvents = s.exceptEvents := rfl

theorem exceptEvents_portalAlert (s : State) (p : Fin 4) (e o : Byte) (v : Nat) :
    (s.portalAlert p e o v).exceptEvents = s.exceptEvents := rfl

theorem exceptEvents_driverChanged (s : State) (d : Fin 160) (a b : DriverState) :
    (s.driverChanged d a b).exceptEvents = s.exceptEvents := by
  unfold State.driverChanged
  split
  · rfl
  · split
    · rfl
    · split
      · exact exceptEvents_portalEvent _ _ _ _ _
      · split
        · exact exceptEvents_portalAlert _ _ _ _ _
        · rfl

/-- The comparison of a reported level touches the due marks alone (R120). -/
theorem resync_eq (s : State) (d : Fin 160) (level : Nat) : s.resync d level = { s with groups := (s.resync d level).groups } := by
  unfold State.resync
  dsimp only
  split
  · rfl
  · split <;> rfl

/-- A driver's record after a STATUS (R132). -/
def Driver.reported (r : Driver) (c : Byte) (level : BitVec 16) : Driver :=
  { r with lastCondition := some c, lastLevel := some level, misses := 0, state := stateOfCondition c }

/-- The state of a STATUS before its flag and ALERT. -/
def State.reported (s : State) (d : Fin 160) (c : Byte) (level : BitVec 16) : State :=
  { s with groups := (s.resync d level.toNat).groups, drivers := updAt s.drivers d (·.reported c level) }

theorem snoop_eq (s : State) (d : Fin 160) (c : Byte) (level : BitVec 16) :
    s.snoop d c level = (s.reported d c level).driverChanged d s.drivers[d].state (stateOfCondition c) := by
  unfold State.snoop
  dsimp only
  rw [resync_eq]
  rfl

theorem portalOfGroup_congr {s t : State} (zones : t.zones = s.zones) (g : Fin 48) : t.portalOfGroup g = s.portalOfGroup g := by
  unfold State.portalOfGroup State.zonesOfGroup
  rw [zones]

theorem reported_portal (s : State) (d : Fin 160) (c : Byte) (level : BitVec 16) :
    (s.reported d c level).portalOfGroup (s.reported d c level).drivers[d].group = s.portalOfGroup s.drivers[d].group := by
  have group : (s.reported d c level).drivers[d].group = s.drivers[d].group := by
    unfold State.reported
    dsimp only
    rw [updAt_get, if_pos rfl]
    rfl
  rw [group]
  exact portalOfGroup_congr rfl _

/-- The regulating portal in whose zone the driver's group stands, if there is one (R120). -/
theorem resync_groups_of_none {s : State} {d : Fin 160} (level : Nat)
    (idle : ∀ z : Fin 32, s.zones[z].used = true → s.drivers[d].group ∈ s.zones[z].standing → s.regulating s.zones[z].portal = false) :
    (s.resync d level).groups = s.groups := by
  have none : ((s.zonesOfGroup s.drivers[d].group).map fun z => s.zones[z].portal).find? (fun p => s.regulating p) = .none := by
    rw [List.find?_eq_none]
    intro p member
    obtain ⟨z, here, rfl⟩ := List.mem_map.mp member
    obtain ⟨used, stands⟩ := mem_zonesOfGroup.mp here
    rw [idle z used stands]
    simp
  unfold State.resync
  dsimp only
  rw [none]

theorem resync_groups_of_portal {s : State} {d : Fin 160} (level : Nat) {z : Fin 32} (used : s.zones[z].used = true)
    (stands : s.drivers[d].group ∈ s.zones[z].standing) (regulating : s.regulating s.zones[z].portal = true)
    (one : s.slotCount s.drivers[d].group = 1) :
    (s.resync d level).groups =
      if s.groups[s.drivers[d].group].used = true ∧ s.groups[s.drivers[d].group].owner = .part
          ∧ s.groups[s.drivers[d].group].pendingMark = false
          ∧ (1000 < level ∨ s.portals[s.zones[z].portal].deadband
            < max level s.groups[s.drivers[d].group].sent - min level s.groups[s.drivers[d].group].sent) then
        updAt s.groups s.drivers[d].group fun r => { r with due := true }
      else s.groups := by
  have found : ((s.zonesOfGroup s.drivers[d].group).map fun z => s.zones[z].portal).find? (fun p => s.regulating p)
      = some s.zones[z].portal := by
    have here : z ∈ s.zonesOfGroup s.drivers[d].group := mem_zonesOfGroup.mpr ⟨used, stands⟩
    cases search : ((s.zonesOfGroup s.drivers[d].group).map fun z => s.zones[z].portal).find? (fun p => s.regulating p) with
    | none => exact absurd regulating (List.find?_eq_none.mp search _ (List.mem_map_of_mem here))
    | some q =>
      obtain ⟨y, there, rfl⟩ := List.mem_map.mp (List.mem_of_find?_eq_some search)
      rw [zone_unique_of_slotCount one there here]
  unfold State.resync
  dsimp only
  rw [found]
  dsimp only
  have apart (a b : Nat) : a - b + (b - a) = max a b - min a b := by omega
  rw [apart]
  split
  · next due =>
    rw [if_pos]
    simpa only [Bool.and_eq_true, Bool.or_eq_true, beq_iff_eq, Bool.not_eq_true', decide_eq_true_eq, and_assoc] using due
  · next undue =>
    rw [if_neg]
    simpa only [Bool.and_eq_true, Bool.or_eq_true, beq_iff_eq, Bool.not_eq_true', decide_eq_true_eq, and_assoc] using undue

/-- Settles O12. -/
theorem snoopUpdatesDriver : Obligations.SnoopUpdatesDriver := by
  intro d c level s
  have portal := reported_portal s d c level
  obtain ⟨groups, drivers, fQueue, pollTimer, cursor, rescan, position, -, -⟩ :=
    of_exceptEvents (exceptEvents_driverChanged (s.reported d c level) d s.drivers[d].state (stateOfCondition c))
  rw [← snoop_eq] at groups drivers fQueue pollTimer cursor rescan position
  dsimp only
  rw [← stateOfCondition_eq, ← DriverState.ailing_iff]
  refine ⟨drivers, ?_, fun idle => groups.trans (resync_groups_of_none _ idle), fun p here other change => ?_, fun quiet => ?_,
    fun p here => ⟨fun new old => ?_, fun new old => ?_, fun new ailing => ?_⟩, fun quiet => ?_, fQueue, pollTimer, cursor, rescan,
    position, exceptPolling_snoop s d c level⟩
  · rintro z p used stands rfl regulating one
    exact groups.trans (resync_groups_of_portal _ used stands regulating one)
  · rw [snoop_eq, driverChanged_of_ailing (portal.trans here) (Ne.symm change) (stateOfCondition_ailing c other)]
    exact portalEvent_latches _ _ _ _ _
  · rw [snoop_eq]
    rcases quiet with well | same | none
    · cases here : s.portalOfGroup s.drivers[d].group with
      | none => rw [driverChanged_of_none (portal.trans here)]; rfl
      | some p =>
        rw [driverChanged_of_well (portal.trans here) well]
        split
        · rw [State.portalAlert_portalFlags]; rfl
        · rfl
    · rw [driverChanged_of_same same.symm]; rfl
    · rw [driverChanged_of_none (portal.trans none)]; rfl
  · rw [snoop_eq, driverChanged_of_ailing (portal.trans here) (by rw [new]; exact old) (by rw [new]; rfl), portalEvent_cQueue_eq, new]
    rfl
  · rw [snoop_eq, driverChanged_of_ailing (portal.trans here) (by rw [new]; exact old) (by rw [new]; rfl), portalEvent_cQueue_eq, new]
    rfl
  · rw [snoop_eq, driverChanged_of_well (portal.trans here) new, if_pos ailing, portalAlert_cQueue_eq, new]
    rfl
  · rw [snoop_eq]
    rcases quiet with same | none | ⟨well, hale⟩
    · rw [driverChanged_of_same same.symm]; rfl
    · rw [driverChanged_of_none (portal.trans none)]; rfl
    · cases here : s.portalOfGroup s.drivers[d].group with
      | none => rw [driverChanged_of_none (portal.trans here)]; rfl
      | some p =>
        rw [driverChanged_of_well (portal.trans here) well, if_neg hale]
        rfl

end Sys2Proof.Machine

/-! SUPPORT. Built-in handling of good frames, the reply window and RESTART's effect, settled (R15 to R17, R45, R133 to R139, R158). -/

namespace Sys2Proof.Machine

set_option Elab.async false

/-! ### Interception, snooping and forwarding -/

section
variable {s : State}

theorem commandedGroup_iff {g : Fin 48} :
    s.commandedGroup g = true ↔ s.groups[g].used = true ∧ s.groups[g].owner = .part
      ∧ ∃ z : Fin 32, s.zones[z].used = true ∧ g ∈ s.zones[z].standing ∧ s.regulating s.zones[z].portal = true := by
  simp only [State.commandedGroup, Bool.and_eq_true, beq_iff_eq, List.any_eq_true, mem_zonesOfGroup, and_assoc]

theorem intercepts_iff {f : Frame} :
    s.intercepts .c f = true ↔ s.mode = .running ∧ f.cls = clsLevel
      ∧ ((∃ g : Fin 48, s.groups[g].address = f.dest ∧ s.commandedGroup g = true)
        ∨ (∃ d : Fin 160, s.drivers[d].used = true ∧ s.drivers[d].address = f.dest ∧ s.commandedGroup s.drivers[d].group = true)
        ∨ (f.dest = 255 ∧ ∃ p : Fin 4, s.regulating p = true)) := by
  simp only [State.intercepts, State.interceptsAddress, Bool.and_eq_true, Bool.or_eq_true, beq_iff_eq, List.any_eq_true,
    List.mem_finRange, true_and, and_true, and_assoc, or_assoc]

theorem not_intercepts_f {f : Frame} : s.intercepts .f f = false := by
  simp [State.intercepts]

theorem handleOnward_f (f : Frame) : s.handleOnward .f f = (s.snoopFrame .f f).offerPassC f := by
  unfold State.handleOnward
  rw [not_intercepts_f]
  rfl

theorem driverAt_some {a : Byte} {d : Fin 160} (found : s.driverAt a = some d) : s.drivers[d].used = true ∧ s.drivers[d].address = a := by
  have holds := List.find?_some found
  simpa only [Bool.and_eq_true, beq_iff_eq] using holds

theorem driverAt_none_iff {a : Byte} :
    s.driverAt a = none ↔ ∀ d : Fin 160, ¬ (s.drivers[d].used = true ∧ s.drivers[d].address = a) := by
  simp only [State.driverAt, List.find?_eq_none, List.mem_finRange, true_implies, Bool.and_eq_true, beq_iff_eq]

end

theorem statusReport_of_short {payload : List Byte} (short : payload.length < 3) : statusReport payload = none := by
  match payload with
  | [] | [_] | [_, _] => rfl
  | _ :: _ :: _ :: more =>
    simp only [List.length_cons] at short
    omega

/-- Settles O11. -/
theorem builtInHandlingThenForwarding : Obligations.BuiltInHandlingThenForwarding := by
  refine ⟨fun f s => ?_, fun a s => ⟨fun d => driverAt_some, driverAt_none_iff⟩, fun f s => ⟨?_, fun passed => ?_⟩⟩
  · dsimp only
    simp only [← commandedGroup_iff]
    rw [← intercepts_iff]
    unfold State.handleOnward
    refine ⟨fun takes => if_pos takes, fun leaves => (if_neg leaves).trans ?_⟩
    unfold State.snoopFrame
    rw [if_neg (by simp)]
    rfl
  · intro d c hi lo more running status found payload
    rw [handleOnward_f]
    unfold State.snoopFrame
    rw [if_pos ⟨running, rfl, status⟩, found, payload]
    rfl
  · rw [handleOnward_f]
    congr 1
    unfold State.snoopFrame
    split
    · next snoops =>
      obtain ⟨running, -, status⟩ := snoops
      rcases passed with off | other | none | short
      · cases off.symm.trans running
      · exact absurd status other
      · rw [none]
      · rw [statusReport_of_short short]
        split
        · next clash => cases clash
        · rfl
    · rfl

/-! ### RESTART's effect -/

section
variable (s : State)

theorem restartNow_pulses (n : Fin 4) :
    s.restartNow.pulses[n] = if s.pulses[n].enable then s.pulses[n].startGate s.now else s.pulses[n] := updAll_get s.pulses _ n

theorem restartNow_drivers (d : Fin 160) :
    s.restartNow.drivers[d] = if s.drivers[d].used then { s.drivers[d] with state := .unknown, misses := 0 } else s.drivers[d] :=
  updAll_get s.drivers _ d

theorem restartNow_portals (p : Fin 4) :
    s.restartNow.portals[p] = if s.portals[p].used then s.portals[p].discarded .standby else s.portals[p] := updAll_get s.portals _ p

theorem restartNow_zones (z : Fin 32) : s.restartNow.zones[z] = s.zones[z].discarded := updAll_get s.zones (fun _ z => z.discarded) z

theorem restartNow_groups (g : Fin 48) :
    s.restartNow.groups[g] = { s.groups[g] with pendingMark := false, due := false, mf := none, sg := none } := by
  unfold State.restartNow
  rw [discardRegulation_groups]
  exact congrArg (fun r : Group => { r with due := false, mf := none, sg := none }) (emptyQueues_groups s g)

/-- Everything of the state the restart treats without looking at the tables (R158). -/
theorem State.restartNow_flat : s.restartNow.mode = .transparent ∧ s.restartNow.slot0 = none ∧ s.restartNow.slot1 = none
    ∧ s.restartNow.fQueue = [] ∧ s.restartNow.cQueue = [] ∧ s.restartNow.restartPending = false ∧ s.restartNow.cTx = s.cTx
    ∧ s.restartNow.deviceFlags = 0 ∧ s.restartNow.portalFlags = Vector.replicate 4 0 ∧ s.restartNow.pollTimer = none
    ∧ s.restartNow.rescan = .none ∧ s.restartNow.rescanPosition = s.rescanPosition ∧ s.restartNow.cursor = s.cursor
    ∧ s.restartNow.cRx = s.cRx ∧ s.restartNow.fRx = s.fRx ∧ s.restartNow.accept = s.accept ∧ s.restartNow.kTable = s.kTable
    ∧ s.restartNow.counters = s.counters ∧ s.restartNow.device = s.device ∧ s.restartNow.addrPins = s.addrPins
    ∧ s.restartNow.relayDriven = s.relayDriven ∧ s.restartNow.secondTimer = s.secondTimer ∧ s.restartNow.now = s.now
    ∧ s.restartNow.fTx = s.fTx.disowned := by
  simp only [State.restartNow, State.discardRegulation, State.abandonRescan, State.driversUnknown, State.restartSensing,
    State.emptyQueues, and_self]

end

/-- Settles O20: the restart, read off one block after the other. -/
theorem restartTakesEffect : Obligations.RestartTakesEffect := by
  intro dt e s live sending kind
  have run : exec (.cSendComplete dt) s
      = .next { s.elapse dt with cTx := .idle ((s.elapse dt).now + (s.elapse dt).guardTime) }.restartNow := by
    refine (whenLive_of_live live fun s => (s.elapse dt).sentC).trans ?_
    unfold State.sentC
    rw [State.elapse_cTx, sending]
    dsimp only
    rw [kind]
  refine ⟨_, run, ?_⟩
  generalize before : ({ s.elapse dt with cTx := .idle ((s.elapse dt).now + (s.elapse dt).guardTime) } : State) = t
  obtain ⟨mode, slot0, slot1, fQueue, cQueue, pending, cTx, flags, portalFlags, poll, rescan, position, cursor, cRx, fRx, accept,
    kTable, counters, device, address, relay, second, now, fTx⟩ := t.restartNow_flat
  have idle : t.cTx = .idle (s.now + dt + 4 * 6250) := by rw [← before]; rfl
  have sensors : t.sensors = s.sensors := by rw [← before]; rfl
  have pulses : t.pulses = s.pulses := by rw [← before]; rfl
  have drivers : t.drivers = s.drivers := by rw [← before]; rfl
  have portals : t.portals = s.portals := by rw [← before]; rfl
  have zones : t.zones = s.zones := by rw [← before]; rfl
  have groups : t.groups = s.groups := by rw [← before]; rfl
  have clock : t.now = s.now + dt := by rw [← before]; rfl
  have wire : t.fTx = s.fTx := by rw [← before]; rfl
  have own : t.restartNow.ownAddress = s.ownAddress := by
    unfold State.ownAddress
    rw [address, ← before]
    rfl
  have untouched : t.rescanPosition = s.rescanPosition ∧ t.cursor = s.cursor ∧ t.cRx = s.cRx ∧ t.fRx = s.fRx ∧ t.accept = s.accept
      ∧ t.kTable = s.kTable ∧ t.counters = s.counters ∧ t.device = s.device ∧ t.relayDriven = s.relayDriven
      ∧ t.secondTimer = s.secondTimer := by
    rw [← before]
    exact ⟨rfl, rfl, rfl, rfl, rfl, rfl, rfl, rfl, rfl, rfl⟩
  obtain ⟨position₀, cursor₀, cRx₀, fRx₀, accept₀, kTable₀, counters₀, device₀, relay₀, second₀⟩ := untouched
  refine ⟨mode, slot0, slot1, fQueue, cQueue, pending, cTx.trans idle, flags, fun p => ?_, poll, rescan, position.trans position₀,
    cursor.trans cursor₀, fun i => ?_, fun n => ?_, fun d => ?_, fun p => ?_, fun z => ?_, fun g => ?_, cRx.trans cRx₀,
    fRx.trans fRx₀, accept.trans accept₀, kTable.trans kTable₀, counters.trans counters₀, device.trans device₀, own,
    relay.trans relay₀, second.trans second₀, now.trans clock, fun state => ?_, fun f own state => ?_, fun w ends state => ?_⟩
  · rw [portalFlags]
    exact replicate_get 0 p
  · rw [sensors_restartNow, sensors]
    rfl
  · rw [restartNow_pulses, pulses, clock]
    rfl
  · rw [restartNow_drivers, drivers]
  · rw [restartNow_portals, portals]
    rfl
  · rw [restartNow_zones, zones]
    rfl
  · rw [restartNow_groups, groups]
  · rw [fTx, wire, state, FTx.disowned_idle]
  · rw [fTx, wire, state, FTx.disowned_sending]
  · rw [fTx, wire, state, FTx.disowned_awaitReply]

end Sys2Proof.Machine

/-! SUPPORT. The statement about the running out of the reply window, settled (R45, R46, R133 to R139). -/

namespace Sys2Proof.Machine

set_option Elab.async false

/-! ### A miss that makes a driver ABSENT -/

/-- A driver's record in ABSENT (R135). -/
def Driver.gone (r : Driver) (limit : Nat) : Driver := { r with misses := limit, state := .absent }

/-- From `s` to `u` the driver went ABSENT: one miss counted, the flag and ALERT of the change, and nothing else. -/
structure Absented (s u : State) (d : Fin 160) : Prop where
  rest : u.exceptEvents = { s with drivers := updAt s.drivers d (·.gone s.device.missLimit) }.exceptEvents
  counted : ∀ c : Fin 8, s.counters[c].select = 6 → u.counters[c].select = 6 ∧ u.counters[c].value = s.counters[c].value + 1
  grown : Grown s u
  raised : ∀ p, s.portalOfGroup s.drivers[d].group = some p → s.drivers[d].state ≠ .absent →
    u.portalFlags[p].getLsbD 5 = true ∧ s.alerted u s.device.portalAlert[p] 23 (BitVec.ofNat 8 d.val) 5

theorem Grown.driverChanged (s : State) (d : Fin 160) (a b : DriverState) : Grown s (s.driverChanged d a b) := by
  unfold State.driverChanged
  split
  · exact .refl s
  · split
    · exact .refl s
    · split
      · exact .portalEvent s _ _ _ _
      · split
        · exact .portalAlert s _ _ _ _
        · exact .refl s

theorem driverChanged_only (s : State) (d : Fin 160) (a b : DriverState) :
    OnlyCode11 s.counters (s.driverChanged d a b).counters := by
  unfold State.driverChanged
  split
  · exact .refl _
  · split
    · exact .refl _
    · split
      · exact portalEvent_only s _ _ _ _
      · split
        · exact portalAlert_only s _ _ _ _
        · exact .refl _

/-- Counting a miss adds 1 to every counter that counts misses. -/
theorem count_misses (s : State) (c : Fin 8) (counts : s.counters[c].select = 6) :
    (s.count 6 (unscoped 1)).counters[c].select = 6 ∧ (s.count 6 (unscoped 1)).counters[c].value = s.counters[c].value + 1 := by
  have get : (s.count 6 (unscoped 1)).counters[c] = _ :=
    Report.count_get s.reportCfg 6 (unscoped 1) s.report c (show s.counters[c].select ≠ 11 by rw [counts]; decide)
  rw [get, if_pos (show s.report.counters[c].select = 6 from counts), Counter.add_eq]
  exact ⟨counts, rfl⟩

/-- The driver's record after one more miss (R135). -/
def Driver.missed (r : Driver) : Driver := { r with misses := r.misses + 1 }

/-- The state in which the miss is charged and the driver ABSENT, before flag and ALERT. -/
def State.absentee (s : State) (d : Fin 160) : State :=
  (((s.mapDriver d (·.missed)).count 6 (unscoped 1)).mapDriver d fun r => r.gone s.device.missLimit)

theorem chargeMiss_absent {s : State} {d : Fin 160} {o : PollOrigin} (used : s.drivers[d].used = true)
    (goes : o = .scan ∨ s.device.missLimit ≤ s.drivers[d].misses + 1) :
    s.chargeMiss d o = (s.absentee d).driverChanged d s.drivers[d].state .absent := by
  have state : ((s.mapDriver d (·.missed)).count 6 (unscoped 1)).drivers[d].state = s.drivers[d].state := by
    rw [State.count_drivers]
    unfold State.mapDriver
    rw [updAt_get, if_pos rfl]
    rfl
  have enter : ((s.mapDriver d (·.missed)).count 6 (unscoped 1)).enterAbsent d
      = (s.absentee d).driverChanged d s.drivers[d].state .absent := by
    unfold State.enterAbsent
    rw [state, State.count_device]
    rfl
  unfold State.chargeMiss
  rw [if_pos used]
  cases o with
  | scan => exact enter
  | round => exact (if_pos (goes.resolve_left (by decide))).trans enter

theorem absentee_drivers (s : State) (d : Fin 160) : (s.absentee d).drivers = updAt s.drivers d (·.gone s.device.missLimit) := by
  unfold State.absentee State.mapDriver
  dsimp only
  rw [State.count_drivers]
  exact updAt_updAt s.drivers d _ _

theorem absentee_rest (s : State) (d : Fin 160) :
    (s.absentee d).exceptEvents = { s with drivers := updAt s.drivers d (·.gone s.device.missLimit) }.exceptEvents := by
  rw [← absentee_drivers s d]
  rfl

theorem Grown.absentee (s : State) (d : Fin 160) : Grown s (s.absentee d) := by
  have miss : Grown (s.mapDriver d (·.missed)) ((s.mapDriver d (·.missed)).count 6 (unscoped 1)) := .count _ _ _
  exact ⟨miss.queue, miss.device, miss.address⟩

theorem absentee_portal (s : State) (d : Fin 160) :
    (s.absentee d).portalOfGroup (s.absentee d).drivers[d].group = s.portalOfGroup s.drivers[d].group := by
  have group : (s.absentee d).drivers[d].group = s.drivers[d].group := by
    rw [absentee_drivers, updAt_get, if_pos rfl]
    rfl
  rw [group]
  refine portalOfGroup_congr ?_ _
  unfold State.absentee
  rw [State.mapDriver_zones, State.count_zones, State.mapDriver_zones]

/-- The miss that makes a driver ABSENT (R133, R135, R138). -/
theorem absented_of_chargeMiss {s : State} {d : Fin 160} {o : PollOrigin} (used : s.drivers[d].used = true)
    (goes : o = .scan ∨ s.device.missLimit ≤ s.drivers[d].misses + 1) : Absented s (s.chargeMiss d o) d := by
  rw [chargeMiss_absent used goes]
  refine ⟨(exceptEvents_driverChanged _ _ _ _).trans (absentee_rest s d), fun c counts => ?_,
    (Grown.absentee s d).trans (.driverChanged _ _ _ _), fun p here was => ?_⟩
  · obtain ⟨select, value⟩ := count_misses (s.mapDriver d (·.missed)) c counts
    have select : (s.absentee d).counters[c].select = 6 := select
    obtain ⟨-, -, kept⟩ := driverChanged_only (s.absentee d) d s.drivers[d].state .absent c
    rw [kept (by rw [select]; decide)]
    exact ⟨select, value⟩
  · rw [driverChanged_of_ailing ((absentee_portal s d).trans here) was rfl]
    refine ⟨portalEvent_latches _ p .driver _ _, ?_⟩
    have raised := alerted_of_later (Grown.absentee s d)
      (alerted_portalEvent (s.absentee d) p .driver (BitVec.ofNat 8 d.val) DriverState.absent.code)
    have device : (s.absentee d).device = s.device := (Grown.absentee s d).device
    rw [device] at raised
    exact raised

/-! ### The rescan moves on -/

/-- From `s` to `u` the rescan alone moved: its own fields, the F queue and the report may have changed. -/
structure Walked (s u : State) : Prop where
  drivers : u.drivers = s.drivers
  groups : u.groups = s.groups
  pollTimer : u.pollTimer = s.pollTimer
  cursor : u.cursor = s.cursor
  portalFlags : u.portalFlags = s.portalFlags
  fTx : u.fTx = s.fTx
  counters : OnlyCode11 s.counters u.counters
  grown : Grown s u

section
variable {s t u : State}

theorem Walked.refl (s : State) : Walked s s := ⟨rfl, rfl, rfl, rfl, rfl, rfl, .refl _, .refl s⟩

theorem Walked.trans (h : Walked s t) (h' : Walked t u) : Walked s u :=
  ⟨h'.drivers.trans h.drivers, h'.groups.trans h.groups, h'.pollTimer.trans h.pollTimer, h'.cursor.trans h.cursor,
    h'.portalFlags.trans h.portalFlags, h'.fTx.trans h.fTx, h.counters.trans h'.counters, h.grown.trans h'.grown⟩

/-- What the walk's own fields and the F queue are set to. -/
theorem Walked.place (s : State) (rescan : Rescan) (position : Nat) (orphan : Bool) (queue : List FEntry) :
    Walked s { s with rescan := rescan, rescanPosition := position, scanOrphan := orphan, fQueue := queue } :=
  ⟨rfl, rfl, rfl, rfl, rfl, rfl, .refl _, ⟨List.prefix_rfl, rfl, rfl⟩⟩

theorem Walked.deviceEvent (s : State) (f : DeviceFlag) (o : Byte) (v : Nat) : Walked s (s.deviceEvent f o v) :=
  ⟨by simp, by simp, by simp, by simp, by simp, by simp, deviceEvent_only s f o v, .deviceEvent s f o v⟩

theorem Walked.rescanEnd (s : State) : Walked s s.rescanEnd :=
  (Walked.place s .none 160 s.scanOrphan s.fQueue).trans (.deviceEvent _ _ _ _)

theorem Walked.rescanOffer (s : State) : Walked s s.rescanOffer := by
  unfold State.rescanOffer
  split
  · exact .rescanEnd s
  · next d _ =>
    split
    · next room =>
      unfold State.offerPoll
      rw [if_pos room]
      exact .place s .awaitWindow s.rescanPosition s.scanOrphan _
    · dsimp only
      have skipped := Walked.place s .awaitTimer (d.val + 1) s.scanOrphan s.fQueue
      split
      · exact skipped
      · exact skipped.trans (.rescanEnd _)

theorem Walked.scanWindowEnded (s : State) (d : Fin 160) : Walked s (s.scanWindowEnded d) := by
  unfold State.scanWindowEnded
  split
  · exact .place s s.rescan s.rescanPosition false s.fQueue
  · split
    · exact (Walked.place s s.rescan (d.val + 1) s.scanOrphan s.fQueue).trans (.rescanOffer _)
    · exact .refl s

theorem rescanEnd_scanOrphan (s : State) : s.rescanEnd.scanOrphan = s.scanOrphan := by
  unfold State.rescanEnd
  rw [State.deviceEvent_scanOrphan]

theorem rescanOffer_scanOrphan (s : State) : s.rescanOffer.scanOrphan = s.scanOrphan := by
  unfold State.rescanOffer
  split
  · exact rescanEnd_scanOrphan s
  · split
    · unfold State.offerPoll
      split <;> rfl
    · dsimp only
      split
      · rfl
      · exact rescanEnd_scanOrphan _

/-- Behind the window of a SCAN POLL no window is left over (log 19). -/
theorem scanWindowEnded_scanOrphan (s : State) (d : Fin 160) : (s.scanWindowEnded d).scanOrphan = false := by
  cases orphan : s.scanOrphan with
  | true => rw [State.scanWindowEnded_of_orphan _ orphan]
  | false =>
    by_cases walking : s.rescan = .awaitWindow
    · rw [State.scanWindowEnded_of_walking _ orphan walking]
      exact (rescanOffer_scanOrphan _).trans orphan
    · rw [State.scanWindowEnded_of_not_walking _ orphan walking, orphan]

theorem scanWindowEnded_rests {d : Fin 160} (rests : ¬ (s.scanOrphan = false ∧ s.rescan = .awaitWindow)) :
    (s.scanWindowEnded d).rescan = s.rescan ∧ (s.scanWindowEnded d).rescanPosition = s.rescanPosition
      ∧ (s.scanWindowEnded d).fQueue = s.fQueue := by
  cases orphan : s.scanOrphan with
  | true =>
    rw [State.scanWindowEnded_of_orphan _ orphan]
    exact ⟨rfl, rfl, rfl⟩
  | false =>
    rw [State.scanWindowEnded_of_not_walking _ orphan fun waits => rests ⟨orphan, waits⟩]
    exact ⟨rfl, rfl, rfl⟩

/-- The rescan offers the SCAN POLL of the next used driver (R137). -/
theorem scanWindowEnded_next {d n : Fin 160} (orphan : s.scanOrphan = false) (waits : s.rescan = .awaitWindow) (above : d < n)
    (used : s.drivers[n].used = true) (first : ∀ m : Fin 160, d < m → m < n → s.drivers[m].used = false)
    (room : s.fQueue.length < 32) :
    s.scanWindowEnded d
      = { s with rescanPosition := d.val + 1, fQueue := s.fQueue ++ [.poll n .scan], rescan := .awaitWindow } := by
  have next : ({ s with rescanPosition := d.val + 1 } : State).nextUsed (d.val + 1) = some n :=
    nextUsed_of_lowest used above fun m below => first m below
  rw [State.scanWindowEnded_of_walking _ orphan waits]
  unfold State.rescanOffer
  rw [show ({ s with rescanPosition := d.val + 1 } : State).rescanPosition = d.val + 1 from rfl, next]
  dsimp only
  unfold State.offerPoll
  rw [if_pos room, if_pos room]

/-- With no used driver left the rescan ends (R139). -/
theorem scanWindowEnded_done {d : Fin 160} (orphan : s.scanOrphan = false) (waits : s.rescan = .awaitWindow)
    (none : ∀ n : Fin 160, d < n → s.drivers[n].used = false) :
    s.scanWindowEnded d = { s with rescanPosition := d.val + 1 }.rescanEnd := by
  have nothing : ({ s with rescanPosition := d.val + 1 } : State).nextUsed (d.val + 1) = .none :=
    nextUsed_eq_none fun m above => none m above
  rw [State.scanWindowEnded_of_walking _ orphan waits]
  unfold State.rescanOffer
  rw [show ({ s with rescanPosition := d.val + 1 } : State).rescanPosition = d.val + 1 from rfl, nothing]

theorem deviceEvent_latches (s : State) (f : DeviceFlag) (o : Byte) (v : Nat) :
    (s.deviceEvent f o v).deviceFlags.getLsbD f.bit = true := by
  have latched : (s.report.latch f).deviceFlags.getLsbD f.bit = true := by
    unfold Report.latch
    dsimp only
    rw [BitVec.getLsbD_or]
    cases f <;> simp [DeviceFlag.bit]
  exact FlagsKept.offerAlert s.reportCfg s.device.deviceAlert f.event o v (s.report.latch f) f.bit latched

theorem rescanEnd_reports (s : State) : s.rescanEnd.rescan = .none ∧ s.rescanEnd.rescanPosition = 160
    ∧ s.rescanEnd.deviceFlags.getLsbD 3 = true ∧ s.alerted s.rescanEnd s.device.deviceAlert 4 0 s.absentCount := by
  refine ⟨?_, ?_, deviceEvent_latches _ .rescanDone 0 s.absentCount, ?_⟩
  · unfold State.rescanEnd
    rw [State.deviceEvent_rescan]
  · unfold State.rescanEnd
    rw [State.deviceEvent_rescanPosition]
  · have joins : ({ s with rescan := .none, rescanPosition := 160 } : State).alerted s.rescanEnd s.device.deviceAlert 4 0 s.absentCount :=
      alerted_deviceEvent _ .rescanDone 0 s.absentCount
    exact joins

/-- The ABSENT drivers, as the value of RESCAN_DONE counts them (R139). -/
theorem absentCount_lists (s : State) : ∃ l : List (Fin 160), l.Nodup
    ∧ (∀ x, x ∈ l ↔ s.drivers[x].used = true ∧ s.drivers[x].state = .absent) ∧ s.absentCount = l.length :=
  ⟨_, (List.nodup_finRange 160).filter _, fun x => by simp, rfl⟩

end

/-! ### The running out of the window -/

section
variable {s : State} {w : Window} {ends : Time}

/-- The state in which the window has run out and nothing has followed yet. -/
def State.windowless (s : State) (ends : Time) : State := { s.reach ends with fTx := .idle }

theorem exec_replyWindowExpiry (live : s.live = true) (waits : s.fTx = .awaitReply w ends) :
    exec .replyWindowExpiry s = .next (((s.windowless ends).missWindow w).afterWindow w) := by
  refine (whenLive_of_live live (·.windowExpiry)).trans ?_
  unfold State.windowExpiry
  rw [waits]
  rfl

theorem afterWindow_of_owner_none (owner : w.owner = none) : s.afterWindow w = s := by
  unfold State.afterWindow
  rw [owner]

theorem afterWindow_of_other (origin : w.origin ≠ some .scan) : s.afterWindow w = s := by
  unfold State.afterWindow
  split
  · next scan => exact absurd scan origin
  · rfl

theorem missWindow_of_group (scope : w.scope = .group) : s.missWindow w = s := by
  unfold State.missWindow
  rw [scope]
  cases s.mode <;> rfl

theorem missWindow_of_charged {d : Fin 160} {o : PollOrigin} (running : s.mode = .running) (scope : w.scope = .individual)
    (owner : w.owner = some d) (origin : w.origin = some o) : s.missWindow w = s.chargeMiss d o := by
  unfold State.missWindow
  rw [running, scope, owner, origin]

theorem afterWindow_of_scan {d : Fin 160} (owner : w.owner = some d) (origin : w.origin = some .scan) :
    s.afterWindow w = s.scanWindowEnded d := by
  unfold State.afterWindow
  rw [owner, origin]

theorem chargeMiss_of_unused {d : Fin 160} {o : PollOrigin} (unused : s.drivers[d].used = false) : s.chargeMiss d o = s := by
  unfold State.chargeMiss
  rw [if_neg (by rw [unused]; decide)]

end

/-- The rescan behind the window of a SCAN POLL, `u` the state once the miss is charged to `d` or dropped (R137 to R139). -/
theorem scanWindowEnded_moves {s u : State} {d : Fin 160} (grown : Grown s u) (queue : u.fQueue = s.fQueue) (orphan : u.scanOrphan = s.scanOrphan)
    (rescan : u.rescan = s.rescan) (position : u.rescanPosition = s.rescanPosition)
    (used : ∀ n : Fin 160, u.drivers[n].used = s.drivers[n].used) :
    (¬ (s.scanOrphan = false ∧ s.rescan = .awaitWindow) →
        (u.scanWindowEnded d).rescan = s.rescan ∧ (u.scanWindowEnded d).rescanPosition = s.rescanPosition
          ∧ (u.scanWindowEnded d).fQueue = s.fQueue)
      ∧ (∀ n : Fin 160, s.scanOrphan = false ∧ s.rescan = .awaitWindow → d < n → s.drivers[n].used = true →
          (∀ m : Fin 160, d < m → m < n → s.drivers[m].used = false) → s.fQueue.length < 32 →
          (u.scanWindowEnded d).fQueue = s.fQueue ++ [.poll n .scan] ∧ (u.scanWindowEnded d).rescan = .awaitWindow
            ∧ (u.scanWindowEnded d).rescanPosition = d.val + 1)
      ∧ (s.scanOrphan = false ∧ s.rescan = .awaitWindow → (∀ n : Fin 160, d < n → s.drivers[n].used = false) →
          (u.scanWindowEnded d).rescan = .none ∧ (u.scanWindowEnded d).rescanPosition = 160
            ∧ (u.scanWindowEnded d).deviceFlags.getLsbD 3 = true
            ∧ ∃ l : List (Fin 160), l.Nodup
              ∧ (∀ x, x ∈ l ↔ (u.scanWindowEnded d).drivers[x].used = true ∧ (u.scanWindowEnded d).drivers[x].state = .absent)
              ∧ s.alerted (u.scanWindowEnded d) s.device.deviceAlert 4 0 l.length) := by
  rw [← orphan, ← rescan, ← position, ← queue]
  refine ⟨scanWindowEnded_rests, fun n ⟨notOrphan, waits⟩ above usedN first room => ?_, fun ⟨notOrphan, waits⟩ none => ?_⟩
  · rw [scanWindowEnded_next notOrphan waits above (by rw [used]; exact usedN) (fun m low high => by rw [used]; exact first m low high) room]
    exact ⟨rfl, rfl, rfl⟩
  · have same := (Walked.scanWindowEnded u d).drivers
    obtain ⟨l, nodup, members, length⟩ := absentCount_lists u
    rw [same, scanWindowEnded_done notOrphan waits fun n above => by rw [used]; exact none n above]
    obtain ⟨ended, top, flag, joins⟩ := rescanEnd_reports { u with rescanPosition := d.val + 1 }
    refine ⟨ended, top, flag, l, nodup, members, ?_⟩
    rw [← length, ← grown.device]
    exact alerted_of_later grown joins

/-- Settles O17: the charge, then the rescan behind it. -/
theorem windowExpiryChargesMiss : Obligations.WindowExpiryChargesMiss := by
  refine ⟨fun w ends s live waits => ⟨fun quiet => ?_, fun d owner origin transparent none => ?_, fun d owner origin running scope => ?_⟩,
    fun w ends d s live waits running scope owner origin => ?_⟩
  all_goals rw [exec_replyWindowExpiry live waits]
  · rcases quiet with owner | ⟨origin, transparent | group⟩
    · rw [State.missWindow_of_owner_none _ owner, afterWindow_of_owner_none owner]
      rfl
    · rw [State.missWindow_of_transparent _ (show (s.windowless ends).mode = .transparent from transparent), afterWindow_of_other origin]
      rfl
    · rw [missWindow_of_group group, afterWindow_of_other origin]
      rfl
  · rw [State.missWindow_of_transparent _ (show (s.windowless ends).mode = .transparent from transparent), afterWindow_of_scan owner origin]
    cases orphan : s.scanOrphan with
    | true =>
      rw [State.scanWindowEnded_of_orphan _ (show (s.windowless ends).scanOrphan = true from orphan)]
      rfl
    | false =>
      have rests : (s.windowless ends).rescan ≠ .awaitWindow := by
        rw [show (s.windowless ends).rescan = s.rescan from rfl, none]
        decide
      rw [State.scanWindowEnded_of_not_walking _ (show (s.windowless ends).scanOrphan = false from orphan) rests, ← orphan]
      rfl
  · rw [missWindow_of_charged (show (s.windowless ends).mode = .running from running) scope owner origin,
      afterWindow_of_other (by rw [origin]; decide)]
    refine ⟨fun unused => ?_, fun used below => ?_, fun used reached => ⟨_, rfl, ?_⟩⟩
    · rw [chargeMiss_of_unused (show (s.windowless ends).drivers[d].used = false from unused)]
      rfl
    · unfold State.chargeMiss
      rw [if_pos (show (s.windowless ends).drivers[d].used = true from used)]
      exact congrArg Host.Outcome.next (if_neg (show ¬ (s.windowless ends).device.missLimit ≤ (s.windowless ends).drivers[d].misses + 1 from
        Nat.not_le.mpr below))
    · have absented := absented_of_chargeMiss (s := s.windowless ends) (o := .round) used (.inr reached)
      obtain ⟨groups, drivers, fQueue, -, -, -, -, -, fTx⟩ := of_exceptEvents absented.rest
      exact ⟨drivers, fun c counts => (absented.counted c counts).2, fTx, exceptPolling_chargeMiss _ _ _, groups, fQueue,
        absented.raised⟩
  · rw [missWindow_of_charged (show (s.windowless ends).mode = .running from running) scope owner origin, afterWindow_of_scan owner origin]
    have walked := Walked.scanWindowEnded ((s.windowless ends).chargeMiss d .scan) d
    have same := (exceptPolling_scanWindowEnded ((s.windowless ends).chargeMiss d .scan) d).trans (exceptPolling_chargeMiss _ d .scan)
    have orphan := scanWindowEnded_scanOrphan ((s.windowless ends).chargeMiss d .scan) d
    cases used : s.drivers[d].used with
    | true =>
      have absented := absented_of_chargeMiss (s := s.windowless ends) (o := .scan) used (.inl rfl)
      obtain ⟨groups, drivers, queue, timer, cursor, rescan, position, left, wire⟩ := of_exceptEvents absented.rest
      have moves := scanWindowEnded_moves (d := d) absented.grown queue left rescan position fun n => by
        rw [drivers]
        dsimp only
        rw [updAt_get]
        split
        · next here => subst here; rfl
        · rfl
      refine ⟨_, rfl, walked.fTx.trans wire, fun _ => ⟨walked.drivers.trans drivers, fun c counts => ?_, fun p here was => ?_⟩,
        fun unused => (by cases unused), same, walked.groups.trans groups, walked.pollTimer.trans timer, walked.cursor.trans cursor,
        orphan, moves⟩
      · obtain ⟨select, value⟩ := absented.counted c counts
        obtain ⟨-, -, kept⟩ := walked.counters c
        rw [kept (by rw [select]; decide)]
        exact value
      · obtain ⟨flag, joins⟩ := absented.raised p here was
        rw [walked.portalFlags]
        exact ⟨flag, alerted_of_grown joins walked.grown⟩
    | false =>
      rw [chargeMiss_of_unused (show (s.windowless ends).drivers[d].used = false from used)] at walked same orphan ⊢
      have moves := scanWindowEnded_moves (s := s.windowless ends) (d := d) (.refl _) rfl rfl rfl rfl fun _ => rfl
      refine ⟨_, rfl, walked.fTx, fun clash => (by cases clash), fun _ => ⟨walked.drivers, walked.portalFlags, fun c counts => ?_⟩, same,
        walked.groups, walked.pollTimer, walked.cursor, orphan, moves⟩
      obtain ⟨-, -, kept⟩ := walked.counters c
      exact kept (show s.counters[c].select ≠ 11 by rw [counts]; decide)

end Sys2Proof.Machine

/-! SUPPORT. The statements about the receivers and the check, settled (R1, R2, R7 to R12). -/

namespace Sys2Proof.Machine

set_option Elab.async false

/-! ### A byte at a receiver -/

@[simp] theorem elapse_rx (s : State) (dt : Time) (port : Port) : (s.elapse dt).rx port = s.rx port := by cases port <;> rfl

section
variable {s : State} {port : Port} {b : Byte}

theorem takeByte_unsync (state : (s.rx port).state = .unsync) :
    s.takeByte port b = s.setRx port { (s.rx port).discard s.now (s.byteTime port) with gap := .running s.now false } := by
  unfold State.takeByte
  dsimp only
  rw [state]

theorem takeByte_ready (state : (s.rx port).state = .ready) :
    s.takeByte port b
      = s.setRx port { s.rx port with state := .assembling, buffer := [b], check := crc [b], gap := .running s.now false } := by
  unfold State.takeByte
  dsimp only
  rw [state]
  rfl

theorem takeByte_assembling (state : (s.rx port).state = .assembling) :
    s.takeByte port b = s.setRx port ((s.rx port).store b (.running s.now false)) := by
  unfold State.takeByte
  dsimp only
  rw [state]

theorem takeByte_closing (state : (s.rx port).state = .closing) :
    s.takeByte port b
      = (s.setRx port { s.rx port with
          state := .unsync, buffer := [], fragment := false, counted := true, gap := .running s.now false }).count 3 (unscoped 1) := by
  unfold State.takeByte
  dsimp only
  rw [state]
  rfl

theorem receiveByte_of_open (listens : port = .f → s.fDir = false) : s.receiveByte port b = s.takeByte port b := by
  cases port with
  | c => rfl
  | f => exact if_neg (by rw [State.fSending, listens rfl]; decide)

end

theorem receiversSound_of_outer {s t : State} (same : t.outer = s.outer) (sound : s.receiversSound) : t.receiversSound := by
  have cRx : t.cRx = s.cRx := congrArg (·.2.2.2.1) same
  have fRx : t.fRx = s.fRx := congrArg (·.2.2.2.2) same
  unfold State.receiversSound
  rw [cRx, fRx]
  exact sound

theorem upheld_receiversSound : Upheld State.receiversSound :=
  upheld_of_outer receiversSound_of_outer fun s port r keeps sound => by
    obtain ⟨cSound, fSound⟩ := sound
    cases port with
    | c => exact ⟨keeps cSound, fSound⟩
    | f => exact ⟨cSound, keeps fSound⟩

theorem receiversSound_step {s t : State} (sound : s.receiversSound) (answers : step s = .next t) : t.receiversSound := by
  refine upheld_receiversSound.step (fun addr rate => ⟨rfl, rfl⟩) (fun {s t} same sound => ?_) answers sound
  have cRx : t.cRx = s.cRx := (congrArg (fun u : State => u.cRx) same :)
  have fRx : t.fRx = s.fRx := (congrArg (fun u : State => u.fRx) same :)
  unfold State.receiversSound
  rw [cRx, fRx]
  exact sound

/-- Settles O4: one case per state of the receiver, and the law of the receivers. -/
theorem byteAtReceiver : Obligations.ByteAtReceiver := by
  have run {s : State} (live : s.live = true) (dt : Nat) (port : Port) (b : Byte) :
      exec (.receiveByte dt port b) s = .next ((s.elapse dt).receiveByte port b) :=
    whenLive_of_live live fun s => (s.elapse dt).receiveByte port b
  refine ⟨fun dt b s sending live => ?_, fun dt port b s live listens => ?_, fun s t => receiversSound_step⟩
  · rw [run live]
    exact congrArg Host.Outcome.next (if_pos sending)
  · rw [run live, receiveByte_of_open (s := s.elapse dt) listens]
    refine ⟨fun idle free => ?_, fun m idle lost late => ?_, fun ready => ?_, fun assembling => ?_, fun closing => ?_⟩
    · rw [takeByte_unsync (by rw [elapse_rx, idle]), elapse_rx, Receiver.discard_of_not_lost]
      · rfl
      · rw [Bool.eq_false_iff, ne_eq, Receiver.losesByte_iff]
        rintro ⟨m, lost, late⟩
        exact absurd (free m lost) (Nat.not_lt.mpr late)
    · rw [takeByte_unsync (by rw [elapse_rx, idle]), elapse_rx,
        Receiver.discard_of_lost ((Receiver.losesByte_iff _ (s.elapse dt).now).mpr ⟨m, lost, late⟩)]
      rfl
    · rw [takeByte_ready (by rw [elapse_rx, ready]), elapse_rx]
      rfl
    · rw [takeByte_assembling (by rw [elapse_rx, assembling]), elapse_rx]
      have state := Receiver.store_state (r := s.rx port) (b := b) (.running (s.now + dt) false)
      refine ⟨_, rfl, rfl, rfl, rfl, rfl, rfl, Receiver.nextCheck_of_covered, fun h => Receiver.nextCheck_of_beyond, ?_, ?_⟩
      · rw [State.elapse_now, state]
        split
        · exact .inr rfl
        · exact .inl rfl
      · rw [State.elapse_now, state]
        split
        · next complete => exact ⟨fun _ => complete, fun _ => rfl⟩
        · next more => exact ⟨fun clash => (by cases clash), fun complete => absurd complete more⟩
    · rw [takeByte_closing (by rw [elapse_rx, closing]), elapse_rx]
      rfl

/-! ### The close expiry -/

section
variable {s : State} {port : Port} {last t : Time}

theorem closeAt_idle (idle : (s.rx port).state = .unsync ∨ (s.rx port).state = .ready) :
    s.closeAt port last t = (s.reach t).setRx port { s.rx port with gap := .running last true } := by
  unfold State.closeAt
  dsimp only
  rw [reach_rx]
  rcases idle with state | state <;> rw [state]

theorem closeAt_assembling (state : (s.rx port).state = .assembling) :
    s.closeAt port last t = ((s.reach t).setRx port ((s.rx port).leave true (.running last true))).count 3 (unscoped 1) := by
  unfold State.closeAt
  dsimp only
  rw [reach_rx, state]
  rfl

theorem closeAt_closing (state : (s.rx port).state = .closing) :
    s.closeAt port last t = ((s.reach t).setRx port ((s.rx port).leave false (.running last true))).judge port (s.rx port) := by
  unfold State.closeAt
  dsimp only
  rw [reach_rx, state]

end

/-! ### The check of a frame -/

theorem crcBit_eq (c : BitVec 16) (b : Bool) :
    crcBit c b = if c.msb = b then c <<< 1 else (c <<< 1) ^^^ 0x1021#16 := by
  unfold crcBit
  cases c.msb <;> cases b <;> simp

/-- The high and the low byte of a register make it up. -/
theorem hi_append_lo (c : BitVec 16) : c.extractLsb' 8 8 ++ c.extractLsb' 0 8 = c := by
  refine BitVec.eq_of_getLsbD_eq fun i inside => ?_
  rw [BitVec.getLsbD_append]
  split
  · next low => simp [low]
  · next high =>
    have : i - 8 < 8 := by omega
    simp [this]
    congr 1
    omega

theorem receivedCheck_append (body : List Byte) (hi lo : Byte) : receivedCheck (body ++ [hi, lo]) = hi ++ lo := by
  unfold receivedCheck
  rw [List.reverse_append]
  rfl

theorem body_length_nibble (cls : BitVec 4) {n : Nat} (short : n ≤ 12) :
    (cls ++ BitVec.ofNat 4 n).toNat % 16 = n ∧ (cls ++ BitVec.ofNat 4 n).extractLsb' 4 4 = cls := by
  have value : (cls ++ BitVec.ofNat 4 n).toNat = cls.toNat * 16 + n := by
    rw [BitVec.toNat_append, BitVec.toNat_ofNat, Nat.mod_eq_of_lt (by omega), ← Nat.shiftLeft_add_eq_or_of_lt (by omega),
      Nat.shiftLeft_eq]
  refine ⟨by omega, BitVec.eq_of_toNat_eq ?_⟩
  rw [BitVec.extractLsb'_toNat, value, Nat.shiftRight_eq_div_pow]
  have small := cls.isLt
  omega

theorem ofBuffer_bytes {f : Frame} (short : f.payload.length ≤ 12) : Frame.ofBuffer f.bytes = f := by
  obtain ⟨length, cls⟩ := body_length_nibble f.cls short
  unfold Frame.bytes Frame.body Frame.ofBuffer
  simp only [List.cons_append, List.nil_append]
  rw [cls, expectedPayload, length, Nat.min_eq_left short, List.take_left']
  rfl

/-- Settles O5: the judgement at the close expiry, then the check over the bytes. -/
theorem closeExpiryJudges : Obligations.CloseExpiryJudges := by
  refine ⟨fun port last s live gap => ?_, ⟨rfl, crc_append, fun c b => ?_, by decide +kernel⟩,
    fun f short => ⟨⟨_, _, rfl, hi_append_lo _⟩, ?_, ofBuffer_bytes short⟩⟩
  · have run : exec (.closeExpiry port) s = .next (s.closeAt port last (last + 2 * s.byteTime port)) := by
      refine (whenLive_of_live live (·.closeExpiry port)).trans ?_
      unfold State.closeExpiry
      rw [gap]
    have judge (check : (s.rx port).check = receivedCheck (s.rx port).buffer) (t : State) :
        t.judge port (s.rx port)
          = if (Frame.ofBuffer (s.rx port).buffer).dest = 0 then t.formatError else t.goodFrame port (Frame.ofBuffer (s.rx port).buffer) :=
      if_neg (fun differ => differ check)
    rw [run]
    refine ⟨fun idle => ?_, fun assembling => ?_, fun closing wrong => ?_, fun closing check zero => ?_, fun closing check dest => ?_⟩
    · rw [closeAt_idle idle]
    · rw [closeAt_assembling assembling]
      rfl
    · rw [closeAt_closing closing]
      exact congrArg Host.Outcome.next (if_pos wrong)
    · rw [closeAt_closing closing, judge check, if_pos zero]
      rfl
    · rw [closeAt_closing closing, judge check, if_neg dest]
      rfl
  · unfold crcByte
    simp only [crcBit_eq]
  · exact (receivedCheck_append _ _ _).trans (hi_append_lo _)

end Sys2Proof.Machine

/-! SUPPORT. What a request is answered with, said once; the statements about malformed and denied requests, settled (R41, R144 to R147). -/

namespace Sys2Proof.Machine

set_option Elab.async false

/-! ### The answer -/

section
variable {s : State} {i : Instr} {h : ReqHead}

/-- The entry of a response, whether it brings a restart about or not, is that of the state before the request. -/
theorem answered_eq (free : s.engineFree) (r : Result) (data : List Byte) (pl : List Byte) :
    { s.placing h.dt h.src pl with slot0 := none, cQueue := s.cQueue ++ [s.responseEntry h r data false] } = s.answered h r data := by
  obtain ⟨_, _, slot0⟩ := free
  unfold State.answered
  rw [← slot0]
  rfl

/-- A request whose execution leaves the C queue and the address alone is answered in the free place. -/
theorem exec_replied {pl : List Byte} {st : State} {r : Result} {data : List Byte} (asks : requestOf i = some (h.dt, h.src, pl))
    (tag : tagOf pl = h.tag) (free : s.engineFree) (room : s.roomInC)
    (run : (s.placing h.dt h.src pl).runPayload h.src pl = { state := st, reply := { result := r, data := data } })
    (queue : st.cQueue = s.cQueue) (own : st.ownAddress = s.ownAddress) :
    exec i s = .next { st with
      slot0 := none
      cQueue := s.cQueue ++ [s.responseEntry h r data (isRestart pl { result := r, data := data })] } := by
  rw [exec_request asks, request_answered s h.dt h.src pl free room (by rw [run]; exact queue), run]
  dsimp only
  rw [own, tag]
  rfl

/-- A request refused with no data changes nothing else. -/
theorem exec_refused {pl : List Byte} {r : Result} (asks : requestOf i = some (h.dt, h.src, pl)) (tag : tagOf pl = h.tag)
    (free : s.engineFree) (room : s.roomInC) (bad : r ≠ .ok)
    (run : (s.placing h.dt h.src pl).runPayload h.src pl = (s.placing h.dt h.src pl).refuse r) :
    exec i s = .next (s.answered h r []) := by
  have plain : isRestart pl { result := r, data := [] } = false := by
    unfold isRestart
    split
    · rw [beq_eq_false_iff_ne.mpr bad, Bool.and_false]
    · rfl
  rw [exec_replied asks tag free room run rfl rfl, plain, answered_eq free]

/-- A request that names nothing is refused by the first test it fails (R146 (1) to (4)). -/
theorem exec_error {pl : List Byte} {r : Result} (free : s.engineFree) (room : s.roomInC) (asks : requestOf i = some (h.dt, h.src, pl))
    (tag : tagOf pl = h.tag) (error : Request.ofPayload pl = .error r) (bad : r ≠ .ok) : exec i s = .next (s.answered h r []) :=
  exec_refused asks tag free room bad (runPayload_error _ _ _ _ error)

section
variable {code : Byte} {ops : List Byte} {q : Request} (free : s.engineFree) (room : s.roomInC)
  (asks : requestOf i = some (h.dt, h.src, h.tag :: code :: ops)) (shape : Request.ofOperands code ops = .ok q)
  (granted : s.grants h.src q = true)
include free room asks shape granted

/-- A request from a source that may make it, and that is refused by its own tests (R146 (6)). -/
theorem exec_declined {r : Result} (bad : r ≠ .ok)
    (run : (s.placing h.dt h.src (h.tag :: code :: ops)).runRequest q = (s.placing h.dt h.src (h.tag :: code :: ops)).refuse r) :
    exec i s = .next (s.answered h r []) :=
  exec_refused asks rfl free room bad ((runPayload_granted (s.placing h.dt h.src (h.tag :: code :: ops)) h.src (h.tag :: code :: ops) q shape granted).trans run)

/-- A request that is carried out without a word to the C queue but its response. -/
theorem exec_carried {st : State} {r : Result} {data : List Byte} (plain : code ≠ 12)
    (run : (s.placing h.dt h.src (h.tag :: code :: ops)).runRequest q = { state := st, reply := { result := r, data := data } })
    (queue : st.cQueue = s.cQueue) (own : st.ownAddress = s.ownAddress) :
    exec i s = .next { st with slot0 := none, cQueue := s.cQueue ++ [s.responseEntry h r data false] } := by
  have noRestart : isRestart (h.tag :: code :: ops) { result := r, data := data } = false := by
    unfold isRestart
    dsimp only
    rw [beq_eq_false_iff_ne.mpr plain, Bool.false_and]
  rw [exec_replied asks rfl free room
    ((runPayload_granted (s.placing h.dt h.src (h.tag :: code :: ops)) h.src (h.tag :: code :: ops) q shape granted).trans run) queue own, noRestart]

/-- A request whose effect `f` touches neither the C queue nor slot 0 has it on the state of the answer. -/
theorem exec_changed {f : State → State} {r : Result} {data : List Byte} (plain : code ≠ 12)
    (commutes : ∀ (u : State) (v : List CEntry), { f u with slot0 := none, cQueue := v } = f { u with slot0 := none, cQueue := v })
    (run : (s.placing h.dt h.src (h.tag :: code :: ops)).runRequest q
      = { state := f (s.placing h.dt h.src (h.tag :: code :: ops)), reply := { result := r, data := data } })
    (queue : ∀ u, (f u).cQueue = u.cQueue) (own : ∀ u, (f u).addrPins = u.addrPins) :
    exec i s = .next (f (s.answered h r data)) := by
  refine (exec_carried free room asks shape granted plain run (queue _)
    (congrArg (fun x : BitVec 4 => BitVec.ofNat 8 (184 + x.toNat)) (own _))).trans ?_
  rw [commutes, answered_eq free]

end

end

/-- A request carried out has its response in the C queue, or waiting in slot 0 where the queue is full; nothing else follows. -/
theorem exec_responded {s : State} {i : Instr} {h : ReqHead} {code : Byte} {ops : List Byte} {q : Request} {st : State} {r : Result}
    {data : List Byte} (free : s.engineFree) (asks : requestOf i = some (h.dt, h.src, h.tag :: code :: ops))
    (shape : Request.ofOperands code ops = .ok q) (granted : s.grants h.src q = true) (plain : code ≠ 12)
    (run : (s.placing h.dt h.src (h.tag :: code :: ops)).runRequest q = { state := st, reply := { result := r, data := data } })
    (slot : st.slot0 = (s.placing h.dt h.src (h.tag :: code :: ops)).slot0) (own : st.ownAddress = s.ownAddress) :
    ∃ t, exec i s = .next t ∧ t.responded (s.responseEntry h r data false) ∧ t = { st with slot0 := t.slot0, cQueue := t.cQueue }
      ∧ (t.cQueue = st.cQueue ∨ t.cQueue = st.cQueue ++ [s.responseEntry h r data false]) := by
  have executed := (runPayload_granted (s.placing h.dt h.src (h.tag :: code :: ops)) h.src (h.tag :: code :: ops) q shape granted).trans run
  have noRestart : isRestart (h.tag :: code :: ops) { result := r, data := data } = false := by
    unfold isRestart
    dsimp only
    rw [beq_eq_false_iff_ne.mpr plain, Bool.false_and]
  have entry : ({ kind := .response (isRestart (h.tag :: code :: ops) { result := r, data := data })
                  frame := st.responseFrame ((s.elapse h.dt).requestFrame h.src (h.tag :: code :: ops)) { result := r, data := data } }
      : CEntry) = s.responseEntry h r data false := by
    rw [noRestart]
    unfold State.responseFrame
    rw [own]
    rfl
  refine ⟨_, (exec_request asks s).trans (request_free s h.dt h.src _ free), ?_⟩
  have frame : (s.placing h.dt h.src (h.tag :: code :: ops)).runPayload ((s.elapse h.dt).requestFrame h.src (h.tag :: code :: ops)).src
      ((s.elapse h.dt).requestFrame h.src (h.tag :: code :: ops)).payload = { state := st, reply := { result := r, data := data } } := executed
  by_cases room : st.cQueue.length < 16
  · rw [executeSlot_room _ _ (by rw [frame]; exact room), frame]
    dsimp only
    rw [show ((s.elapse h.dt).requestFrame h.src (h.tag :: code :: ops)).payload = h.tag :: code :: ops from rfl, entry]
    exact ⟨.inl ⟨rfl, List.getLast?_concat⟩, rfl, .inr rfl⟩
  · rw [executeSlot_full _ _ (by rw [frame]; exact room), frame]
    dsimp only
    rw [show ((s.elapse h.dt).requestFrame h.src (h.tag :: code :: ops)).payload = h.tag :: code :: ops from rfl, entry]
    refine ⟨.inr ⟨Nat.le_of_not_lt room, ?_⟩, rfl, .inl rfl⟩
    rw [slot]
    rfl

/-! ### Rows and fields -/

theorem rowOf_ofNat {n : Nat} (small : n ≤ 256) (x : Fin n) : rowOf n (BitVec.ofNat 8 x.val) = some x := by
  have value : (BitVec.ofNat 8 x.val).toNat = x.val := by
    rw [BitVec.toNat_ofNat]
    exact Nat.mod_eq_of_lt (Nat.lt_of_lt_of_le x.isLt small)
  unfold rowOf
  simp only [value, x.isLt, dif_pos]

theorem rowOf_eq_none {n : Nat} {b : Byte} (beyond : n ≤ b.toNat) : rowOf n b = none := dif_neg (Nat.not_lt.mpr beyond)

theorem rowOf_isSome {n : Nat} {b : Byte} (below : b.toNat < n) : (rowOf n b).isSome = true := by
  unfold rowOf
  rw [dif_pos below]
  rfl

theorem FlagSet.ofByte_eq_none {b : Byte} (beyond : 5 ≤ b.toNat) : FlagSet.ofByte b = none := by
  unfold FlagSet.ofByte
  obtain ⟨m, large⟩ : ∃ m, b.toNat = m + 5 := ⟨b.toNat - 5, by omega⟩
  rw [large]
  rfl

theorem FlagSet.ofByte_isSome {b : Byte} (below : b.toNat < 5) : (FlagSet.ofByte b).isSome = true := by
  unfold FlagSet.ofByte
  generalize b.toNat = n at below
  match n, below with
  | 0, _ | 1, _ | 2, _ | 3, _ | 4, _ => rfl
  | n + 5, below => exact absurd below (Nat.not_lt.mpr (Nat.le_add_left 5 n))

section
variable {ρ φ : Type} {row : Option ρ} {field : ρ → Option φ} {mk : ρ → φ → Target}

theorem locate_of_no_row (none : row = .none) : locate row field mk = .error .badRow := by
  rw [none]
  rfl

theorem locate_of_no_field (found : row.isSome = true) (none : ∀ r, field r = .none) : locate row field mk = .error .badField := by
  obtain ⟨r, rfl⟩ := Option.isSome_iff_exists.mp found
  unfold locate
  dsimp only
  rw [none]

end

/-- The number of rows of each table, and the number of its fields but for the FLAGS table (Tables 9-4 and 11-10). -/
def tableRows : List Nat := [1, 16, 8, 4, 4, 128, 32, 48, 160, 8, 5]
/-- See `tableRows`. -/
def tableFields : List Nat := [19, 8, 16, 9, 26, 1, 15, 17, 7, 4]

theorem resolve_badTable {table row field : Byte} (beyond : 11 ≤ table.toNat) : Target.resolve table row field = .error .badTable := by
  unfold Target.resolve
  obtain ⟨m, large⟩ : ∃ m, table.toNat = m + 11 := ⟨table.toNat - 11, by omega⟩
  rw [large]
  rfl

theorem resolve_badRow {table row field : Byte} {n : Nat} (rows : tableRows[table.toNat]? = some n) (beyond : n ≤ row.toNat) :
    Target.resolve table row field = .error .badRow := by
  have below : table.toNat < 11 := (List.getElem?_eq_some_iff.mp rows).1
  unfold Target.resolve
  generalize table.toNat = t at rows below
  match t, rows, below with
  | 0, rows, _ | 1, rows, _ | 2, rows, _ | 3, rows, _ | 4, rows, _ | 5, rows, _ | 6, rows, _ | 7, rows, _ | 8, rows, _ | 9, rows, _ =>
    obtain rfl := Option.some.inj rows
    exact locate_of_no_row (rowOf_eq_none beyond)
  | 10, rows, _ =>
    obtain rfl := Option.some.inj rows
    exact locate_of_no_row (FlagSet.ofByte_eq_none beyond)
  | t + 11, _, below => exact absurd below (Nat.not_lt.mpr (Nat.le_add_left 11 t))

/-- The fields of each table that names one field by one number (Table 11-10). -/
theorem ofId_eq_none {f k : Nat} (beyond : k ≤ f) :
    (k = 19 → DeviceField.ofId f = none) ∧ (k = 8 → AcceptField.ofId f = none) ∧ (k = 16 → SensorField.ofId f = none)
      ∧ (k = 9 → PulseField.ofId f = none) ∧ (k = 26 → PortalField.ofId f = none) ∧ (k = 15 → ZoneField.ofId f = none)
      ∧ (k = 17 → GroupField.ofId f = none) ∧ (k = 7 → DriverField.ofId f = none) ∧ (k = 4 → CounterField.ofId f = none) := by
  obtain ⟨m, rfl⟩ := Nat.exists_eq_add_of_le' beyond
  refine ⟨?_, ?_, ?_, ?_, ?_, ?_, ?_, ?_, ?_⟩
  all_goals
    rintro rfl
    rfl

theorem FlagsField.ofId_eq_none {set : FlagSet} {f : Nat} (misnamed : f = 6 ∨ f = 7 ∨ 9 ≤ f) : FlagsField.ofId set f = none := by
  rcases misnamed with rfl | rfl | beyond
  · rfl
  · rfl
  · obtain ⟨m, rfl⟩ := Nat.exists_eq_add_of_le' beyond
    rfl

theorem resolve_badField {table row field : Byte} {n : Nat} (rows : tableRows[table.toNat]? = some n) (below : row.toNat < n)
    (misnamed : (∃ k, tableFields[table.toNat]? = some k ∧ k ≤ field.toNat)
      ∨ (table = 10 ∧ (field = 6 ∨ field = 7 ∨ 9 ≤ field.toNat))) :
    Target.resolve table row field = .error .badField := by
  unfold Target.resolve
  rcases misnamed with ⟨k, fields, beyond⟩ | ⟨rfl, flags⟩
  · have table_lt : table.toNat < 10 := (List.getElem?_eq_some_iff.mp fields).1
    obtain ⟨device, accept, sensor, pulse, portal, zone, group, driver, counter⟩ := ofId_eq_none beyond
    generalize table.toNat = t at rows fields table_lt
    match t, rows, fields, table_lt with
    | 0, rows, fields, _ =>
      obtain rfl := Option.some.inj rows
      obtain rfl := Option.some.inj fields
      exact locate_of_no_field (rowOf_isSome below) fun _ => device rfl
    | 1, rows, fields, _ =>
      obtain rfl := Option.some.inj rows
      obtain rfl := Option.some.inj fields
      exact locate_of_no_field (rowOf_isSome below) fun _ => accept rfl
    | 2, rows, fields, _ =>
      obtain rfl := Option.some.inj rows
      obtain rfl := Option.some.inj fields
      exact locate_of_no_field (rowOf_isSome below) fun _ => sensor rfl
    | 3, rows, fields, _ =>
      obtain rfl := Option.some.inj rows
      obtain rfl := Option.some.inj fields
      exact locate_of_no_field (rowOf_isSome below) fun _ => pulse rfl
    | 4, rows, fields, _ =>
      obtain rfl := Option.some.inj rows
      obtain rfl := Option.some.inj fields
      exact locate_of_no_field (rowOf_isSome below) fun _ => portal rfl
    | 5, rows, fields, _ =>
      obtain rfl := Option.some.inj rows
      obtain rfl := Option.some.inj fields
      exact locate_of_no_field (rowOf_isSome below) fun _ => if_neg (by omega)
    | 6, rows, fields, _ =>
      obtain rfl := Option.some.inj rows
      obtain rfl := Option.some.inj fields
      exact locate_of_no_field (rowOf_isSome below) fun _ => zone rfl
    | 7, rows, fields, _ =>
      obtain rfl := Option.some.inj rows
      obtain rfl := Option.some.inj fields
      exact locate_of_no_field (rowOf_isSome below) fun _ => group rfl
    | 8, rows, fields, _ =>
      obtain rfl := Option.some.inj rows
      obtain rfl := Option.some.inj fields
      exact locate_of_no_field (rowOf_isSome below) fun _ => driver rfl
    | 9, rows, fields, _ =>
      obtain rfl := Option.some.inj rows
      obtain rfl := Option.some.inj fields
      exact locate_of_no_field (rowOf_isSome below) fun _ => counter rfl
    | t + 10, _, _, table_lt => exact absurd table_lt (Nat.not_lt.mpr (Nat.le_add_left 10 t))
  · obtain rfl := Option.some.inj rows
    refine locate_of_no_field (FlagSet.ofByte_isSome below) fun _ => FlagsField.ofId_eq_none ?_
    rcases flags with rfl | rfl | beyond
    · exact .inl rfl
    · exact .inr (.inl rfl)
    · exact .inr (.inr beyond)

/-! ### Operands -/

theorem ofOperands_unknown {code : Byte} (ops : List Byte) (unknown : code = 0 ∨ 13 ≤ code.toNat) :
    Request.ofOperands code ops = .error .unknownRequest := by
  unfold Request.ofOperands
  rcases unknown with rfl | beyond
  · exact if_neg (by decide)
  · obtain ⟨m, large⟩ : ∃ m, code.toNat = m + 13 := ⟨code.toNat - 13, by omega⟩
    rw [large]
    exact if_neg (by omega)

theorem ofOperands_get (t r f : Byte) (more : List Byte) :
    Request.ofOperands 1 (t :: r :: f :: more) = (Target.resolve t r f).map .get := rfl

/-- GET and SET fail as their addressing does. -/
theorem ofOperands_of_unresolved {code t r f : Byte} {more : List Byte} {e : Result} (unresolved : Target.resolve t r f = .error e)
    (accesses : code = 1 ∨ (code = 2 ∧ 4 ≤ more.length)) : Request.ofOperands code (t :: r :: f :: more) = .error e := by
  rcases accesses with rfl | ⟨rfl, long⟩
  · rw [ofOperands_get, unresolved]
    rfl
  · match more with
    | [] | [_] | [_, _] | [_, _, _] => simp at long
    | a :: b :: c :: d :: rest =>
      change (Target.resolve t r f).map _ = _
      rw [unresolved]
      rfl

/-- A code whose operands are not all there (R146 (3)). -/
theorem ofOperands_short {ops : List Byte} :
    (ops.length < 3 → Request.ofOperands 1 ops = .error .badValue) ∧ (ops.length < 7 → Request.ofOperands 2 ops = .error .badValue)
      ∧ (ops.length < 5 → Request.ofOperands 7 ops = .error .badValue)
      ∧ (ops.length < 2 → Request.ofOperands 8 ops = .error .badValue ∧ Request.ofOperands 10 ops = .error .badValue
          ∧ Request.ofOperands 11 ops = .error .badValue) := by
  match ops with
  | [] | [_] => exact ⟨fun _ => rfl, fun _ => rfl, fun _ => rfl, fun _ => ⟨rfl, rfl, rfl⟩⟩
  | [_, _] => exact ⟨fun _ => rfl, fun _ => rfl, fun _ => rfl, fun long => absurd long (by simp)⟩
  | [_, _, _] | [_, _, _, _] =>
    exact ⟨fun long => absurd long (by simp), fun _ => rfl, fun _ => rfl, fun long => absurd long (by simp)⟩
  | [_, _, _, _, _] | [_, _, _, _, _, _] =>
    exact ⟨fun long => absurd long (by simp), fun _ => rfl, fun long => absurd long (by simp), fun long => absurd long (by simp)⟩
  | _ :: _ :: _ :: _ :: _ :: _ :: _ :: _ =>
    refine ⟨fun long => ?_, fun long => ?_, fun long => ?_, fun long => ?_⟩
    all_goals
      simp only [List.length_cons] at long
      omega

theorem onPortal_badRow {p : Byte} (mk : Fin 4 → Request) (beyond : 4 ≤ p.toNat) : onPortal p mk = .error .badRow := by
  unfold onPortal
  rw [rowOf_eq_none beyond]

theorem reach_badScope {scope : Byte} (index : Byte) (beyond : 2 ≤ scope.toNat) : Reach.resolve scope index = .error .badValue := by
  unfold Reach.resolve
  obtain ⟨m, large⟩ : ∃ m, scope.toNat = m + 2 := ⟨scope.toNat - 2, by omega⟩
  rw [large]
  rfl

theorem reach_badRow {scope index : Byte} (beyond : scope = 0 ∧ 32 ≤ index.toNat ∨ scope = 1 ∧ 4 ≤ index.toNat) :
    Reach.resolve scope index = .error .badRow := by
  unfold Reach.resolve
  rcases beyond with ⟨rfl, zone⟩ | ⟨rfl, portal⟩
  · rw [rowOf_eq_none zone]
    rfl
  · rw [rowOf_eq_none portal]
    rfl

/-- FORCE and RELEASE fail as their scope and index do. -/
theorem ofOperands_of_unreached {scope index kind hi lo : Byte} {more : List Byte} {e : Result}
    (unreached : Reach.resolve scope index = .error e) :
    Request.ofOperands 7 (scope :: index :: kind :: hi :: lo :: more) = .error e
      ∧ Request.ofOperands 8 (scope :: index :: more) = .error e := by
  constructor
  · change (Reach.resolve scope index).map _ = _
    rw [unreached]
    rfl
  · change (Reach.resolve scope index).map _ = _
    rw [unreached]
    rfl

theorem ofOperands_clearFlags (n m : Byte) (more : List Byte) :
    Request.ofOperands 10 (n :: m :: more) = (FlagSet.ofByte n).elim (.error .badRow) fun x => .ok (.clearFlags x m) := by
  change (match FlagSet.ofByte n with | some x => Except.ok (Request.clearFlags x m) | none => .error Result.badRow) = _
  cases FlagSet.ofByte n <;> rfl

theorem ofOperands_readCounter (i clear : Byte) (more : List Byte) :
    Request.ofOperands 11 (i :: clear :: more) = (rowOf 8 i).elim (.error .badRow) fun x => .ok (.readCounter x clear) := by
  change (match rowOf 8 i with | some x => Except.ok (Request.readCounter x clear) | none => .error Result.badRow) = _
  cases rowOf 8 i <;> rfl

/-- Settles O42: each request has no meaning as Table 11-5 reads it. -/
theorem malformedRequests : Obligations.MalformedRequests := by
  intro h s free room
  have error {i : Instr} {code : Byte} {ops : List Byte} {r : Result} (asks : requestOf i = some (h.dt, h.src, h.tag :: code :: ops))
      (shape : Request.ofOperands code ops = .error r) (bad : r ≠ .ok) : exec i s = .next (s.answered h r []) :=
    exec_error free room asks rfl shape bad
  refine ⟨exec_error (h := { h with tag := 0 }) free room rfl rfl rfl (by decide), exec_error free room rfl rfl rfl (by decide),
    fun code more unknown => error rfl (ofOperands_unknown more unknown) (by decide),
    fun ops short => error rfl (ofOperands_short.1 short) (by decide),
    fun ops short => error rfl (ofOperands_short.2.1 short) (by decide),
    ⟨error rfl rfl (by decide), error rfl rfl (by decide)⟩, fun ops short => error rfl (ofOperands_short.2.2.1 short) (by decide),
    fun ops short => ?_, fun table row field code more i asks accesses => ?_, fun p more beyond => ?_,
    fun scope index kind hi lo more => ⟨fun beyond => ?_, fun beyond => ?_⟩, fun n m more => ⟨fun beyond => ?_, fun beyond => ?_⟩⟩
  · obtain ⟨-, -, -, two⟩ := ofOperands_short (ops := ops)
    obtain ⟨release, clear, read⟩ := two short
    exact ⟨error rfl release (by decide), error rfl clear (by decide), error rfl read (by decide)⟩
  · exact ⟨fun beyond => error asks (ofOperands_of_unresolved (resolve_badTable beyond) accesses) (by decide),
      fun n rows beyond => error asks (ofOperands_of_unresolved (resolve_badRow rows beyond) accesses) (by decide),
      fun n rows below misnamed => error asks (ofOperands_of_unresolved (resolve_badField rows below misnamed) accesses) (by decide)⟩
  · exact ⟨error rfl (onPortal_badRow .standby beyond) (by decide), error rfl (onPortal_badRow .resume beyond) (by decide)⟩
  · obtain ⟨force, release⟩ := ofOperands_of_unreached (kind := kind) (hi := hi) (lo := lo) (more := more) (reach_badScope index beyond)
    exact ⟨error rfl force (by decide), error rfl release (by decide)⟩
  · obtain ⟨force, release⟩ := ofOperands_of_unreached (kind := kind) (hi := hi) (lo := lo) (more := more) (reach_badRow beyond)
    exact ⟨error rfl force (by decide), error rfl release (by decide)⟩
  · exact error (code := 10) (ops := n :: m :: more) rfl
      (by rw [ofOperands_clearFlags, FlagSet.ofByte_eq_none beyond]; rfl) (r := .badRow) (by decide)
  · exact error (code := 11) (ops := n :: m :: more) rfl
      (by rw [ofOperands_readCounter, rowOf_eq_none beyond]; rfl) (r := .badRow) (by decide)

/-! ### Rights (R147, Table 9-3) -/

theorem holdsControl_iff {s : State} {src : Byte} :
    s.holdsControl src = true ↔ s.device.controlOwner = 0 ∨ s.device.controlOwner = src := by
  simp [State.holdsControl]

theorem holdsMaintenance_iff {s : State} {src : Byte} :
    s.holdsMaintenance src = true ↔ s.device.maintenanceOwner = 0 ∨ s.device.maintenanceOwner = src := by
  simp [State.holdsMaintenance]

theorem grants_counter_iff {s : State} {src : Byte} {i : Fin 8} {f : CounterField} {v : Word} (writes : f = .select ∨ f = .scope) :
    s.grants src (.set (.counter i f) v) = if i.val < 4 then s.holdsControl src else s.holdsMaintenance src := by
  rcases writes with rfl | rfl <;> rfl

/-- Settles O43: the refusal, then the right each request takes. -/
theorem deniedRequests : Obligations.DeniedRequests := by
  refine ⟨fun i dt src tag rest q s free room asks shape denied => ?_, fun src s => ?_⟩
  · exact exec_refused (h := { dt := dt, src := src, tag := tag }) asks rfl free room (by decide)
      (runPayload_denied (s.placing dt src (tag :: rest)) src (tag :: rest) q shape denied)
  · dsimp only
    rw [← holdsControl_iff, ← holdsMaintenance_iff]
    refine ⟨.rfl, .rfl, fun t => Bool.or_eq_true_iff, fun g v => Bool.or_eq_true_iff, fun i v => ?_, fun i v => ?_, fun i f v other => ?_,
      fun t v noBurn noCounter => ?_, fun i c => ?_, fun q named => ?_⟩
    · rw [grants_counter_iff (.inl rfl)]
      split <;> rfl
    · rw [grants_counter_iff (.inr rfl)]
      split <;> rfl
    · have both : s.grants src (.set (.counter i f) v)
          = if i.val < 4 then s.holdsControl src else s.holdsControl src && s.holdsMaintenance src := by
        rcases other with rfl | rfl <;> rfl
      rw [both]
      split
      · next low => exact ⟨fun control => ⟨control, fun high => absurd high (by omega)⟩, fun both => both.1⟩
      · next high =>
        rw [Bool.and_eq_true]
        exact and_congr_right fun _ => ⟨fun maintenance _ => maintenance, fun maintenance => maintenance (by omega)⟩
    · cases t with
      | group g f =>
        cases f with
        | burnHours => exact absurd rfl (noBurn g)
        | _ => exact .rfl
      | counter i f => exact absurd rfl (noCounter i f)
      | _ => exact .rfl
    · change ((if i.val < 4 then s.holdsControl src else s.holdsMaintenance src) = true) ↔ _
      split <;> rfl
    · rcases named with rfl | rfl | rfl | rfl | ⟨p, rfl⟩ | ⟨p, rfl⟩ | ⟨r, k, l, rfl⟩ | ⟨r, rfl⟩ | ⟨n, m, rfl⟩
      all_goals exact .rfl

end Sys2Proof.Machine

/-! SUPPORT. The statements about DEACTIVATE, STANDBY, RELEASE, RESCAN, CLEAR_FLAGS, READ_COUNTER and RESTART, settled (R41, R90, R127,
R136, R144, R155, R157, R158). -/

namespace Sys2Proof.Machine

set_option Elab.async false

/-! ### Where RELEASE, FORCE and STANDBY reach -/

section
variable {s : State}

theorem reachable_zone_iff {z : Fin 32} :
    s.reachable (.zone z) = true ↔ s.mode = .running ∧ s.zones[z].used = true ∧ s.regulating s.zones[z].portal = true := by
  simp [State.reachable]

theorem reachable_portal_iff {p : Fin 4} : s.reachable (.portal p) = true ↔ s.mode = .running ∧ s.regulating p = true := by
  simp [State.reachable]

theorem runRelease_zone {z : Fin 32} (reachable : s.reachable (.zone z) = true) :
    s.runRelease (.zone z) = (s.releaseZone z).done := if_neg (by rw [reachable]; decide)

theorem runRelease_portal {p : Fin 4} (reachable : s.reachable (.portal p) = true) :
    s.runRelease (.portal p) = (s.releasePortal p).done := if_neg (by rw [reachable]; decide)

theorem runRelease_of_not_reachable {r : Reach} (unreachable : ¬ s.reachable r = true) : s.runRelease r = s.refuse .wrongState := by
  unfold State.runRelease
  rw [Bool.eq_false_iff.mpr unreachable]
  rfl

end

theorem releasePortal_eq (s : State) (p : Fin 4) : s.releasePortal p = { s with
    portals := updAt s.portals p fun r => { r with override := none }
    zones := updAll s.zones fun _ z => if z.used = true ∧ z.portal = p then { z with override := none } else z } := by
  unfold State.releasePortal State.mapPortal
  simp only [Bool.and_eq_true, beq_iff_eq]

theorem reach_zone (z : Fin 32) : Reach.resolve 0 (BitVec.ofNat 8 z.val) = .ok (.zone z) := by
  unfold Reach.resolve
  rw [rowOf_ofNat (by decide)]
  rfl

theorem reach_portal (p : Fin 4) : Reach.resolve 1 (BitVec.ofNat 8 p.val) = .ok (.portal p) := by
  unfold Reach.resolve
  rw [rowOf_ofNat (by decide)]
  rfl

theorem ofOperands_release {scope index : Byte} {r : Reach} (more : List Byte) (reached : Reach.resolve scope index = .ok r) :
    Request.ofOperands 8 (scope :: index :: more) = .ok (.release r) := by
  change (Reach.resolve scope index).map _ = _
  rw [reached]
  rfl

/-- Settles O50. -/
theorem releaseClearsOverrides : Obligations.ReleaseClearsOverrides := by
  intro h more s free room control
  refine ⟨fun z => ⟨fun refused => ?_, fun allowed => ?_⟩, fun p => ⟨fun refused => ?_, fun allowed => ?_⟩⟩
  · exact exec_declined free room rfl (ofOperands_release more (reach_zone z)) control (by decide)
      (runRelease_of_not_reachable fun reachable => refused (reachable_zone_iff.mp reachable))
  · exact exec_changed (f := fun u => { u with zones := updAt s.zones z fun r => { r with override := none } }) free room rfl
      (ofOperands_release more (reach_zone z)) control (by decide) (fun _ _ => rfl)
      (runRelease_zone (s := s.placing h.dt h.src _) (reachable_zone_iff.mpr allowed)) (fun _ => rfl) fun _ => rfl
  · exact exec_declined free room rfl (ofOperands_release more (reach_portal p)) control (by decide)
      (runRelease_of_not_reachable fun reachable => refused (reachable_portal_iff.mp reachable))
  · refine exec_changed (f := fun u => { u with
        portals := updAt s.portals p fun r => { r with override := none }
        zones := updAll s.zones fun _ z => if z.used = true ∧ z.portal = p then { z with override := none } else z }) free room rfl
      (ofOperands_release more (reach_portal p)) control (by decide) (fun _ _ => rfl) ?_ (fun _ => rfl) fun _ => rfl
    refine (runRelease_portal (s := s.placing h.dt h.src _) (reachable_portal_iff.mpr allowed)).trans ?_
    rw [releasePortal_eq]
    rfl

/-! ### DEACTIVATE -/

/-- The entries DEACTIVATE leaves (R48). -/
def FEntry.forwarded (e : FEntry) : Bool :=
  match e with
  | .passThrough _ => true
  | .level _ _ _ | .poll _ _ => false

theorem FEntry.not_own_eq : (fun e : FEntry => !e.own) = FEntry.forwarded := by
  funext e
  cases e <;> rfl

/-- A group's record at DEACTIVATE (R155). -/
def Group.retired (g : Group) : Group := { g with mf := none, sg := none, due := false, pendingMark := false }

/-- The group table after DEACTIVATE. -/
def State.retiredGroups (s : State) : Vector Group 48 :=
  updAll (updAll s.groups fun _ g => { g with mf := none, sg := none, due := false }) fun g r =>
    if s.fQueue.any (·.isLevelOf g) then { r with pendingMark := false } else r

theorem leaveRunning_eq (s : State) : s.leaveRunning = { s with
    mode := .transparent
    fQueue := s.fQueue.filter FEntry.forwarded
    portals := updAll s.portals fun _ r => if r.used then r.discarded .standby else r
    zones := updAll s.zones fun _ z => z.discarded
    groups := s.retiredGroups
    pollTimer := none
    rescan := .none
    scanOrphan := s.fTx.holdsScan } := by
  rw [← FEntry.not_own_eq]
  simp only [State.leaveRunning, State.abandonRescan, State.removeOwnEntries, State.discardRegulation]
  rfl

/-- DEACTIVATE clears every pending mark: a marked group has its entry in the F queue (R34, R48). -/
theorem retiredGroups_eq {s : State} (sound : s.queuesSound) : s.retiredGroups = updAll s.groups fun _ g => g.retired := by
  obtain ⟨-, -, law⟩ := sound
  have cleared (g : Fin 48) : s.retiredGroups[g] = s.groups[g].retired := by
    unfold State.retiredGroups
    rw [updAll_get, updAll_get]
    split
    · rfl
    · next absent =>
      have unmarked : s.groups[g].pendingMark = false := by
        rw [Bool.eq_false_iff]
        intro marked
        have one := law g
        rw [if_pos marked] at one
        exact absent (List.any_eq_true.mpr (List.countP_pos_iff.mp (one ▸ Nat.one_pos)))
      exact congrArg (fun b => ({ s.groups[g] with mf := none, sg := none, due := false, pendingMark := b } : Group)) unmarked
  ext j below
  rw [updAll_getElem]
  exact cleared ⟨j, below⟩

/-- Settles O46. -/
theorem deactivateStopsRegulation : Obligations.DeactivateStopsRegulation := by
  intro h s free room control sound
  refine ⟨fun transparent => ?_, fun running => ?_⟩
  · refine exec_declined (q := .deactivate) (code := 4) (ops := []) free room rfl rfl control (by decide) ?_
    change State.runDeactivate _ = _
    unfold State.runDeactivate
    rw [State.placing_mode, transparent]
  · refine exec_changed (q := .deactivate) (code := 4) (ops := []) (f := fun u => { u with
        mode := .transparent
        fQueue := s.fQueue.filter FEntry.forwarded
        portals := updAll s.portals fun _ r => if r.used then r.discarded .standby else r
        zones := updAll s.zones fun _ z => z.discarded
        groups := updAll s.groups fun _ g => g.retired
        pollTimer := none
        rescan := .none
        scanOrphan := s.fTx.holdsScan }) free room rfl rfl control (by decide) (fun _ _ => rfl) ?_ (fun _ => rfl) fun _ => rfl
    change State.runDeactivate _ = _
    unfold State.runDeactivate
    rw [State.placing_mode, running]
    dsimp only
    rw [leaveRunning_eq, retiredGroups_eq (s := s.placing h.dt h.src [h.tag, 4]) sound]
    rfl

/-! ### STANDBY -/

theorem ofOperands_standby (p : Fin 4) (more : List Byte) :
    Request.ofOperands 5 (BitVec.ofNat 8 p.val :: more) = .ok (.standby p) := by
  change onPortal (BitVec.ofNat 8 p.val) .standby = _
  unfold onPortal
  rw [rowOf_ofNat (by decide)]

theorem ofOperands_resume (p : Fin 4) (more : List Byte) :
    Request.ofOperands 6 (BitVec.ofNat 8 p.val :: more) = .ok (.resume p) := by
  change onPortal (BitVec.ofNat 8 p.val) .resume = _
  unfold onPortal
  rw [rowOf_ofNat (by decide)]

section
variable {s : State} {p : Fin 4}

theorem runStandby_refused (barred : s.mode = .transparent ∨ s.portals[p].used = false) : s.runStandby p = s.refuse .wrongState := by
  unfold State.runStandby
  cases mode : s.mode with
  | transparent => cases s.portals[p].used <;> rfl
  | running =>
    rw [barred.resolve_left (by rw [mode]; decide)]

theorem runStandby_of_used (running : s.mode = .running) (used : s.portals[p].used = true) :
    s.runStandby p = if s.portals[p].state.regulating = true then (s.standbyPortal p).done else s.done := by
  unfold State.runStandby State.regulating
  rw [running, used, Bool.true_and]

/-- The group table after STANDBY of a portal (R112). -/
def State.stoodGroups (s : State) (p : Fin 4) : Vector Group 48 :=
  updAll s.groups fun g r => if (s.zonesOfGroup g).any fun z => s.zones[z].portal == p then { r with due := false } else r

theorem standbyPortal_eq (s : State) (p : Fin 4) : s.standbyPortal p = { s with
    groups := s.stoodGroups p
    portals := updAt s.portals p Portal.stopped
    zones := updAll s.zones fun _ z =>
      if z.used = true ∧ z.portal = p then { z with override := none, deficit := false, deficitAmount := 0 } else z } := by
  unfold State.standbyPortal State.mapPortal State.stoodGroups
  simp only [Bool.and_eq_true, beq_iff_eq]

theorem stoodGroups_get (s : State) (p : Fin 4) (g : Fin 48) :
    ((∃ z : Fin 32, s.zones[z].used = true ∧ s.zones[z].portal = p ∧ g ∈ s.zones[z].standing) →
        (s.stoodGroups p)[g] = { s.groups[g] with due := false })
      ∧ ((¬ ∃ z : Fin 32, s.zones[z].used = true ∧ s.zones[z].portal = p ∧ g ∈ s.zones[z].standing) →
        (s.stoodGroups p)[g] = s.groups[g]) := by
  have stands : ((s.zonesOfGroup g).any fun z => s.zones[z].portal == p) = true
      ↔ ∃ z : Fin 32, s.zones[z].used = true ∧ s.zones[z].portal = p ∧ g ∈ s.zones[z].standing := by
    simp only [List.any_eq_true, mem_zonesOfGroup, beq_iff_eq, and_assoc]
    exact exists_congr fun z => and_congr_right fun _ => and_comm
  unfold State.stoodGroups
  rw [updAll_get, ← stands]
  exact ⟨fun here => if_pos here, fun absent => if_neg absent⟩

end

/-- Settles O47. -/
theorem standbyStopsPortal : Obligations.StandbyStopsPortal := by
  intro h p more s free room control
  refine ⟨fun barred => ?_, fun running used idle => ?_, fun running used regulating => ?_⟩
  · exact exec_declined free room rfl (ofOperands_standby p more) control (by decide)
      (runStandby_refused (s := s.placing h.dt h.src _) barred)
  · refine exec_changed (f := id) free room rfl (ofOperands_standby p more) control (by decide) (fun _ _ => rfl) ?_ (fun _ => rfl)
      fun _ => rfl
    refine (runStandby_of_used (s := s.placing h.dt h.src _) running used).trans (if_neg ?_)
    rw [State.placing_portals, idle]
    decide
  · refine ⟨{ s.answered h .ok [] with
        groups := s.stoodGroups p
        portals := updAt s.portals p Portal.stopped
        zones := updAll s.zones fun _ z =>
          if z.used = true ∧ z.portal = p then { z with override := none, deficit := false, deficitAmount := 0 } else z }, ?_, rfl,
      stoodGroups_get s p⟩
    refine exec_changed (f := fun u => { u with
        groups := s.stoodGroups p
        portals := updAt s.portals p Portal.stopped
        zones := updAll s.zones fun _ z =>
          if z.used = true ∧ z.portal = p then { z with override := none, deficit := false, deficitAmount := 0 } else z })
      free room rfl (ofOperands_standby p more) control (by decide) (fun _ _ => rfl) ?_ (fun _ => rfl) fun _ => rfl
    refine ((runStandby_of_used (s := s.placing h.dt h.src _) running used).trans (if_pos regulating)).trans ?_
    rw [standbyPortal_eq]
    rfl

/-! ### RESCAN -/

section
variable {s : State}

theorem rescanStart_of_room {d : Fin 160} (used : s.drivers[d].used = true) (first : ∀ m : Fin 160, m < d → s.drivers[m].used = false)
    (room : s.fQueue.length < 32) :
    s.rescanStart = { s with rescan := .awaitWindow, rescanPosition := 0, fQueue := s.fQueue ++ [.poll d .scan] } := by
  have next : ({ s with rescanPosition := 0, rescan := .awaitWindow } : State).nextUsed 0 = some d :=
    nextUsed_of_lowest used (Nat.zero_le _) fun m _ => first m
  unfold State.rescanStart State.rescanOffer
  rw [show ({ s with rescanPosition := 0, rescan := .awaitWindow } : State).rescanPosition = 0 from rfl, next]
  dsimp only
  unfold State.offerPoll
  rw [if_pos room, if_pos room]

theorem rescanStart_of_full {d n : Fin 160} (used : s.drivers[d].used = true) (first : ∀ m : Fin 160, m < d → s.drivers[m].used = false)
    (full : s.fQueue.length = 32) (above : d < n) (more : s.drivers[n].used = true) :
    s.rescanStart = { s with rescan := .awaitTimer, rescanPosition := d.val + 1 } := by
  have next : ({ s with rescanPosition := 0, rescan := .awaitWindow } : State).nextUsed 0 = some d :=
    nextUsed_of_lowest used (Nat.zero_le _) fun m _ => first m
  have another : (s.nextUsed (d.val + 1)).isSome = true := by
    unfold State.nextUsed
    rw [List.find?_isSome]
    exact ⟨n, List.mem_finRange n, by rw [more, decide_eq_true (show d.val + 1 ≤ n.val from above)]; rfl⟩
  unfold State.rescanStart State.rescanOffer
  rw [show ({ s with rescanPosition := 0, rescan := .awaitWindow } : State).rescanPosition = 0 from rfl, next]
  dsimp only
  rw [if_neg (show ¬ s.fQueue.length < 32 by omega)]
  exact if_pos another

theorem rescanStart_of_none (unused : ∀ d : Fin 160, s.drivers[d].used = false) :
    s.rescanStart = { s with rescanPosition := 0, rescan := .awaitWindow }.rescanEnd := by
  have none : ({ s with rescanPosition := 0, rescan := .awaitWindow } : State).nextUsed 0 = .none :=
    nextUsed_eq_none fun m _ => unused m
  unfold State.rescanStart State.rescanOffer
  rw [show ({ s with rescanPosition := 0, rescan := .awaitWindow } : State).rescanPosition = 0 from rfl, none]

theorem runRescan_of_running (running : s.mode = .running) :
    s.runRescan = if s.rescan = .none then s.rescanStart.done else s.refuse .busy := by
  unfold State.runRescan
  rw [running]

end

/-- Settles O51. -/
theorem rescanStarts : Obligations.RescanStarts := by
  intro h s free room control
  refine ⟨fun transparent => ?_, fun running walks => ?_, fun d running idle used first space => ?_,
    fun d n running idle used first full above more => ?_, fun running idle unused => ?_⟩
  · refine exec_declined (q := .rescan) (code := 9) (ops := []) free room rfl rfl control (by decide) ?_
    change State.runRescan _ = _
    unfold State.runRescan
    rw [State.placing_mode, transparent]
  · exact exec_declined (q := .rescan) (code := 9) (ops := []) free room rfl rfl control (by decide)
      ((runRescan_of_running (s := s.placing h.dt h.src [h.tag, 9]) running).trans (if_neg walks))
  · refine exec_changed (q := .rescan) (code := 9) (ops := [])
      (f := fun u => { u with rescan := .awaitWindow, rescanPosition := 0, fQueue := s.fQueue ++ [.poll d .scan] })
      free room rfl rfl control (by decide) (fun _ _ => rfl) ?_ (fun _ => rfl) fun _ => rfl
    refine ((runRescan_of_running (s := s.placing h.dt h.src [h.tag, 9]) running).trans (if_pos idle)).trans ?_
    rw [rescanStart_of_room (s := s.placing h.dt h.src [h.tag, 9]) used first space]
    rfl
  · refine exec_changed (q := .rescan) (code := 9) (ops := [])
      (f := fun u => { u with rescan := .awaitTimer, rescanPosition := d.val + 1 })
      free room rfl rfl control (by decide) (fun _ _ => rfl) ?_ (fun _ => rfl) fun _ => rfl
    refine ((runRescan_of_running (s := s.placing h.dt h.src [h.tag, 9]) running).trans (if_pos idle)).trans ?_
    rw [rescanStart_of_full (s := s.placing h.dt h.src [h.tag, 9]) used first full above more]
    rfl
  · have run : (s.placing h.dt h.src [h.tag, 9]).runRequest .rescan = (s.placing h.dt h.src [h.tag, 9]).rescanStart.done :=
      (runRescan_of_running (s := s.placing h.dt h.src [h.tag, 9]) running).trans (if_pos idle)
    have same := exceptPolling_rescanStart (s.placing h.dt h.src [h.tag, 9])
    have slot : (s.placing h.dt h.src [h.tag, 9]).rescanStart.slot0 = (s.placing h.dt h.src [h.tag, 9]).slot0 :=
      (congrArg (fun u : State => u.slot0) same :)
    have own : (s.placing h.dt h.src [h.tag, 9]).rescanStart.ownAddress = s.ownAddress :=
      congrArg (fun x : BitVec 4 => BitVec.ofNat 8 (184 + x.toNat)) (congrArg (fun u : State => u.addrPins) same :)
    obtain ⟨t, answers, responded, rest, -⟩ := exec_responded (code := 9) (ops := []) (i := .rescan h) free rfl rfl control (by decide) run
      slot own
    have ended := rescanStart_of_none (s := s.placing h.dt h.src [h.tag, 9]) unused
    obtain ⟨ended_, position, flag, -⟩ :=
      rescanEnd_reports { s.placing h.dt h.src [h.tag, 9] with rescanPosition := 0, rescan := .awaitWindow }
    have walked := Walked.rescanEnd { s.placing h.dt h.src [h.tag, 9] with rescanPosition := 0, rescan := .awaitWindow }
    refine ⟨t, answers, ?_, ?_, ?_, ?_, ?_, responded⟩
    all_goals rw [rest, ended]
    · exact ended_
    · exact position
    · exact flag
    · exact walked.drivers
    · dsimp only
      unfold State.rescanEnd
      rw [State.deviceEvent_fQueue]
      rfl

/-! ### CLEAR_FLAGS and READ_COUNTER -/

theorem FlagSet.ofByte_portal (p : Fin 4) : FlagSet.ofByte (BitVec.ofNat 8 (p.val + 1)) = some (.portal p) := by
  match p with
  | 0 | 1 | 2 | 3 => rfl

theorem boolOf_eq_none {v : Nat} (beyond : 2 ≤ v) : boolOf v = none := by
  obtain ⟨m, rfl⟩ := Nat.exists_eq_add_of_le' beyond
  rfl

section
variable {s : State}

theorem runClearFlags_device (mask : Byte) :
    s.runClearFlags .device mask
      = if 32 ≤ mask.toNat then s.refuse .badField
        else { state := { s with deviceFlags := s.deviceFlags &&& ~~~(mask.setWidth 5) }
               reply := { result := .ok, data := [(s.deviceFlags &&& ~~~(mask.setWidth 5)).setWidth 8] } } := by
  unfold State.runClearFlags maskBeyond
  simp only [decide_eq_true_eq]
  rfl

theorem runClearFlags_portal (p : Fin 4) (mask : Byte) :
    s.runClearFlags (.portal p) mask
      = if 64 ≤ mask.toNat then s.refuse .badField
        else { state := { s with portalFlags := updAt s.portalFlags p fun _ => s.portalFlags[p] &&& ~~~(mask.setWidth 6) }
               reply := { result := .ok, data := [(s.portalFlags[p] &&& ~~~(mask.setWidth 6)).setWidth 8] } } := by
  unfold State.runClearFlags maskBeyond
  simp only [decide_eq_true_eq]
  rfl

end

/-- Settles O52. -/
theorem flagsAndCountersRead : Obligations.FlagsAndCountersRead := by
  intro h more s free room
  refine ⟨fun mask control => ⟨fun beyond => ?_, fun below => ?_⟩, fun p mask control => ⟨fun beyond => ?_, fun below => ?_⟩,
    fun i clear right => ?_⟩
  · exact exec_declined (q := .clearFlags .device mask) free room rfl rfl control (by decide)
      ((runClearFlags_device (s := s.placing h.dt h.src _) mask).trans (if_pos beyond))
  · exact exec_changed (q := .clearFlags .device mask) (f := fun u => { u with deviceFlags := s.deviceFlags &&& ~~~(mask.setWidth 5) })
      free room rfl rfl control (by decide) (fun _ _ => rfl)
      ((runClearFlags_device (s := s.placing h.dt h.src _) mask).trans (if_neg (Nat.not_le.mpr below))) (fun _ => rfl) fun _ => rfl
  · have shape : Request.ofOperands 10 (BitVec.ofNat 8 (p.val + 1) :: mask :: more) = .ok (.clearFlags (.portal p) mask) := by
      rw [ofOperands_clearFlags, FlagSet.ofByte_portal]
      rfl
    exact exec_declined free room rfl shape control (by decide)
      ((runClearFlags_portal (s := s.placing h.dt h.src _) p mask).trans (if_pos beyond))
  · have shape : Request.ofOperands 10 (BitVec.ofNat 8 (p.val + 1) :: mask :: more) = .ok (.clearFlags (.portal p) mask) := by
      rw [ofOperands_clearFlags, FlagSet.ofByte_portal]
      rfl
    exact exec_changed
      (f := fun u => { u with portalFlags := updAt s.portalFlags p fun _ => s.portalFlags[p] &&& ~~~(mask.setWidth 6) })
      free room rfl shape control (by decide) (fun _ _ => rfl)
      ((runClearFlags_portal (s := s.placing h.dt h.src _) p mask).trans (if_neg (Nat.not_le.mpr below))) (fun _ => rfl) fun _ => rfl
  · have shape : Request.ofOperands 11 (BitVec.ofNat 8 i.val :: clear :: more) = .ok (.readCounter i clear) := by
      rw [ofOperands_readCounter, rowOf_ofNat (by decide)]
      rfl
    refine ⟨fun zero => ?_, fun one => ?_, fun beyond => ?_⟩
    · subst zero
      exact exec_changed (f := id) free room rfl shape right (by decide) (fun _ _ => rfl) rfl (fun _ => rfl) fun _ => rfl
    · subst one
      exact exec_changed (f := fun u => { u with counters := updAt s.counters i fun c => { c with value := 0, sticky := false } })
        free room rfl shape right (by decide) (fun _ _ => rfl) rfl (fun _ => rfl) fun _ => rfl
    · refine exec_declined free room rfl shape right (by decide) ?_
      change State.runReadCounter _ _ _ = _
      unfold State.runReadCounter
      rw [boolOf_eq_none beyond]

end Sys2Proof.Machine

/-! SUPPORT. The statements about RESTART, the request slots and GET, settled (R144, R145, R148, R158, R168). -/

namespace Sys2Proof.Machine

set_option Elab.async false

/-! ### RESTART and the slots -/

section
variable {s : State}

/-- What GET reads does not see the slots. -/
theorem read_occupy (k : SlotIndex) (f : Frame) (t : Target) : (s.occupy k f).read t = s.read t := by
  cases k <;> cases t <;> rfl

theorem ofOperands_get_resolved {table row field : Byte} {t : Target} (more : List Byte) (found : Target.resolve table row field = .ok t) :
    Request.ofOperands 1 (table :: row :: field :: more) = .ok (.get t) := by
  rw [ofOperands_get, found]
  rfl

theorem handRequest_waits {f : Frame} {k : SlotIndex} (slot : s.freeSlot = some k) (pending : s.restartPending = true) :
    s.handRequest f = s.occupy k f := by
  unfold State.handRequest
  rw [slot]
  exact if_pos pending

theorem handRequest_executes {f : Frame} {k : SlotIndex} (slot : s.freeSlot = some k) (idle : s.restartPending = false) :
    s.handRequest f = (s.occupy k f).executeSlot k f := by
  unfold State.handRequest
  rw [slot]
  exact if_neg (by rw [idle]; decide)

/-- A GET executed with a full C queue leaves its response in its slot (R41). -/
theorem handRequest_get_full {k : SlotIndex} {src : Byte} {pl : List Byte} {t : Target} (slot : s.freeSlot = some k)
    (idle : s.restartPending = false) (full : s.cQueue.length = 16) (shape : Request.ofPayload pl = .ok (.get t))
    (control : s.holdsControl src = true) (plain : isRestart pl (s.runGet t).reply = false) :
    s.handRequest (s.requestFrame src pl)
      = (s.occupy k (s.requestFrame src pl)).setSlot k (some
          { request := s.requestFrame src pl, moment := s.now, number := s.placed
            response := some { kind := .response false, frame := s.responseFrame (s.requestFrame src pl) (s.runGet t).reply } }) := by
  have granted : (s.occupy k (s.requestFrame src pl)).grants src (.get t) = true := by
    change (State.holdsControl _ src || State.holdsMaintenance _ src) = true
    rw [Bool.or_eq_true]
    cases k <;> exact .inl control
  have run : (s.occupy k (s.requestFrame src pl)).runPayload src pl = { (s.runGet t) with state := s.occupy k (s.requestFrame src pl) } := by
    rw [runPayload_granted _ src pl (.get t) shape granted]
    change State.runGet _ t = _
    unfold State.runGet
    rw [read_occupy]
  have crowded : ¬ (s.occupy k (s.requestFrame src pl)).cQueue.length < 16 := by
    have same : (s.occupy k (s.requestFrame src pl)).cQueue = s.cQueue := by cases k <;> rfl
    rw [same, full]
    decide
  rw [handRequest_executes slot idle]
  unfold State.executeSlot
  rw [show (s.requestFrame src pl).src = src from rfl, show (s.requestFrame src pl).payload = pl from rfl, run]
  dsimp only
  rw [plain]
  refine (if_neg crowded).trans ?_
  cases k <;> rfl

theorem freeSlot_zero (free : s.slot0 = none) : s.freeSlot = some .zero := by
  unfold State.freeSlot
  rw [free]
  rfl

theorem freeSlot_one (taken : s.slot0.isSome = true) (rollover : s.device.rollover = true) (free : s.slot1 = none) :
    s.freeSlot = some .one := by
  unfold State.freeSlot
  rw [if_neg (by rw [Option.isNone_iff_eq_none]; exact Option.isSome_iff_ne_none.mp taken), rollover, free]
  rfl

theorem freeSlot_none (taken : s.slot0.isSome = true) (barred : s.device.rollover = false ∨ s.slot1.isSome = true) :
    s.freeSlot = none := by
  unfold State.freeSlot
  rw [if_neg (by rw [Option.isNone_iff_eq_none]; exact Option.isSome_iff_ne_none.mp taken), if_neg]
  rw [Bool.and_eq_true, Option.isNone_iff_eq_none]
  rintro ⟨rollover, free⟩
  rcases barred with off | full
  · rw [off] at rollover
    cases rollover
  · rw [free] at full
    cases full

end

/-- Settles O53: the RESTART, then one case per slot a request may find. -/
theorem restartAndSlots : Obligations.RestartAndSlots := by
  refine ⟨fun h s free room control => ?_, fun i dt src payload s live asks => ?_⟩
  · refine (exec_replied (h := h) (pl := [h.tag, 12]) rfl rfl free room
      (runPayload_granted (s.placing h.dt h.src [h.tag, 12]) h.src [h.tag, 12] .restart rfl control) rfl rfl).trans ?_
    obtain ⟨_, _, slot0⟩ := free
    rw [← slot0]
    rfl
  · have handed : exec i s = .next ((s.elapse dt).handRequest ((s.elapse dt).requestFrame src payload)) :=
      (exec_request asks s).trans (whenLive_of_live live fun s => (s.elapse dt).handRequest ((s.elapse dt).requestFrame src payload))
    rw [handed]
    refine ⟨fun pending free => ?_, fun pending taken rollover free => ?_, fun taken barred => ?_,
      fun h table row field more t read idle found control full => ?_⟩
    · rw [handRequest_waits (s := s.elapse dt) (freeSlot_zero free) pending]
      rfl
    · rw [handRequest_waits (s := s.elapse dt) (freeSlot_one taken rollover free) pending]
      rfl
    · unfold State.handRequest
      rw [freeSlot_none (s := s.elapse dt) taken barred]
      rfl
    · subst read
      obtain ⟨rfl, rfl, rfl⟩ : h.dt = dt ∧ h.src = src ∧ h.tag :: 1 :: table :: row :: field :: more = payload := by
        simpa only [requestOf, Option.some.injEq, Prod.mk.injEq] using asks
      have shape : Request.ofPayload (h.tag :: 1 :: table :: row :: field :: more) = .ok (.get t) :=
        ofOperands_get_resolved more found
      refine ⟨fun free => ?_, fun taken rollover free => ?_⟩
      · rw [handRequest_get_full (s := s.elapse h.dt) (freeSlot_zero free) idle full shape control rfl]
        rfl
      · rw [handRequest_get_full (s := s.elapse h.dt) (freeSlot_one taken rollover free) idle full shape control rfl]
        rfl

end Sys2Proof.Machine

/-! SUPPORT. The statement about GET, settled: the value of every field (R148, R168). -/

namespace Sys2Proof.Machine

set_option Elab.async false

/-! ### The answer to a GET -/

theorem exec_get {s : State} {h : ReqHead} {table row field : Byte} {t : Target} (more : List Byte) (free : s.engineFree)
    (room : s.roomInC) (right : s.holdsControl h.src = true ∨ s.holdsMaintenance h.src = true)
    (found : Target.resolve table row field = .ok t) :
    exec (.get h (table :: row :: field :: more)) s = .next (s.answered h .ok (wordBytes ((s.elapse h.dt).read t))) := by
  have granted : s.grants h.src (.get t) = true := Bool.or_eq_true_iff.mpr right
  refine exec_changed (f := id) free room rfl (ofOperands_get_resolved more found) granted (by decide) (fun _ _ => rfl) ?_ (fun _ => rfl)
    fun _ => rfl
  change State.runGet _ t = _
  unfold State.runGet
  rw [show (s.placing h.dt h.src (h.tag :: 1 :: table :: row :: field :: more)).read t = (s.elapse h.dt).read t from
    read_occupy _ _ _]
  rfl

/-! ### Values as the statement writes them (R168) -/

theorem optWord_eq (o : Option Nat) : (o.map fun n => BitVec.ofNat 32 n).getD (-1 : Word) = optWord o := by
  cases o <;> rfl

theorem edgeWord_eq (o : Option (BitVec 48)) : (o.map fun t => t.setWidth 32).getD (0 : Word) = edgeWord o := by
  cases o <;> rfl

theorem sampleWord_eq (o : Option Sample) :
    (o.map fun x => BitVec.ofNat 32 (x.luminance + (if x.saturated then 2 ^ 16 else 0)
      + match x.origin with
        | .entry i => i.val * 2 ^ 17
        | .pulse n => n.val * 2 ^ 17 + 2 ^ 21)).getD (-1 : Word) = sampleWord o := by
  cases o with
  | none => rfl
  | some x =>
    obtain ⟨luminance, saturated, origin⟩ := x
    refine congrArg (BitVec.ofNat 32) ?_
    cases saturated <;> cases origin <;> simp <;> omega

/-- The kind bit of an override (Table 11-12). -/
theorem portalOverride_eq (o : Option PortalOverride) :
    BitVec.ofNat 32 ((o.map fun o => o.level + (if o.kind = .manual then 2 ^ 16 else 2 ^ 17) + 2 ^ 22).getD 0)
      = PortalOverride.word o := by
  cases o with
  | none => rfl
  | some o =>
    obtain ⟨kind, level⟩ := o
    cases kind <;> simp [PortalOverride.word, overrideWord, natWord]

theorem zoneOverride_eq (o : Option ZoneOverride) :
    BitVec.ofNat 32 ((o.map fun o => o.level + (if o.kind = .manual then 2 ^ 16 else 2 ^ 17)
        + if o.scope = .portal then 2 ^ 22 else 0).getD 0)
      = ZoneOverride.word o := by
  cases o with
  | none => rfl
  | some o =>
    obtain ⟨kind, level, scope⟩ := o
    cases kind <;> cases scope <;> simp [ZoneOverride.word, overrideWord, natWord]

theorem onWord_eq (z : Zone) :
    BitVec.ofNat 32 ((if z.onStages[(0 : Fin 4)] then 2 ^ (0 : Fin 4).val else 0) + (if z.onStages[(1 : Fin 4)] then 2 ^ (1 : Fin 4).val else 0)
        + (if z.onStages[(2 : Fin 4)] then 2 ^ (2 : Fin 4).val else 0) + (if z.onStages[(3 : Fin 4)] then 2 ^ (3 : Fin 4).val else 0)
        + if z.onReserve then 16 else 0)
      = z.onWord := by
  unfold Zone.onWord natWord
  congr 2
  simp [List.finRange, Nat.add_assoc]

theorem ownAddress_word (s : State) : BitVec.ofNat 32 (184 + s.addrPins.toNat) = s.ownAddress.setWidth 32 := by
  have small := s.addrPins.isLt
  refine BitVec.eq_of_toNat_eq ?_
  unfold State.ownAddress
  rw [BitVec.toNat_setWidth, BitVec.toNat_ofNat, BitVec.toNat_ofNat]
  omega

theorem refreshAge_seconds (s : State) (g : Fin 48) :
    s.refreshAge g / secTicks = min 65535 ((s.now - s.groups[g].refreshFrom) / secTicks) := by
  have whole : ∀ n : Nat, min (65535 * 72000000) n / 72000000 = min 65535 (n / 72000000) := by omega
  exact whole _

theorem modeWord_eq (m : Mode) : BitVec.ofNat 32 (if m = .running then 1 else 0) = natWord m.code := by
  cases m <;> rfl

theorem rescanWord_eq (r : Rescan) : BitVec.ofNat 32 (if r = .none then 0 else 1) = boolWord (r != .none) := by
  cases r <;> rfl

theorem ownerWord_eq (o : Owner) : BitVec.ofNat 32 (if o = .line then 1 else 0) = natWord o.code := by
  cases o <;> rfl

/-! ### One list of values per table -/

theorem toNat_ofNat_byte {k : Nat} (small : k < 256) : (BitVec.ofNat 8 k).toNat = k := by
  rw [BitVec.toNat_ofNat]
  exact Nat.mod_eq_of_lt small

theorem locate_of_found {ρ φ : Type} {row : Option ρ} {field : ρ → Option φ} {mk : ρ → φ → Target} {r : ρ} {f : φ}
    (found : row = some r) (named : field r = some f) : locate row field mk = .ok (mk r f) := by
  rw [found]
  unfold locate
  dsimp only
  rw [named]

section
variable {k : Nat} (small : k < 256)
include small

theorem resolve_device {f : DeviceField} (named : DeviceField.ofId k = some f) :
    Target.resolve 0 0 (BitVec.ofNat 8 k) = .ok (.device f) := by
  unfold Target.resolve
  rw [toNat_ofNat_byte small]
  exact locate_of_found (rowOf_ofNat (n := 1) (by decide) 0) named

theorem resolve_accept (i : Fin 16) {f : AcceptField} (named : AcceptField.ofId k = some f) :
    Target.resolve 1 (BitVec.ofNat 8 i.val) (BitVec.ofNat 8 k) = .ok (.accept i f) := by
  unfold Target.resolve
  rw [toNat_ofNat_byte small]
  exact locate_of_found (rowOf_ofNat (by decide) i) named

theorem resolve_sensor (i : Fin 8) {f : SensorField} (named : SensorField.ofId k = some f) :
    Target.resolve 2 (BitVec.ofNat 8 i.val) (BitVec.ofNat 8 k) = .ok (.sensor i f) := by
  unfold Target.resolve
  rw [toNat_ofNat_byte small]
  exact locate_of_found (rowOf_ofNat (by decide) i) named

theorem resolve_pulse (n : Fin 4) {f : PulseField} (named : PulseField.ofId k = some f) :
    Target.resolve 3 (BitVec.ofNat 8 n.val) (BitVec.ofNat 8 k) = .ok (.pulse n f) := by
  unfold Target.resolve
  rw [toNat_ofNat_byte small]
  exact locate_of_found (rowOf_ofNat (by decide) n) named

theorem resolve_portal (p : Fin 4) {f : PortalField} (named : PortalField.ofId k = some f) :
    Target.resolve 4 (BitVec.ofNat 8 p.val) (BitVec.ofNat 8 k) = .ok (.portal p f) := by
  unfold Target.resolve
  rw [toNat_ofNat_byte small]
  exact locate_of_found (rowOf_ofNat (by decide) p) named

theorem resolve_zone (z : Fin 32) {f : ZoneField} (named : ZoneField.ofId k = some f) :
    Target.resolve 6 (BitVec.ofNat 8 z.val) (BitVec.ofNat 8 k) = .ok (.zone z f) := by
  unfold Target.resolve
  rw [toNat_ofNat_byte small]
  exact locate_of_found (rowOf_ofNat (by decide) z) named

theorem resolve_group (g : Fin 48) {f : GroupField} (named : GroupField.ofId k = some f) :
    Target.resolve 7 (BitVec.ofNat 8 g.val) (BitVec.ofNat 8 k) = .ok (.group g f) := by
  unfold Target.resolve
  rw [toNat_ofNat_byte small]
  exact locate_of_found (rowOf_ofNat (by decide) g) named

theorem resolve_driver (d : Fin 160) {f : DriverField} (named : DriverField.ofId k = some f) :
    Target.resolve 8 (BitVec.ofNat 8 d.val) (BitVec.ofNat 8 k) = .ok (.driver d f) := by
  unfold Target.resolve
  rw [toNat_ofNat_byte small]
  exact locate_of_found (rowOf_ofNat (by decide) d) named

theorem resolve_counter (i : Fin 8) {f : CounterField} (named : CounterField.ofId k = some f) :
    Target.resolve 9 (BitVec.ofNat 8 i.val) (BitVec.ofNat 8 k) = .ok (.counter i f) := by
  unfold Target.resolve
  rw [toNat_ofNat_byte small]
  exact locate_of_found (rowOf_ofNat (by decide) i) named

theorem resolve_flags {row : Byte} {set : FlagSet} (found : FlagSet.ofByte row = some set) {f : FlagsField}
    (named : FlagsField.ofId set k = some f) : Target.resolve 10 row (BitVec.ofNat 8 k) = .ok (.flags set f) := by
  unfold Target.resolve
  rw [toNat_ofNat_byte small]
  exact locate_of_found found named

end

theorem resolve_kTable (i : Fin 128) : Target.resolve 5 (BitVec.ofNat 8 i.val) 0 = .ok (.kTable i) := by
  unfold Target.resolve
  exact locate_of_found (rowOf_ofNat (by decide) i) rfl

/-- A list of values stands for the fields of a row if field `k` reads the value at place `k`; a place that holds no value says nothing. -/
def State.lists (s : State) (values : List (Option Word)) (target : Nat → Option Target) : Prop :=
  ∀ k, (below : k < values.length) → values[k] = none ∨ ∃ t, target k = some t ∧ values[k] = some (s.read t)

theorem exec_get_listed {s : State} {h : ReqHead} {table row : Byte} {values : List (Option Word)} {target : Nat → Option Target}
    (more : List Byte) (free : s.engineFree) (room : s.roomInC)
    (right : s.holdsControl h.src = true ∨ s.holdsMaintenance h.src = true) (few : values.length ≤ 256)
    (resolves : ∀ k t, k < 256 → target k = some t → Target.resolve table row (BitVec.ofNat 8 k) = .ok t)
    (lists : (s.elapse h.dt).lists values target) (k : Nat) (v : Word) (here : values[k]? = some (some v)) :
    exec (.get h (table :: row :: BitVec.ofNat 8 k :: more)) s = .next (s.answered h .ok (wordBytes v)) := by
  obtain ⟨below, value⟩ := List.getElem?_eq_some_iff.mp here
  rcases lists k below with none | ⟨t, named, reads⟩
  · cases value.symm.trans none
  · obtain rfl := Option.some.inj (value.symm.trans reads)
    exact exec_get more free room right (resolves k t (Nat.lt_of_lt_of_le below few) named)

/-- A timer reads the milliseconds left, a part of one rounded either way (R168, log 8). -/
theorem exec_get_timer {s : State} {h : ReqHead} {table row field : Byte} {t : Target} {timer : Option Time} (more : List Byte)
    (free : s.engineFree) (room : s.roomInC) (right : s.holdsControl h.src = true ∨ s.holdsMaintenance h.src = true)
    (found : Target.resolve table row field = .ok t) (reads : (s.elapse h.dt).read t = (s.elapse h.dt).remainingMs timer) :
    (timer = none → exec (.get h (table :: row :: field :: more)) s = .next (s.answered h .ok (wordBytes 0)))
      ∧ ∀ e, timer = some e →
        exec (.get h (table :: row :: field :: more)) s
            = .next (s.answered h .ok (wordBytes (BitVec.ofNat 32 ((e - (s.now + h.dt)) / msTicks))))
          ∨ ((e - (s.now + h.dt)) % msTicks ≠ 0
            ∧ exec (.get h (table :: row :: field :: more)) s
              = .next (s.answered h .ok (wordBytes (BitVec.ofNat 32 ((e - (s.now + h.dt)) / msTicks + 1))))) := by
  have asked := exec_get (h := h) more free room right found
  rw [reads] at asked
  refine ⟨?_, ?_⟩
  · rintro rfl
    exact asked
  · rintro e rfl
    have value : (s.elapse h.dt).remainingMs (some e)
        = natWord ((e - (s.now + h.dt)) / msTicks
          + if (e - (s.now + h.dt)) % msTicks ≠ 0 ∧ Config.remainingRoundsUp (e - (s.now + h.dt)) then 1 else 0) := rfl
    rw [value] at asked
    split at asked
    · next up => exact .inr ⟨up.1, asked⟩
    · exact .inl asked

/-- Settles O38: each table's values stand in the order of its field identifiers, so the arm of `k` is the one of field `k`. -/
theorem getAnswersValue : Obligations.GetAnswersValue := by
  intro h more s free room right
  refine ⟨fun table row field t => exec_get more free room right, ?_, ?_, ?_, ?_, ?_, ?_, ?_, ?_, ?_, ?_, ?_, ?_⟩
  · refine exec_get_listed (target := fun k => (DeviceField.ofId k).map .device) more free room right (by simp)
      (fun k t small named => ?_) fun k below => ?_
    · obtain ⟨f, field, rfl⟩ := Option.map_eq_some_iff.mp named
      exact resolve_device small field
    · match k, below with
      | 0, _ | 1, _ | 4, _ | 5, _ | 6, _ | 7, _ | 8, _ | 9, _ | 10, _ | 11, _ | 12, _ | 13, _ | 14, _ | 15, _ | 16, _
      | 18, _ => exact .inr ⟨_, rfl, rfl⟩
      | 2, _ => exact .inr ⟨_, rfl, congrArg some (ownAddress_word s)⟩
      | 3, _ => exact .inr ⟨_, rfl, congrArg some (modeWord_eq s.mode)⟩
      | 17, _ => exact .inr ⟨_, rfl, congrArg some (rescanWord_eq s.rescan)⟩
      | k + 19, beyond => exact absurd beyond (Nat.not_lt.mpr (Nat.le_add_left 19 k))
  · intro i
    refine exec_get_listed (target := fun k => (AcceptField.ofId k).map (.accept i)) more free room right (by simp)
      (fun k t small named => ?_) fun k below => ?_
    · obtain ⟨f, field, rfl⟩ := Option.map_eq_some_iff.mp named
      exact resolve_accept small i field
    · match k, below with
      | 0, _ | 1, _ | 2, _ | 3, _ | 4, _ | 5, _ | 6, _ | 7, _ => exact .inr ⟨_, rfl, rfl⟩
      | k + 8, beyond => exact absurd beyond (Nat.not_lt.mpr (Nat.le_add_left 8 k))
  · refine fun i => ⟨?_, exec_get_timer more free room right (resolve_sensor (k := 15) (by decide) i rfl) rfl⟩
    refine exec_get_listed (target := fun k => (SensorField.ofId k).map (.sensor i)) more free room right (by simp)
      (fun k t small named => ?_) fun k below => ?_
    · obtain ⟨f, field, rfl⟩ := Option.map_eq_some_iff.mp named
      exact resolve_sensor small i field
    · match k, below with
      | 0, _ | 1, _ | 2, _ | 3, _ | 4, _ | 5, _ | 6, _ => exact .inr ⟨_, rfl, rfl⟩
      | 7, _ => exact .inr ⟨_, rfl, congrArg some (optWord_eq _)⟩
      | 8, _ | 9, _ | 10, _ | 11, _ | 12, _ | 13, _ | 14, _ => exact .inr ⟨_, rfl, congrArg some (sampleWord_eq _)⟩
      | k + 15, beyond => exact absurd beyond (Nat.not_lt.mpr (Nat.le_add_left 15 k))
  · intro n
    refine exec_get_listed (target := fun k => (PulseField.ofId k).map (.pulse n)) more free room right (by simp)
      (fun k t small named => ?_) fun k below => ?_
    · obtain ⟨f, field, rfl⟩ := Option.map_eq_some_iff.mp named
      exact resolve_pulse small n field
    · match k, below with
      | 0, _ | 1, _ | 2, _ | 3, _ | 4, _ | 6, _ => exact .inr ⟨_, rfl, rfl⟩
      | 5, _ | 7, _ => exact .inr ⟨_, rfl, congrArg some (edgeWord_eq _)⟩
      | 8, _ => exact .inr ⟨_, rfl, congrArg some (sampleWord_eq _)⟩
      | k + 9, beyond => exact absurd beyond (Nat.not_lt.mpr (Nat.le_add_left 9 k))
  · refine fun p => ⟨?_, exec_get_timer more free room right (resolve_portal (k := 23) (by decide) p rfl) rfl⟩
    refine exec_get_listed (target := fun k => (PortalField.ofId k).map (.portal p)) more free room right (by simp)
      (fun k t small named => ?_) fun k below => ?_
    · obtain ⟨f, field, rfl⟩ := Option.map_eq_some_iff.mp named
      exact resolve_portal small p field
    · match k, below with
      | 0, _ | 1, _ | 2, _ | 3, _ | 4, _ | 5, _ | 6, _ | 7, _ | 8, _ | 9, _ | 10, _ | 11, _ | 12, _ | 13, _ | 14, _ | 15, _
      | 16, _ | 17, _ | 18, _ | 19, _ | 24, _ => exact .inr ⟨_, rfl, rfl⟩
      | 20, _ | 21, _ | 22, _ => exact .inr ⟨_, rfl, congrArg some (optWord_eq _)⟩
      | 23, _ => exact .inl rfl
      | 25, _ => exact .inr ⟨_, rfl, congrArg some (portalOverride_eq _)⟩
      | k + 26, beyond => exact absurd beyond (Nat.not_lt.mpr (Nat.le_add_left 26 k))
  · intro i
    refine exec_get_listed (target := fun k => if k = 0 then some (.kTable i) else none) more free room right (by simp)
      (fun k t small named => ?_) fun k below => ?_
    · obtain ⟨rfl, rfl⟩ : k = 0 ∧ .kTable i = t := by simpa using named
      exact resolve_kTable i
    · obtain rfl : k = 0 := by simpa using below
      exact .inr ⟨_, rfl, rfl⟩
  · intro z
    refine exec_get_listed (target := fun k => (ZoneField.ofId k).map (.zone z)) more free room right (by simp)
      (fun k t small named => ?_) fun k below => ?_
    · obtain ⟨f, field, rfl⟩ := Option.map_eq_some_iff.mp named
      exact resolve_zone small z field
    · match k, below with
      | 0, _ | 1, _ | 2, _ | 3, _ | 4, _ | 5, _ | 6, _ | 9, _ | 11, _ | 12, _ | 14, _ => exact .inr ⟨_, rfl, rfl⟩
      | 7, _ | 10, _ => exact .inr ⟨_, rfl, congrArg some (optWord_eq _)⟩
      | 8, _ => exact .inr ⟨_, rfl, congrArg some (onWord_eq _)⟩
      | 13, _ => exact .inr ⟨_, rfl, congrArg some (zoneOverride_eq _)⟩
      | k + 15, beyond => exact absurd beyond (Nat.not_lt.mpr (Nat.le_add_left 15 k))
  · intro g
    refine exec_get_listed (target := fun k => (GroupField.ofId k).map (.group g)) more free room right (by simp)
      (fun k t small named => ?_) fun k below => ?_
    · obtain ⟨f, field, rfl⟩ := Option.map_eq_some_iff.mp named
      exact resolve_group small g field
    · match k, below with
      | 0, _ | 1, _ | 2, _ | 3, _ | 5, _ | 6, _ | 7, _ | 8, _ | 9, _ | 10, _ | 12, _ | 13, _ | 14, _ => exact .inr ⟨_, rfl, rfl⟩
      | 4, _ => exact .inr ⟨_, rfl, congrArg some (ownerWord_eq _)⟩
      | 11, _ => exact .inr ⟨_, rfl, congrArg some ((congrArg natWord (refreshAge_seconds (s.elapse h.dt) g)).symm)⟩
      | 15, _ | 16, _ => exact .inr ⟨_, rfl, congrArg some (optWord_eq _)⟩
      | k + 17, beyond => exact absurd beyond (Nat.not_lt.mpr (Nat.le_add_left 17 k))
  · intro d
    refine exec_get_listed (target := fun k => (DriverField.ofId k).map (.driver d)) more free room right (by simp)
      (fun k t small named => ?_) fun k below => ?_
    · obtain ⟨f, field, rfl⟩ := Option.map_eq_some_iff.mp named
      exact resolve_driver small d field
    · match k, below with
      | 0, _ | 1, _ | 2, _ | 3, _ | 4, _ => exact .inr ⟨_, rfl, rfl⟩
      | 5, _ | 6, _ => exact .inr ⟨_, rfl, congrArg some (optWord_eq _)⟩
      | k + 7, beyond => exact absurd beyond (Nat.not_lt.mpr (Nat.le_add_left 7 k))
  · intro i
    refine exec_get_listed (target := fun k => (CounterField.ofId k).map (.counter i)) more free room right (by simp)
      (fun k t small named => ?_) fun k below => ?_
    · obtain ⟨f, field, rfl⟩ := Option.map_eq_some_iff.mp named
      exact resolve_counter small i field
    · match k, below with
      | 0, _ | 1, _ | 2, _ | 3, _ => exact .inr ⟨_, rfl, rfl⟩
      | k + 4, beyond => exact absurd beyond (Nat.not_lt.mpr (Nat.le_add_left 4 k))
  · refine exec_get_listed (row := 0) (target := fun k => (FlagsField.ofId .device k).map (.flags .device)) more free room right (by simp)
      (fun k t small named => ?_) fun k below => ?_
    · obtain ⟨f, field, rfl⟩ := Option.map_eq_some_iff.mp named
      exact resolve_flags small rfl field
    · match k, below with
      | 0, _ | 1, _ | 2, _ | 3, _ | 4, _ | 8, _ => exact .inr ⟨_, rfl, rfl⟩
      | 5, _ | 6, _ | 7, _ => exact .inl rfl
      | k + 9, beyond => exact absurd beyond (Nat.not_lt.mpr (Nat.le_add_left 9 k))
  · intro p
    refine exec_get_listed (target := fun k => (FlagsField.ofId (.portal p) k).map (.flags (.portal p))) more free room right (by simp)
      (fun k t small named => ?_) fun k below => ?_
    · obtain ⟨f, field, rfl⟩ := Option.map_eq_some_iff.mp named
      exact resolve_flags small (FlagSet.ofByte_portal p) field
    · match k, below with
      | 0, _ | 1, _ | 2, _ | 3, _ | 4, _ | 5, _ | 8, _ => exact .inr ⟨_, rfl, rfl⟩
      | 6, _ | 7, _ => exact .inl rfl
      | k + 9, beyond => exact absurd beyond (Nat.not_lt.mpr (Nat.le_add_left 9 k))

end Sys2Proof.Machine

/-! SUPPORT. What SET asks of a value and of the mode, said once; the statement about the refusals of SET, settled (R149, R150). -/

namespace Sys2Proof.Machine

set_option Elab.async false

/-! ### Codes and ranges -/

theorem isSome_inRange {lo hi v : Nat} : (inRange lo hi v).isSome = true ↔ within lo hi v := by
  unfold inRange within
  split <;> simp_all

theorem inRange_of_within {lo hi v : Nat} (inside : within lo hi v) : inRange lo hi v = some v := if_pos inside

theorem isSome_boolOf {v : Nat} : (boolOf v).isSome = true ↔ v ≤ 1 := by
  match v with
  | 0 | 1 => simp [boolOf]
  | n + 2 =>
    rw [boolOf_eq_none (Nat.le_add_left 2 n)]
    simp

theorem isSome_finOf {n v : Nat} : (finOf n v).isSome = true ↔ v < n := by
  unfold finOf
  split <;> simp_all

theorem isSome_optFinOf {n v : Nat} : (optFinOf n v).isSome = true ↔ v < n ∨ v = 255 := by
  unfold optFinOf
  split
  · next none => simp [none]
  · next some =>
    rw [Option.isSome_map, isSome_finOf]
    exact ⟨.inl, fun either => either.resolve_right some⟩

theorem isSome_portSelector {v : Nat} : (PortSelector.ofCode v).isSome = true ↔ v ≤ 2 := by
  match v with
  | 0 | 1 | 2 => simp [PortSelector.ofCode]
  | n + 3 =>
    rw [show PortSelector.ofCode (n + 3) = none from rfl]
    simp

theorem isSome_action {v : Nat} : (Action.ofCode v).isSome = true ↔ v ≤ 3 := by
  match v with
  | 0 | 1 | 2 | 3 => simp [Action.ofCode]
  | n + 4 =>
    rw [show Action.ofCode (n + 4) = none from rfl]
    simp

theorem isSome_owner {v : Nat} : (Owner.ofCode v).isSome = true ↔ v ≤ 1 := by
  match v with
  | 0 | 1 => simp [Owner.ofCode]
  | n + 2 =>
    rw [show Owner.ofCode (n + 2) = none from rfl]
    simp

theorem isSome_source {v : Nat} : (Source.ofCode v).isSome = true ↔ v ≤ 4 := by
  unfold Source.ofCode
  split
  · next line => simp [line]
  · next pulse =>
    rw [Option.isSome_map, isSome_finOf]
    omega

theorem isSome_counterScope {v : Nat} : (CounterScope.ofCode v).isSome = true ↔ v ≤ 4 := by
  unfold CounterScope.ofCode
  split
  · next all => simp [all]
  · next portal =>
    rw [Option.isSome_map, isSome_finOf]
    omega

/-! ### Stage lists (R92) -/

theorem mapM_finOf_eq_some {n : Nat} {l : List Nat} {x : List (Fin n)} : l.mapM (finOf n) = some x ↔ l = x.map (·.val) := by
  induction l generalizing x with
  | nil =>
    rw [List.mapM_nil]
    cases x <;> simp
  | cons v l ih =>
    rw [List.mapM_cons]
    by_cases below : v < n
    · rw [finOf_of_lt below]
      cases x with
      | nil => simp [Option.bind_eq_some_iff]
      | cons y x =>
        simp only [Option.bind_eq_bind, Option.bind_some, Option.bind_eq_some_iff, Option.pure_def, Option.some.injEq,
          List.cons.injEq, List.map_cons]
        constructor
        · rintro ⟨tail, found, rfl, rfl⟩
          exact ⟨rfl, ih.mp found⟩
        · rintro ⟨rfl, rest⟩
          exact ⟨x, ih.mpr rest, rfl, rfl⟩
    · rw [finOf_of_not_lt below]
      cases x with
      | nil => simp
      | cons y x =>
        simp only [Option.bind_eq_bind, Option.bind_none, reduceCtorEq, List.map_cons, List.cons.injEq, false_iff, not_and]
        rintro rfl
        exact absurd y.isLt below

/-- A stage list and the four bytes that carry it (Table 11-12). -/
theorem stageListOf_eq_some {v : Word} {l : List (Fin 48)} : stageListOf v = some l
    ↔ l.length ≤ 4 ∧ wordBytes v = l.map (fun g => BitVec.ofNat 8 g.val) ++ List.replicate (4 - l.length) 255 := by
  have values : l.map (·.val) ++ List.replicate (4 - l.length) 255
      = (l.map (fun g : Fin 48 => BitVec.ofNat 8 g.val) ++ List.replicate (4 - l.length) 255).map BitVec.toNat := by
    rw [List.map_append, List.map_map, List.map_replicate]
    refine congrArg (· ++ _) (List.map_congr_left fun g _ => ?_)
    exact (toNat_ofNat_byte (k := g.val) (by omega)).symm
  have small : ∀ n ∈ l.map (·.val), (n != 255) = true := by
    intro n member
    obtain ⟨g, -, rfl⟩ := List.mem_map.mp member
    exact bne_iff_ne.mpr (show (g.val : Nat) ≠ 255 by omega)
  have length : ((wordBytes v).map BitVec.toNat).length = 4 := rfl
  have toNat_injective : Function.Injective (List.map (BitVec.toNat (w := 8))) :=
    fun _ _ => (List.map_inj_right fun _ _ => BitVec.eq_of_toNat_eq).mp
  unfold stageListOf
  dsimp only
  constructor
  · intro found
    split at found
    · next tail =>
      have listed := mapM_finOf_eq_some.mp found
      obtain ⟨rest, split⟩ := List.takeWhile_prefix (l := (wordBytes v).map fun x => x.toNat) (fun n : Nat => n != 255)
      have behind : ((wordBytes v).map fun x => x.toNat).drop (((wordBytes v).map fun x => x.toNat).takeWhile (· != 255)).length = rest :=
        (congrArg (List.drop _) split.symm).trans List.drop_left
      rw [behind] at tail
      rw [listed] at split
      have total : l.length + rest.length = 4 := by
        rw [← length, ← split, List.length_append, List.length_map]
      have filled : rest = List.replicate (4 - l.length) 255 := by
        refine List.eq_replicate_iff.mpr ⟨by omega, fun n member => ?_⟩
        exact beq_iff_eq.mp (List.all_eq_true.mp tail n member)
      refine ⟨by omega, toNat_injective ?_⟩
      rw [← values, ← filled]
      exact split.symm
    · cases found
  · rintro ⟨short, bytes⟩
    rw [show (wordBytes v).map BitVec.toNat = l.map (·.val) ++ List.replicate (4 - l.length) 255 by rw [bytes, ← values]]
    have listed : (l.map (fun g : Fin 48 => g.val) ++ List.replicate (4 - l.length) 255).takeWhile (· != 255) = l.map (·.val) := by
      rw [List.takeWhile_append_of_pos small, List.takeWhile_replicate]
      simp
    rw [listed, List.drop_left, if_pos (by simp)]
    exact mapM_finOf_eq_some.mpr rfl

/-! ### The tests of SET -/

theorem ofOperands_set {table row field : Byte} {t : Target} (v : Word) (more : List Byte) (found : Target.resolve table row field = .ok t) :
    Request.ofOperands 2 ([table, row, field] ++ wordBytes v ++ more) = .ok (.set t v) := by
  have joined := wordOfBytes_wordBytes v
  change (Target.resolve table row field).map _ = _
  rw [found]
  exact congrArg (fun w => Except.ok (Request.set t w)) joined

theorem allowsSet_iff {s : State} {t : Target} {n : Nat} :
    s.allowsSet t n = true ↔ s.mode = .transparent ∨ (t.restriction ≠ .owner
      ∧ (t.restriction = .structural → ∀ p ∈ s.concerned t n, s.regulating p = false)) := by
  unfold State.allowsSet
  cases s.mode <;> cases t.restriction <;> simp

/-- What a SET writes does not see the slots. -/
theorem write_occupy (s : State) (k : SlotIndex) (f : Frame) (t : Target) (v : Word) :
    (s.occupy k f).write t v = (s.write t v).map fun after => after.occupy k f := by
  cases k <;> cases t <;> simp only [State.write, Option.map_map, Option.map_none] <;> rfl

theorem lawBroken_occupy (s : State) (k : SlotIndex) (f : Frame) : (s.occupy k f).lawBroken = s.lawBroken := by
  cases k <;> exact lawBroken_congr (fun _ => ⟨rfl, rfl⟩) (fun _ => rfl) fun _ => ⟨rfl, rfl, rfl⟩

section
variable {s : State} {t : Target} {v : Word}

theorem runSet_of_unwritable (fixed : t.writable = false) : s.runSet t v = s.refuse .badField := by
  unfold State.runSet
  rw [fixed]
  rfl

variable (writable : t.writable = true)
include writable

theorem runSet_of_barred (barred : ¬ s.allowsSet t v.toNat = true) : s.runSet t v = s.refuse .wrongState := by
  unfold State.runSet
  rw [writable, Bool.eq_false_iff.mpr barred]
  rfl

variable (allowed : s.allowsSet t v.toNat = true)
include allowed

theorem runSet_of_badValue (bad : s.write t v = none) : s.runSet t v = s.refuse .badValue := by
  unfold State.runSet
  rw [writable, allowed, bad]
  rfl

theorem runSet_of_broken {after : State} {f : Failure} (written : s.write t v = some after) (broken : after.setBreaksLaw t = some f) :
    s.runSet t v = s.refuseCheck f := by
  unfold State.runSet
  rw [writable, allowed, written]
  dsimp only
  rw [broken]
  rfl

end

/-! ### Which portals a SET concerns (Table 9-5) -/

theorem mem_portalsOfGroup {s : State} {g : Fin 48} {p : Fin 4} :
    p ∈ s.portalsOfGroup g ↔ ∃ z : Fin 32, s.zones[z].used = true ∧ g ∈ s.zones[z].standing ∧ s.zones[z].portal = p := by
  simp only [State.portalsOfGroup, List.mem_map, mem_zonesOfGroup, and_assoc]

theorem mem_finOf {n v : Nat} {x : Fin n} : x ∈ (finOf n v).toList ↔ x.val = v := by
  unfold finOf
  split
  · next below =>
    rw [Option.toList_some, List.mem_singleton, Fin.ext_iff]
  · next above =>
    simp only [Option.toList_none, List.not_mem_nil, false_iff]
    omega

theorem concerned_zone {s : State} {z : Fin 32} {f : ZoneField} {v : Nat} {p : Fin 4} :
    p ∈ s.concerned (.zone z f) v ↔ p = s.zones[z].portal ∨ (f = .portal ∧ p.val = v) := by
  by_cases portal : f = .portal
  · subst portal
    simp only [State.concerned, List.mem_cons, mem_finOf, true_and]
  · have one : s.concerned (.zone z f) v = [s.zones[z].portal] := by
      cases f with
      | portal => exact absurd rfl portal
      | _ => rfl
    simp [one, portal]

theorem concerned_driver {s : State} {d : Fin 160} {f : DriverField} {v : Nat} {p : Fin 4} :
    p ∈ s.concerned (.driver d f) v ↔ p ∈ s.portalsOfGroup s.drivers[d].group
      ∨ (f = .group ∧ ∃ g : Fin 48, g.val = v ∧ p ∈ s.portalsOfGroup g) := by
  by_cases group : f = .group
  · subst group
    simp only [State.concerned, List.mem_append, List.mem_flatMap, mem_finOf, true_and]
  · have one : s.concerned (.driver d f) v = s.portalsOfGroup s.drivers[d].group := by
      cases f with
      | group => exact absurd rfl group
      | _ => rfl
    simp [one, group]

/-! ### Which fields SET writes (Table 11-10) -/

/-- The fields a SET writes. -/
theorem writable_iff (t : Target) : t.writable = true ↔ match t with
    | .device f => f ∉ [.familyCode, .revision, .ownAddress, .mode, .restartPending, .cursor, .rescanInProgress, .rescanPosition]
    | .accept _ f => f ≠ .hits
    | .sensor _ f => f = .used ∨ f = .source ∨ f = .staleTimeout
    | .pulse _ f => f = .enable ∨ f = .gateLength ∨ f = .scale
    | .portal _ f => f ∉ [.state, .speed, .traffic, .la, .lastGoodLa, .lth, .holdTimer, .disagree, .override]
    | .kTable _ => True
    | .zone _ f => f ∈ [.used, .portal, .position, .stageList, .reserve, .ratio, .hysteresis]
    | .group _ f => f ∈ [.used, .groupAddress, .rated, .dmin, .owner, .depreciation, .mfFloor, .burnHours]
    | .driver _ f => f = .used ∨ f = .lineAddress ∨ f = .group
    | .counter _ f => f = .select ∨ f = .scope
    | .flags _ _ => False := by
  cases t with
  | kTable i => simp [Target.writable]
  | flags set f => simp [Target.writable]
  | device f | accept i f | sensor i f | pulse i f | portal i f | zone i f | group i f | driver i f | counter i f =>
    cases f <;> simp [Target.writable]

theorem restriction_owner_iff (t : Target) :
    t.restriction = .owner ↔ t = .device .controlOwner ∨ t = .device .maintenanceOwner := by
  cases t with
  | kTable i => simp [Target.restriction]
  | flags set f => simp [Target.restriction]
  | device f | accept i f | sensor i f | pulse i f | portal i f | zone i f | group i f | driver i f | counter i f =>
    cases f <;> simp [Target.restriction]

theorem restriction_structural_iff (t : Target) : t.restriction = .structural ↔ match t with
    | .sensor _ f => f = .used ∨ f = .source
    | .portal _ f => f = .used ∨ f = .bore ∨ f = .mainSensor ∨ f = .reserveSensor
    | .zone _ f => f ∈ [.used, .portal, .position, .stageList, .reserve]
    | .group _ f => f = .used ∨ f = .groupAddress
    | .driver _ f => f = .used ∨ f = .lineAddress ∨ f = .group
    | .device _ | .accept _ _ | .pulse _ _ | .kTable _ | .counter _ _ | .flags _ _ => False := by
  cases t with
  | kTable i => simp [Target.restriction]
  | flags set f => simp [Target.restriction]
  | device f | accept i f | sensor i f | pulse i f | portal i f | zone i f | group i f | driver i f | counter i f =>
    cases f <;> simp [Target.restriction]

/-! ### Which values SET takes (R149 (3)) -/

theorem within_zero {hi v : Nat} : within 0 hi v ↔ v ≤ hi := ⟨fun inside => inside.2, fun low => ⟨Nat.zero_le v, low⟩⟩

theorem ratioBreaksOrder_iff {s : State} {z : Fin 32} {n : Nat} :
    s.ratioBreaksOrder z n = false ↔ (s.zones[z].used = true → s.regulating s.zones[z].portal = true → ∀ j : Fin 32,
      s.zones[j].used = true → s.zones[j].portal = s.zones[z].portal →
        (s.zones[j].position = s.zones[z].position + 1 → s.zones[j].ratio ≤ n)
          ∧ (s.zones[j].position + 1 = s.zones[z].position → n ≤ s.zones[j].ratio)) := by
  rw [Bool.eq_false_iff, ne_eq]
  simp only [State.ratioBreaksOrder, Bool.and_eq_true, List.any_eq_true, List.mem_finRange, true_and, beq_iff_eq, Bool.or_eq_true,
    decide_eq_true_eq, not_and, not_exists, not_or, and_imp]
  constructor
  · intro inOrder used regulating j usedJ same
    obtain ⟨outward, inward⟩ := inOrder used regulating j usedJ same
    exact ⟨fun next => Nat.le_of_not_lt (inward next), fun before => Nat.le_of_not_lt (outward before)⟩
  · intro inOrder used regulating j usedJ same
    obtain ⟨inward, outward⟩ := inOrder used regulating j usedJ same
    exact ⟨fun before => Nat.not_lt.mpr (outward before), fun next => Nat.not_lt.mpr (inward next)⟩

theorem dminTooHigh_iff {s : State} {g : Fin 48} {n : Nat} :
    s.dminTooHigh g n = true ↔ s.groups[g].owner = .part ∧ ∃ z : Fin 32, s.zones[z].used = true
      ∧ s.regulating s.zones[z].portal = true ∧ (∃ place, (place, g) ∈ s.zones[z].places ∧ s.zones[z].isOn place = true)
      ∧ min s.zones[z].dCmd (s.zones[z].dTarget.getD 0) < n := by
  simp only [State.dminTooHigh, Bool.and_eq_true, List.any_eq_true, List.mem_finRange, true_and, beq_iff_eq, decide_eq_true_eq,
    and_assoc]
  refine and_congr_right fun _ => exists_congr fun z => and_congr_right fun _ => and_congr_right fun _ => and_congr ?_ .rfl
  constructor
  · rintro ⟨⟨place, group⟩, member, rfl, on⟩
    exact ⟨place, member, on⟩
  · rintro ⟨place, member, on⟩
    exact ⟨⟨place, g⟩, member, rfl, on⟩

theorem isSome_if_none {c : Prop} [Decidable c] {α : Type} {o : Option α} :
    (if c then none else o).isSome = true ↔ o.isSome = true ∧ ¬ c := by
  split <;> simp_all

/-- Settles O41: the tests in their order, the portals concerned, the fields that can be written, and the range of each. -/
theorem setRefusals : Obligations.SetRefusals := by
  refine ⟨fun h table row field v more t s free room found granted => ?_, fun v p s => ?_, fun t => ⟨?_, ?_, ?_⟩,
    fun t v s writable => ?_⟩
  · have shape := ofOperands_set v more found
    have written := write_occupy (s.elapse h.dt) .zero ((s.elapse h.dt).requestFrame h.src (h.tag :: 2 :: ([table, row, field] ++ wordBytes v ++ more))) t v
    refine ⟨fun fixed => ?_, fun writable barred => ?_, fun writable allowed bad => ?_,
      fun after f writable allowed accepted running structural broken => ?_⟩
    · exact exec_declined free room rfl shape granted (by decide) (runSet_of_unwritable fixed)
    · exact exec_declined free room rfl shape granted (by decide)
        (runSet_of_barred (s := s.placing h.dt h.src _) writable fun allowed => barred (allowsSet_iff.mp allowed))
    · rw [bad] at written
      exact exec_declined free room rfl shape granted (by decide)
        (runSet_of_badValue (s := s.placing h.dt h.src _) writable (allowsSet_iff.mpr allowed) written)
    · rw [accepted] at written
      have mode : after.mode = s.mode := write_mode (s.elapse h.dt) accepted
      have fails : (after.occupy .zero ((s.elapse h.dt).requestFrame h.src (h.tag :: 2 :: ([table, row, field] ++ wordBytes v ++ more)))).setBreaksLaw t
          = some f := by
        unfold State.setBreaksLaw
        rw [lawBroken_occupy, structural, broken,
          show (after.occupy .zero _).mode = .running from mode.trans running]
      refine (exec_carried free room rfl shape granted (by decide)
        (runSet_of_broken (s := s.placing h.dt h.src _) writable (allowsSet_iff.mpr allowed) written fails) rfl rfl).trans ?_
      rw [answered_eq free]
  · refine ⟨fun i f => mem_sensorPortals, fun q f => List.mem_singleton, fun z f => concerned_zone, fun g f => mem_portalsOfGroup,
      fun d f => ?_⟩
    rw [concerned_driver]
    simp only [mem_portalsOfGroup]
  · exact writable_iff t
  · exact restriction_owner_iff t
  · exact restriction_structural_iff t
  · dsimp only
    cases t with
    | device f =>
      cases f with
      | familyCode | revision | ownAddress | mode | restartPending | cursor | rescanInProgress | rescanPosition => cases writable
      | _ => simp [State.write, Device.write, isSome_inRange, isSome_boolOf, within_zero]
    | accept i f =>
      cases f with
      | hits => cases writable
      | _ => simp [State.write, AcceptEntry.write, isSome_boolOf, isSome_portSelector, isSome_action, isSome_finOf, Nat.lt_succ_iff]
    | sensor i f =>
      cases f with
      | used | source | staleTimeout => simp [State.write, Sensor.write, isSome_boolOf, isSome_source, isSome_inRange]
      | _ => cases writable
    | pulse i f =>
      cases f with
      | enable | scale => simp [State.write, PulseInput.write, isSome_boolOf, isSome_inRange]
      | gateLength => simp [State.write, PulseInput.write]
      | _ => cases writable
    | portal p f =>
      cases f with
      | state | speed | traffic | la | lastGoodLa | lth | holdTimer | disagree | override => cases writable
      | ceiling | interior =>
        simp only [State.write, Portal.write, Option.isSome_map, isSome_if_none, isSome_inRange]
        simp [State.regulating]
      | _ =>
        simp [State.write, Portal.write, isSome_inRange, isSome_boolOf, isSome_finOf, isSome_optFinOf, Nat.lt_succ_iff, within_zero]
    | kTable i => simp [State.write, isSome_inRange, within_zero]
    | zone z f =>
      cases f with
      | stageList => simp only [State.write, State.writeZone, Option.isSome_map, Option.isSome_iff_exists, stageListOf_eq_some]
      | ratio =>
        simp only [State.write, State.writeZone, Option.isSome_map, isSome_if_none, isSome_inRange, within_zero, Bool.not_eq_true,
          ratioBreaksOrder_iff]
      | used | portal | position | reserve | hysteresis =>
        simp [State.write, State.writeZone, isSome_inRange, isSome_boolOf, isSome_finOf, isSome_optFinOf, Nat.lt_succ_iff, within_zero]
      | _ => cases writable
    | group g f =>
      cases f with
      | dmin =>
        simp only [State.write, State.writeGroup, Option.isSome_map, isSome_if_none, isSome_inRange, dminTooHigh_iff]
      | used | groupAddress | rated | owner | depreciation | mfFloor | burnHours =>
        simp [State.write, State.writeGroup, isSome_inRange, isSome_boolOf, isSome_owner, within_zero]
      | _ => cases writable
    | driver d f =>
      cases f with
      | used | lineAddress | group =>
        simp [State.write, Driver.write, isSome_inRange, isSome_boolOf, isSome_finOf, Nat.lt_succ_iff]
      | _ => cases writable
    | counter i f =>
      cases f with
      | select | scope => simp [State.write, Counter.write, isSome_finOf, isSome_counterScope, Nat.lt_succ_iff]
      | _ => cases writable
    | flags set f => cases writable

end Sys2Proof.Machine

/-! SUPPORT. Accepted SETs: one rule per table, and the statement about the fields that are not structural, settled (R149, R150). -/

namespace Sys2Proof.Machine

set_option Elab.async false

/-! ### An accepted SET -/

/-- A SET of `t` that is allowed now and leaves the state `after` whole (R150). -/
def State.takes (s : State) (t : Target) (v : Nat) (after : State) : Prop :=
  t.restriction = .free ∨ s.mode = .transparent
    ∨ (t.restriction = .structural ∧ (∀ p ∈ s.concerned t v, s.regulating p = false) ∧ after.lawBroken = none)

section
variable {s : State} {t : Target} {v : Nat}

theorem allowsSet_of_takes {after : State} (takes : s.takes t v after) : s.allowsSet t v = true := by
  rw [allowsSet_iff]
  rcases takes with free | transparent | ⟨structural, still, -⟩
  · exact .inr ⟨by rw [free]; decide, fun structural => by rw [free] at structural; cases structural⟩
  · exact .inl transparent
  · exact .inr ⟨by rw [structural]; decide, fun _ => still⟩

theorem setBreaksLaw_of_takes {after written : State} (takes : s.takes t v after) (mode : written.mode = s.mode)
    (law : written.lawBroken = after.lawBroken) : written.setBreaksLaw t = none := by
  unfold State.setBreaksLaw
  rcases takes with free | transparent | ⟨structural, -, whole⟩
  · rw [free]
    cases written.mode <;> rfl
  · rw [mode, transparent]
  · rw [structural, law, whole]
    cases written.mode <;> rfl

end

section
variable {s : State} {i : Instr} {h : ReqHead} {v w : Word} {table row field : Byte} {t : Target}
  (free : s.engineFree) (room : s.roomInC)
  (asks : requestOf i = some (h.dt, h.src, h.tag :: 2 :: ([table, row, field] ++ wordBytes v)))
  (granted : s.grants h.src (.set t v) = true) (writable : t.writable = true)
include free room asks granted writable

/-- The state a SET of one record leaves, and the value read back. -/
theorem exec_set {f : State → State} (found : Target.resolve table row field = .ok t)
    (takes : s.takes t v.toNat (f (s.answered h .ok (wordBytes w))))
    (commutes : ∀ (u : State) (q : List CEntry), { f u with slot0 := none, cQueue := q } = f { u with slot0 := none, cQueue := q })
    (queue : ∀ u, (f u).cQueue = u.cQueue) (own : ∀ u, (f u).addrPins = u.addrPins) (mode : ∀ u, (f u).mode = u.mode)
    (law : (f (s.placing h.dt h.src (h.tag :: 2 :: ([table, row, field] ++ wordBytes v)))).lawBroken
      = (f (s.answered h .ok (wordBytes w))).lawBroken)
    (written : (s.placing h.dt h.src (h.tag :: 2 :: ([table, row, field] ++ wordBytes v))).write t v
      = some (f (s.placing h.dt h.src (h.tag :: 2 :: ([table, row, field] ++ wordBytes v)))))
    (read : (f (s.placing h.dt h.src (h.tag :: 2 :: ([table, row, field] ++ wordBytes v)))).read t = w) :
    exec i s = .next (f (s.answered h .ok (wordBytes w))) := by
  have shape := ofOperands_set v [] found
  rw [List.append_nil] at shape
  refine exec_changed free room asks shape granted (by decide) commutes ?_ queue own
  refine (runSet_accepted (s.placing h.dt h.src _) t v _ writable (allowsSet_of_takes takes) written
    (setBreaksLaw_of_takes takes (mode _) law)).trans ?_
  rw [read]

end

/-! ### One rule per table -/

section
variable {s : State} {i : Instr} {h : ReqHead} {v w : Word} {k : Nat} (small : k < 256) (free : s.engineFree) (room : s.roomInC)
include small free room

theorem exec_set_accept {row : Fin 16} {f : AcceptField} {x : AcceptEntry} (named : AcceptField.ofId k = some f)
    (asks : requestOf i = some (h.dt, h.src, h.tag :: 2 :: ([1, BitVec.ofNat 8 row.val, BitVec.ofNat 8 k] ++ wordBytes v)))
    (control : s.holdsControl h.src = true) (writable : (Target.accept row f).writable = true)
    (written : s.accept[row].write f v = some x) (read : ({ x with hits := 0 } : AcceptEntry).read f = w) :
    exec i s = .next { s.answered h .ok (wordBytes w) with accept := updAt s.accept row fun _ => { x with hits := 0 } } := by
  refine exec_set (t := .accept row f) (f := fun u => { u with accept := updAt s.accept row fun _ => { x with hits := 0 } }) free room asks control writable
    (resolve_accept small row named) (.inl rfl) (fun _ _ => rfl) (fun _ => rfl) (fun _ => rfl) (fun _ => rfl) rfl
    (congrArg (Option.map _) written) ?_
  change (updAt s.accept row _)[row].read f = w
  rw [updAt_same, read]

theorem exec_set_sensor {row : Fin 8} {f : SensorField} {x : Sensor} (named : SensorField.ofId k = some f)
    (asks : requestOf i = some (h.dt, h.src, h.tag :: 2 :: ([2, BitVec.ofNat 8 row.val, BitVec.ofNat 8 k] ++ wordBytes v)))
    (control : s.holdsControl h.src = true) (writable : (Target.sensor row f).writable = true)
    (takes : s.takes (.sensor row f) v.toNat { s.answered h .ok (wordBytes w) with sensors := updAt s.sensors row fun _ => x })
    (written : s.sensors[row].write f v.toNat = some x) (read : ∀ u : State, u.sensors[row] = x → u.readSensor row f = w) :
    exec i s = .next { s.answered h .ok (wordBytes w) with sensors := updAt s.sensors row fun _ => x } :=
  exec_set (t := .sensor row f) (f := fun u => { u with sensors := updAt s.sensors row fun _ => x }) free room asks control writable
    (resolve_sensor small row named) takes (fun _ _ => rfl) (fun _ => rfl) (fun _ => rfl) (fun _ => rfl) rfl
    (congrArg (Option.map _) written) (read _ (updAt_same _ _ _))

theorem exec_set_pulse {row : Fin 4} {f : PulseField} {x : PulseInput} (named : PulseField.ofId k = some f)
    (asks : requestOf i = some (h.dt, h.src, h.tag :: 2 :: ([3, BitVec.ofNat 8 row.val, BitVec.ofNat 8 k] ++ wordBytes v)))
    (control : s.holdsControl h.src = true) (writable : (Target.pulse row f).writable = true)
    (written : s.pulses[row].write f v.toNat (s.now + h.dt) = some x) (read : x.read f = w) :
    exec i s = .next { s.answered h .ok (wordBytes w) with pulses := updAt s.pulses row fun _ => x } := by
  refine exec_set (t := .pulse row f) (f := fun u => { u with pulses := updAt s.pulses row fun _ => x }) free room asks control writable
    (resolve_pulse small row named) (.inl rfl) (fun _ _ => rfl) (fun _ => rfl) (fun _ => rfl) (fun _ => rfl) rfl
    (congrArg (Option.map _) written) ?_
  change (updAt s.pulses row _)[row].read f = w
  rw [updAt_same, read]

theorem exec_set_portal {row : Fin 4} {f : PortalField} {x : Portal} (named : PortalField.ofId k = some f)
    (asks : requestOf i = some (h.dt, h.src, h.tag :: 2 :: ([4, BitVec.ofNat 8 row.val, BitVec.ofNat 8 k] ++ wordBytes v)))
    (control : s.holdsControl h.src = true) (writable : (Target.portal row f).writable = true)
    (takes : s.takes (.portal row f) v.toNat { s.answered h .ok (wordBytes w) with portals := updAt s.portals row fun _ => x })
    (written : s.portals[row].write f v.toNat = some x) (read : ∀ u : State, u.portals[row] = x → u.readPortal row f = w) :
    exec i s = .next { s.answered h .ok (wordBytes w) with portals := updAt s.portals row fun _ => x } :=
  exec_set (t := .portal row f) (f := fun u => { u with portals := updAt s.portals row fun _ => x }) free room asks control writable
    (resolve_portal small row named) takes (fun _ _ => rfl) (fun _ => rfl) (fun _ => rfl) (fun _ => rfl) rfl
    (congrArg (Option.map _) written) (read _ (updAt_same _ _ _))

theorem exec_set_zone {row : Fin 32} {f : ZoneField} {x : Zone} (named : ZoneField.ofId k = some f)
    (asks : requestOf i = some (h.dt, h.src, h.tag :: 2 :: ([6, BitVec.ofNat 8 row.val, BitVec.ofNat 8 k] ++ wordBytes v)))
    (control : s.holdsControl h.src = true) (writable : (Target.zone row f).writable = true)
    (takes : s.takes (.zone row f) v.toNat { s.answered h .ok (wordBytes w) with zones := updAt s.zones row fun _ => x })
    (written : s.writeZone row f v = some x) (read : x.read f = w) :
    exec i s = .next { s.answered h .ok (wordBytes w) with zones := updAt s.zones row fun _ => x } := by
  refine exec_set (t := .zone row f) (f := fun u => { u with zones := updAt s.zones row fun _ => x }) free room asks control writable
    (resolve_zone small row named) takes (fun _ _ => rfl) (fun _ => rfl) (fun _ => rfl) (fun _ => rfl) rfl
    (congrArg (Option.map _) written) ?_
  change (updAt s.zones row _)[row].read f = w
  rw [updAt_same, read]

theorem exec_set_group {row : Fin 48} {f : GroupField} {x : Group} (named : GroupField.ofId k = some f)
    (asks : requestOf i = some (h.dt, h.src, h.tag :: 2 :: ([7, BitVec.ofNat 8 row.val, BitVec.ofNat 8 k] ++ wordBytes v)))
    (granted : s.grants h.src (.set (.group row f) v) = true) (writable : (Target.group row f).writable = true)
    (takes : s.takes (.group row f) v.toNat { s.answered h .ok (wordBytes w) with groups := updAt s.groups row fun _ => x })
    (written : s.writeGroup row f v.toNat = some x) (read : ∀ u : State, u.groups[row] = x → u.readGroup row f = w) :
    exec i s = .next { s.answered h .ok (wordBytes w) with groups := updAt s.groups row fun _ => x } :=
  exec_set (t := .group row f) (f := fun u => { u with groups := updAt s.groups row fun _ => x }) free room asks granted writable
    (resolve_group small row named) takes (fun _ _ => rfl) (fun _ => rfl) (fun _ => rfl) (fun _ => rfl) rfl
    (congrArg (Option.map _) written) (read _ (updAt_same _ _ _))

theorem exec_set_driver {row : Fin 160} {f : DriverField} {x : Driver} (named : DriverField.ofId k = some f)
    (asks : requestOf i = some (h.dt, h.src, h.tag :: 2 :: ([8, BitVec.ofNat 8 row.val, BitVec.ofNat 8 k] ++ wordBytes v)))
    (control : s.holdsControl h.src = true) (writable : (Target.driver row f).writable = true)
    (takes : s.takes (.driver row f) v.toNat { s.answered h .ok (wordBytes w) with drivers := updAt s.drivers row fun _ => x })
    (written : s.drivers[row].write f v.toNat = some x) (read : x.read f = w) :
    exec i s = .next { s.answered h .ok (wordBytes w) with drivers := updAt s.drivers row fun _ => x } := by
  refine exec_set (t := .driver row f) (f := fun u => { u with drivers := updAt s.drivers row fun _ => x }) free room asks control writable
    (resolve_driver small row named) takes (fun _ _ => rfl) (fun _ => rfl) (fun _ => rfl) (fun _ => rfl) rfl
    (congrArg (Option.map _) written) ?_
  change (updAt s.drivers row _)[row].read f = w
  rw [updAt_same, read]

theorem exec_set_counter {row : Fin 8} {f : CounterField} {x : Counter} (named : CounterField.ofId k = some f)
    (asks : requestOf i = some (h.dt, h.src, h.tag :: 2 :: ([9, BitVec.ofNat 8 row.val, BitVec.ofNat 8 k] ++ wordBytes v)))
    (granted : s.grants h.src (.set (.counter row f) v) = true) (writable : (Target.counter row f).writable = true)
    (written : s.counters[row].write f v.toNat = some x) (read : x.read f = w) :
    exec i s = .next { s.answered h .ok (wordBytes w) with counters := updAt s.counters row fun _ => x } := by
  refine exec_set (t := .counter row f) (f := fun u => { u with counters := updAt s.counters row fun _ => x }) free room asks granted writable
    (resolve_counter small row named) (.inl rfl) (fun _ _ => rfl) (fun _ => rfl) (fun _ => rfl) (fun _ => rfl) rfl
    (congrArg (Option.map _) written) ?_
  change (updAt s.counters row _)[row].read f = w
  rw [updAt_same, read]

theorem exec_set_device {f : DeviceField} {x : Device} (named : DeviceField.ofId k = some f)
    (asks : requestOf i = some (h.dt, h.src, h.tag :: 2 :: ([0, 0, BitVec.ofNat 8 k] ++ wordBytes v)))
    (control : s.holdsControl h.src = true) (writable : (Target.device f).writable = true)
    (takes : s.takes (.device f) v.toNat { s.answered h .ok (wordBytes w) with device := x })
    (written : s.device.write f v.toNat = some x) (read : ∀ u : State, u.device = x → u.readDevice f = w) :
    exec i s = .next { s.answered h .ok (wordBytes w) with device := x } :=
  exec_set (t := .device f) (f := fun u => { u with device := x }) free room asks control writable
    (resolve_device small named) takes (fun _ _ => rfl) (fun _ => rfl) (fun _ => rfl) (fun _ => rfl) rfl
    (congrArg (Option.map _) written) (read _ rfl)

end

theorem exec_set_kTable {s : State} {i : Instr} {h : ReqHead} {v w : Word} (free : s.engineFree) (room : s.roomInC) {row : Fin 128} {x : Nat}
    (asks : requestOf i = some (h.dt, h.src, h.tag :: 2 :: ([5, BitVec.ofNat 8 row.val, 0] ++ wordBytes v)))
    (control : s.holdsControl h.src = true) (written : inRange 0 2000 v.toNat = some x) (read : natWord x = w) :
    exec i s = .next { s.answered h .ok (wordBytes w) with kTable := updAt s.kTable row fun _ => x } := by
  refine exec_set (t := .kTable row) (f := fun u => { u with kTable := updAt s.kTable row fun _ => x }) free room asks control rfl
    (resolve_kTable row) (.inl rfl) (fun _ _ => rfl) (fun _ => rfl) (fun _ => rfl) (fun _ => rfl) rfl
    (congrArg (Option.map _) written) ?_
  change natWord (updAt s.kTable row _)[row] = w
  rw [updAt_same, read]

end Sys2Proof.Machine

/-! SUPPORT. The statement about the fields that are not structural, settled (R149). -/

namespace Sys2Proof.Machine

set_option Elab.async false

/-! ### Values of a SET -/

theorem natWord_toNat (v : Word) : natWord v.toNat = v := by
  rw [natWord, BitVec.ofNat_toNat, BitVec.setWidth_eq]

theorem boolOf_word (b : Bool) : boolOf (if b then (1 : Word) else 0).toNat = some b := by
  cases b <;> rfl

/-- A value of at most 1 is a no or a yes. -/
theorem word_eq_bool {v : Word} (low : v.toNat ≤ 1) : ∃ b : Bool, v = if b then 1 else 0 := by
  rcases Nat.le_one_iff_eq_zero_or_eq_one.mp low with zero | one
  · exact ⟨false, BitVec.eq_of_toNat_eq zero⟩
  · exact ⟨true, BitVec.eq_of_toNat_eq one⟩

theorem finOf_val {n : Nat} (x : Fin n) : finOf n x.val = some x := finOf_of_lt x.isLt

theorem finOf_word {n : Nat} (small : n ≤ 2 ^ 32) (x : Fin n) : finOf n (BitVec.ofNat 32 x.val).toNat = some x := by
  rw [BitVec.toNat_ofNat, Nat.mod_eq_of_lt (Nat.lt_of_lt_of_le x.isLt small), finOf_val]

theorem inRange_zero {hi v : Nat} (low : v ≤ hi) : inRange 0 hi v = some v := inRange_of_within ⟨Nat.zero_le v, low⟩

theorem portSelector_word (q : PortSelector) : PortSelector.ofCode (BitVec.ofNat 32 q.code).toNat = some q := by
  cases q <;> rfl

theorem action_word (a : Action) : Action.ofCode (BitVec.ofNat 32 a.code).toNat = some a := by
  cases a <;> rfl

theorem byte_word {n : Nat} (v : Word) (low : v.toNat ≤ n) (small : n ≤ 255) : (BitVec.ofNat 8 v.toNat).setWidth 32 = v := by
  refine BitVec.eq_of_toNat_eq ?_
  rw [BitVec.toNat_setWidth, BitVec.toNat_ofNat]
  omega

/-- A written value, from the value the test passes. -/
theorem map_of_some {α β : Type} {o : Option α} {x : α} (f : α → β) (passed : o = some x) : o.map f = some (f x) := by
  rw [passed]
  rfl

/-- A pulse input's record after SET of its enable (R65). -/
def PulseInput.enabled (r : PulseInput) (v : Word) (now : Time) : PulseInput :=
  if v = 1 ∧ r.enable = false then
    { r with enable := true, count := 0, lastEdge := none, reference := none, cleared := none,
             gate := some { ends := now + r.gateLength * msTicks, length := r.gateLength } }
  else if v = 0 ∧ r.enable = true then
    { r with enable := false, count := 0, lastEdge := none, reference := none, cleared := none, gate := none }
  else r

theorem PulseInput.write_enable (r : PulseInput) (now : Time) {v : Word} (low : v.toNat ≤ 1) :
    r.write .enable v.toNat now = some (r.enabled v now) ∧ (r.enabled v now).read .enable = v := by
  obtain ⟨b, rfl⟩ := word_eq_bool low
  refine ⟨(map_of_some _ (boolOf_word b)).trans (congrArg some ?_), ?_⟩
  · cases b <;> cases enable : r.enable <;> simp [PulseInput.enabled, PulseInput.startGate, PulseInput.stop, enable]
  · cases b <;> cases enable : r.enable <;> simp [PulseInput.enabled, PulseInput.read, boolWord, enable]

/-- A group's record after SET of its owner (R121). -/
def Group.owned (r : Group) (v : Word) : Group :=
  if v = 0 ∧ r.owner = .line then { r with owner := .part, due := true }
  else if v = 1 ∧ r.owner = .part then { r with owner := .line, due := false }
  else r

theorem Group.setOwner_word (r : Group) {v : Word} (low : v.toNat ≤ 1) :
    (Owner.ofCode v.toNat).map r.setOwner = some (r.owned v) ∧ natWord (r.owned v).owner.code = v := by
  obtain ⟨b, rfl⟩ := word_eq_bool low
  constructor
  · cases b <;> cases owner : r.owner <;> simp [Group.owned, Group.setOwner, Owner.ofCode, owner]
  · cases b <;> cases owner : r.owner <;> simp [Group.owned, natWord, Owner.code, owner]

/-- A group's record after SET of its burn hours (R97). -/
def Group.burnt (r : Group) (hours : Nat) : Group :=
  { r with burnMinutes := if r.burnKnown then hours * 60 else min 4294967295 (hours * 60 + r.burnMinutes), burnKnown := true }

/-! ### Accept entries, pulse inputs, zones and groups -/

section
variable {h : ReqHead} {v : Word} {s : State} (free : s.engineFree) (room : s.roomInC) (control : s.holdsControl h.src = true)
include free room control

theorem set_accept_fields (i : Fin 16) (field : Byte) (e : AcceptEntry)
    (given : (∃ b : Bool, field = 0 ∧ v = (if b then 1 else 0) ∧ e = { s.accept[i] with enable := b, hits := 0 })
      ∨ (∃ q : PortSelector, field = 1 ∧ v = BitVec.ofNat 32 q.code ∧ e = { s.accept[i] with ports := q, hits := 0 })
      ∨ (field = 2 ∧ e = { s.accept[i] with mask := v, hits := 0 })
      ∨ (field = 3 ∧ e = { s.accept[i] with value := v, hits := 0 })
      ∨ (∃ a : Action, field = 4 ∧ v = BitVec.ofNat 32 a.code ∧ e = { s.accept[i] with action := a, hits := 0 })
      ∨ (∃ n : Fin 8, field = 5 ∧ v = BitVec.ofNat 32 n.val ∧ e = { s.accept[i] with sensor := n, hits := 0 })
      ∨ (∃ b : Bool, field = 6 ∧ v = (if b then 1 else 0) ∧ e = { s.accept[i] with forward := b, hits := 0 })) :
    exec (.setAcceptField h (BitVec.ofNat 8 i.val) field v) s
      = .next { s.answered h .ok (wordBytes v) with accept := updAt s.accept i fun _ => e } := by
  rcases given with ⟨b, rfl, rfl, rfl⟩ | ⟨q, rfl, rfl, rfl⟩ | ⟨rfl, rfl⟩ | ⟨rfl, rfl⟩ | ⟨a, rfl, rfl, rfl⟩ | ⟨n, rfl, rfl, rfl⟩
    | ⟨b, rfl, rfl, rfl⟩
  · exact exec_set_accept (k := 0) (f := .enable) (by decide) free room rfl rfl control rfl (map_of_some _ (boolOf_word b)) rfl
  · exact exec_set_accept (k := 1) (f := .ports) (by decide) free room rfl rfl control rfl (map_of_some _ (portSelector_word q)) rfl
  · exact exec_set_accept (k := 2) (f := .mask) (by decide) free room rfl rfl control rfl rfl rfl
  · exact exec_set_accept (k := 3) (f := .value) (by decide) free room rfl rfl control rfl rfl rfl
  · exact exec_set_accept (k := 4) (f := .action) (by decide) free room rfl rfl control rfl (map_of_some _ (action_word a)) rfl
  · exact exec_set_accept (k := 5) (f := .sensor) (by decide) free room rfl rfl control rfl (map_of_some _ (finOf_word (by decide) n)) rfl
  · exact exec_set_accept (k := 6) (f := .forward) (by decide) free room rfl rfl control rfl (map_of_some _ (boolOf_word b)) rfl

theorem set_pulse_enable (n : Fin 4) (low : v.toNat ≤ 1) :
    exec (.setPulseEnable h (BitVec.ofNat 8 n.val) v) s
      = .next { s.answered h .ok (wordBytes v) with pulses := updAt s.pulses n fun r => r.enabled v (s.now + h.dt) } := by
  obtain ⟨written, read⟩ := s.pulses[n].write_enable (s.now + h.dt) low
  exact exec_set_pulse (k := 0) (f := .enable) (by decide) free room rfl rfl control rfl written read

theorem set_zone_ratio (z : Fin 32) (low : v.toNat ≤ 1000) :
    (s.ratioBreaksOrder z v.toNat = false → exec (.setZoneRatio h (BitVec.ofNat 8 z.val) v) s
        = .next { s.answered h .ok (wordBytes v) with zones := updAt s.zones z fun r => { r with ratio := v.toNat } })
      ∧ (¬ s.ratioBreaksOrder z v.toNat = false → exec (.setZoneRatio h (BitVec.ofNat 8 z.val) v) s
        = .next (s.answered h .badValue [])) := by
  refine ⟨fun inOrder => ?_, fun breaks => ?_⟩
  · exact exec_set_zone (k := 5) (f := .ratio) (by decide) free room rfl rfl control rfl (.inl rfl)
      ((if_neg (by rw [inOrder]; decide)).trans (map_of_some _ (inRange_zero low))) (natWord_toNat v)
  · have shape := ofOperands_set v [] (resolve_zone (k := 5) (f := .ratio) (by decide) z rfl)
    rw [List.append_nil] at shape
    exact exec_declined free room rfl shape control (by decide)
      (runSet_of_badValue (s := s.placing h.dt h.src _) rfl (allowsSet_of_takes (after := s) (.inl rfl))
        (congrArg (Option.map _) (if_pos (eq_true_of_ne_false breaks))))

theorem set_burn_hours (g : Fin 48) (low : v.toNat ≤ 500000) :
    exec (.setBurnHours h (BitVec.ofNat 8 g.val) v) s
      = .next { s.answered h .ok (wordBytes (BitVec.ofNat 32 ((s.groups[g].burnt v.toNat).burnMinutes / 60))) with
          groups := updAt s.groups g fun r => r.burnt v.toNat } :=
  exec_set_group (k := 7) (f := .burnHours) (by decide) free room rfl rfl (Bool.or_eq_true_iff.mpr (.inl control)) rfl (.inl rfl)
    (map_of_some _ (inRange_zero low)) fun u record => by
      unfold State.readGroup
      rw [record]
      rfl

theorem set_group_owner (g : Fin 48) (low : v.toNat ≤ 1) :
    exec (.setGroupOwner h (BitVec.ofNat 8 g.val) v) s
      = .next { s.answered h .ok (wordBytes v) with groups := updAt s.groups g fun r => r.owned v } := by
  obtain ⟨written, read⟩ := s.groups[g].setOwner_word low
  refine exec_set_group (k := 4) (f := .owner) (by decide) free room rfl rfl control rfl (.inl rfl) written fun u record => ?_
  unfold State.readGroup
  rw [record]
  exact read

/-- The portal fields that are not structural, with the value SET takes (R73, R75). -/
theorem set_portal_parameter (p : Fin 4) (field : Nat) (q : Portal)
    (given : (field = 4 ∧ v.toNat ≤ 500 ∧ q = { s.portals[p] with tolerance := v.toNat })
      ∨ (field = 5 ∧ v.toNat ≤ 20000 ∧ q = { s.portals[p] with fallbackLuminance := v.toNat })
      ∨ (field = 6 ∧ v.toNat ≤ 600 ∧ q = { s.portals[p] with holdTime := v.toNat })
      ∨ (field = 7 ∧ within 10 40000 v.toNat ∧ (¬ s.regulating p = true ∨ s.portals[p].interior ≤ v.toNat)
          ∧ q = { s.portals[p] with ceiling := v.toNat })
      ∨ (field = 8 ∧ within 10 500 v.toNat ∧ (¬ s.regulating p = true ∨ v.toNat ≤ s.portals[p].ceiling)
          ∧ q = { s.portals[p] with interior := v.toNat })
      ∨ (field = 9 ∧ within 1 60 v.toNat ∧ q = { s.portals[p] with passPeriod := v.toNat })
      ∨ (field = 10 ∧ within 100 2000 v.toNat ∧ q = { s.portals[p] with rampPeriod := v.toNat })
      ∨ (field = 11 ∧ within 1 1000 v.toNat ∧ q = { s.portals[p] with riseStep := v.toNat })
      ∨ (field = 12 ∧ within 1 1000 v.toNat ∧ q = { s.portals[p] with fallStep := v.toNat })
      ∨ (field = 13 ∧ v.toNat ≤ 50 ∧ q = { s.portals[p] with deadband := v.toNat })
      ∨ (field = 14 ∧ within 5 300 v.toNat ∧ q = { s.portals[p] with refreshInterval := v.toNat })
      ∨ (∃ x : Fin 8, field = 15 ∧ x.val = v.toNat ∧ q = { s.portals[p] with initialSpeed := x })
      ∨ (∃ x : Fin 4, field = 16 ∧ x.val = v.toNat ∧ q = { s.portals[p] with initialTraffic := x })) :
    exec (.set h ([4, BitVec.ofNat 8 p.val, BitVec.ofNat 8 field] ++ wordBytes v)) s
      = .next { s.answered h .ok (wordBytes v) with portals := updAt s.portals p fun _ => q } := by
  have set {f : PortalField} {x : Portal} (small : field < 256) (named : PortalField.ofId field = some f)
      (writable : (Target.portal p f).writable = true) (free' : (Target.portal p f).restriction = .free)
      (written : s.portals[p].write f v.toNat = some x) (read : ∀ u : State, u.portals[p] = x → u.readPortal p f = natWord v.toNat) :
      exec (.set h ([4, BitVec.ofNat 8 p.val, BitVec.ofNat 8 field] ++ wordBytes v)) s
        = .next { s.answered h .ok (wordBytes v) with portals := updAt s.portals p fun _ => x } :=
    exec_set_portal small free room named rfl control writable (.inl free') written
      fun u record => (read u record).trans (natWord_toNat v)
  rcases given with ⟨rfl, low, rfl⟩ | ⟨rfl, low, rfl⟩ | ⟨rfl, low, rfl⟩ | ⟨rfl, inside, apart, rfl⟩ | ⟨rfl, inside, apart, rfl⟩
    | ⟨rfl, inside, rfl⟩ | ⟨rfl, inside, rfl⟩ | ⟨rfl, inside, rfl⟩ | ⟨rfl, inside, rfl⟩ | ⟨rfl, low, rfl⟩ | ⟨rfl, inside, rfl⟩
    | ⟨x, rfl, value, rfl⟩ | ⟨x, rfl, value, rfl⟩
  · exact set (f := .tolerance) (by decide) rfl rfl rfl (map_of_some _ (inRange_zero low))
      fun u record => congrArg (fun r : Portal => natWord r.tolerance) record
  · exact set (f := .fallbackLuminance) (by decide) rfl rfl rfl (map_of_some _ (inRange_zero low))
      fun u record => congrArg (fun r : Portal => natWord r.fallbackLuminance) record
  · exact set (f := .holdTime) (by decide) rfl rfl rfl (map_of_some _ (inRange_zero low))
      fun u record => congrArg (fun r : Portal => natWord r.holdTime) record
  · refine set (f := .ceiling) (by decide) rfl rfl rfl ((if_neg ?_).trans (map_of_some _ (inRange_of_within inside)))
      fun u record => congrArg (fun r : Portal => natWord r.ceiling) record
    rintro ⟨regulating, below⟩
    exact apart.elim (fun idle => idle regulating) (Nat.not_le.mpr below)
  · refine set (f := .interior) (by decide) rfl rfl rfl ((if_neg ?_).trans (map_of_some _ (inRange_of_within inside)))
      fun u record => congrArg (fun r : Portal => natWord r.interior) record
    rintro ⟨regulating, above⟩
    exact apart.elim (fun idle => idle regulating) (Nat.not_le.mpr above)
  · exact set (f := .passPeriod) (by decide) rfl rfl rfl (map_of_some _ (inRange_of_within inside))
      fun u record => congrArg (fun r : Portal => natWord r.passPeriod) record
  · exact set (f := .rampPeriod) (by decide) rfl rfl rfl (map_of_some _ (inRange_of_within inside))
      fun u record => congrArg (fun r : Portal => natWord r.rampPeriod) record
  · exact set (f := .riseStep) (by decide) rfl rfl rfl (map_of_some _ (inRange_of_within inside))
      fun u record => congrArg (fun r : Portal => natWord r.riseStep) record
  · exact set (f := .fallStep) (by decide) rfl rfl rfl (map_of_some _ (inRange_of_within inside))
      fun u record => congrArg (fun r : Portal => natWord r.fallStep) record
  · exact set (f := .deadband) (by decide) rfl rfl rfl (map_of_some _ (inRange_zero low))
      fun u record => congrArg (fun r : Portal => natWord r.deadband) record
  · exact set (f := .refreshInterval) (by decide) rfl rfl rfl (map_of_some _ (inRange_of_within inside))
      fun u record => congrArg (fun r : Portal => natWord r.refreshInterval) record
  · exact set (f := .initialSpeed) (by decide) rfl rfl rfl (map_of_some _ (value ▸ finOf_val x))
      fun u record => (congrArg (fun r : Portal => natWord r.initialSpeed.val) record).trans (congrArg natWord value)
  · exact set (f := .initialTraffic) (by decide) rfl rfl rfl (map_of_some _ (value ▸ finOf_val x))
      fun u record => (congrArg (fun r : Portal => natWord r.initialTraffic.val) record).trans (congrArg natWord value)

/-- The group fields that are not structural but owner and burn hours (R94). -/
theorem set_group_parameter (g : Fin 48) (field : Nat) (q : Group)
    (given : (field = 2 ∧ within 1 20000 v.toNat ∧ q = { s.groups[g] with rated := v.toNat })
      ∨ (field = 3 ∧ within 1 500 v.toNat ∧ ¬ s.dminTooHigh g v.toNat = true ∧ q = { s.groups[g] with dmin := v.toNat })
      ∨ (field = 5 ∧ v.toNat ≤ 500 ∧ q = { s.groups[g] with depreciation := v.toNat })
      ∨ (field = 6 ∧ within 500 1000 v.toNat ∧ q = { s.groups[g] with mfFloor := v.toNat })) :
    exec (.set h ([7, BitVec.ofNat 8 g.val, BitVec.ofNat 8 field] ++ wordBytes v)) s
      = .next { s.answered h .ok (wordBytes v) with groups := updAt s.groups g fun _ => q } := by
  have set {f : GroupField} {x : Group} (small : field < 256) (named : GroupField.ofId field = some f)
      (granted : s.grants h.src (.set (.group g f) v) = true) (writable : (Target.group g f).writable = true)
      (free' : (Target.group g f).restriction = .free) (written : s.writeGroup g f v.toNat = some x)
      (read : ∀ u : State, u.groups[g] = x → u.readGroup g f = natWord v.toNat) :
      exec (.set h ([7, BitVec.ofNat 8 g.val, BitVec.ofNat 8 field] ++ wordBytes v)) s
        = .next { s.answered h .ok (wordBytes v) with groups := updAt s.groups g fun _ => x } :=
    exec_set_group small free room named rfl granted writable (.inl free') written
      fun u record => (read u record).trans (natWord_toNat v)
  rcases given with ⟨rfl, inside, rfl⟩ | ⟨rfl, inside, cool, rfl⟩ | ⟨rfl, low, rfl⟩ | ⟨rfl, inside, rfl⟩
  · exact set (f := .rated) (by decide) rfl control rfl rfl (map_of_some _ (inRange_of_within inside))
      fun u record => congrArg (fun r : Group => natWord r.rated) record
  · exact set (f := .dmin) (by decide) rfl control rfl rfl ((if_neg cool).trans (map_of_some _ (inRange_of_within inside)))
      fun u record => congrArg (fun r : Group => natWord r.dmin) record
  · exact set (f := .depreciation) (by decide) rfl control rfl rfl (map_of_some _ (inRange_zero low))
      fun u record => congrArg (fun r : Group => natWord r.depreciation) record
  · exact set (f := .mfFloor) (by decide) rfl control rfl rfl (map_of_some _ (inRange_of_within inside))
      fun u record => congrArg (fun r : Group => natWord r.mfFloor) record

/-- The device fields but the owner addresses. -/
theorem set_device_parameter (field : Nat) (d : Device)
    (given : (field = 7 ∧ v.toNat ≤ 1 ∧ d = { s.device with rollover := decide (v.toNat = 1) })
      ∨ (field = 8 ∧ within 50 2000 v.toNat ∧ d = { s.device with pollInterval := v.toNat })
      ∨ (field = 9 ∧ within 5 100 v.toNat ∧ d = { s.device with replyWindow := v.toNat })
      ∨ (field = 10 ∧ within 1 7 v.toNat ∧ d = { s.device with missLimit := v.toNat })
      ∨ (field = 11 ∧ v.toNat ≤ 1 ∧ d = { s.device with deviceAlert := decide (v.toNat = 1) })
      ∨ (∃ p : Fin 4, field = 12 + p.val ∧ v.toNat ≤ 1
        ∧ d = { s.device with portalAlert := updAt s.device.portalAlert p fun _ => decide (v.toNat = 1) })) :
    exec (.set h ([0, 0, BitVec.ofNat 8 field] ++ wordBytes v)) s = .next { s.answered h .ok (wordBytes v) with device := d } := by
  have set {f : DeviceField} {x : Device} (small : field < 256) (named : DeviceField.ofId field = some f)
      (writable : (Target.device f).writable = true) (free' : (Target.device f).restriction = .free)
      (written : s.device.write f v.toNat = some x) (read : ∀ u : State, u.device = x → u.readDevice f = v) :
      exec (.set h ([0, 0, BitVec.ofNat 8 field] ++ wordBytes v)) s = .next { s.answered h .ok (wordBytes v) with device := x } :=
    exec_set_device small free room named rfl control writable (.inl free') written read
  have bit (low : v.toNat ≤ 1) : boolOf v.toNat = some (decide (v.toNat = 1)) ∧ boolWord (decide (v.toNat = 1)) = v := by
    obtain ⟨b, rfl⟩ := word_eq_bool low
    cases b <;> exact ⟨rfl, rfl⟩
  rcases given with ⟨rfl, low, rfl⟩ | ⟨rfl, inside, rfl⟩ | ⟨rfl, inside, rfl⟩ | ⟨rfl, inside, rfl⟩ | ⟨rfl, low, rfl⟩ | ⟨p, rfl, low, rfl⟩
  · exact set (f := .rollover) (by decide) rfl rfl rfl (map_of_some _ (bit low).1)
      fun u record => (congrArg (fun r : Device => boolWord r.rollover) record).trans (bit low).2
  · exact set (f := .pollInterval) (by decide) rfl rfl rfl (map_of_some _ (inRange_of_within inside))
      fun u record => (congrArg (fun r : Device => natWord r.pollInterval) record).trans (natWord_toNat v)
  · exact set (f := .replyWindow) (by decide) rfl rfl rfl (map_of_some _ (inRange_of_within inside))
      fun u record => (congrArg (fun r : Device => natWord r.replyWindow) record).trans (natWord_toNat v)
  · exact set (f := .missLimit) (by decide) rfl rfl rfl (map_of_some _ (inRange_of_within inside))
      fun u record => (congrArg (fun r : Device => natWord r.missLimit) record).trans (natWord_toNat v)
  · exact set (f := .deviceAlert) (by decide) rfl rfl rfl (map_of_some _ (bit low).1)
      fun u record => (congrArg (fun r : Device => boolWord r.deviceAlert) record).trans (bit low).2
  · have named : DeviceField.ofId (12 + p.val) = some (.portalAlert p) := by
      match p with
      | 0 | 1 | 2 | 3 => rfl
    refine set (f := .portalAlert p) (by omega) named rfl rfl (map_of_some _ (bit low).1) fun u record => ?_
    refine (congrArg (fun r : Device => boolWord r.portalAlert[p]) record).trans ?_
    dsimp only
    rw [updAt_same]
    exact (bit low).2

end

/-- Settles O39: each field through the rule of its table. -/
theorem parameterSets : Obligations.ParameterSets := by
  refine ⟨fun h v s free room control => ⟨set_accept_fields free room control, fun i low => ?_, set_pulse_enable free room control,
    fun z low => ?_, set_burn_hours free room control, set_group_owner free room control, fun owner low transparent => ?_,
    fun i inside => ?_, fun i length => ?_, fun i inside => ?_, set_portal_parameter free room control, fun z low => ?_,
    fun g field q given => ?_, set_device_parameter free room control⟩, fun h i field c v s free room right given => ?_⟩
  · exact exec_set_kTable free room rfl control (inRange_zero low) (natWord_toNat v)
  · obtain ⟨accepted, refused⟩ := set_zone_ratio free room control z low
    have order : s.ratioBreaksOrder z v.toNat = false
        ↔ (s.zones[z].used = true ∧ s.regulating s.zones[z].portal = true → ∀ j : Fin 32,
          (s.zones[j].used = true ∧ s.zones[j].portal = s.zones[z].portal ∧ s.zones[j].position = s.zones[z].position + 1 →
            s.zones[j].ratio ≤ v.toNat)
          ∧ ∀ k, k + 1 = s.zones[z].position →
            s.zones[j].used = true ∧ s.zones[j].portal = s.zones[z].portal ∧ s.zones[j].position = k → v.toNat ≤ s.zones[j].ratio) := by
      rw [ratioBreaksOrder_iff]
      constructor
      · rintro inOrder ⟨used, regulating⟩ j
        refine ⟨fun ⟨usedJ, same, next⟩ => (inOrder used regulating j usedJ same).1 next, ?_⟩
        rintro k before ⟨usedJ, same, rfl⟩
        exact (inOrder used regulating j usedJ same).2 before
      · intro inOrder used regulating j usedJ same
        obtain ⟨inward, outward⟩ := inOrder ⟨used, regulating⟩ j
        exact ⟨fun next => inward ⟨usedJ, same, next⟩, fun before => outward _ before ⟨usedJ, same, rfl⟩⟩
    exact ⟨fun inOrder => accepted (order.mpr inOrder), fun breaks => refused fun inOrder => breaks (order.mp inOrder)⟩
  · cases owner with
    | control =>
      exact exec_set_device (k := 5) (f := .controlOwner) (by decide) free room rfl rfl control rfl (.inr (.inl transparent))
        (map_of_some _ (inRange_zero low))
        fun u record => (congrArg (fun r : Device => r.controlOwner.setWidth 32) record).trans (byte_word v low (by decide))
    | maintenance =>
      exact exec_set_device (k := 6) (f := .maintenanceOwner) (by decide) free room rfl rfl control rfl (.inr (.inl transparent))
        (map_of_some _ (inRange_zero low))
        fun u record => (congrArg (fun r : Device => r.maintenanceOwner.setWidth 32) record).trans (byte_word v low (by decide))
  · exact exec_set_sensor (k := 2) (f := .staleTimeout) (by decide) free room rfl rfl control rfl (.inl rfl)
      (map_of_some _ (inRange_of_within inside))
      fun u record => (congrArg (fun r : Sensor => natWord r.staleTimeout) record).trans (natWord_toNat v)
  · exact exec_set_pulse (k := 1) (f := .gateLength) (by decide) free room rfl rfl control rfl (if_pos (by simpa using length))
      (natWord_toNat v)
  · exact exec_set_pulse (k := 2) (f := .scale) (by decide) free room rfl rfl control rfl (map_of_some _ (inRange_of_within inside))
      (natWord_toNat v)
  · exact exec_set_zone (k := 6) (f := .hysteresis) (by decide) free room rfl rfl control rfl (.inl rfl)
      (map_of_some _ (inRange_zero low)) (natWord_toNat v)
  · refine set_group_parameter free room control g field q ?_
    simpa only [dminTooHigh_iff] using given
  · rcases given with ⟨x, rfl, value, rfl⟩ | ⟨x, rfl, value, rfl⟩
    · exact exec_set_counter (k := 0) (f := .select) (by decide) free room rfl rfl right rfl (map_of_some _ (value ▸ finOf_val x))
        ((congrArg natWord value.symm).trans (natWord_toNat v))
    · have code : v.toNat = x.code := by
        cases x <;> exact value
      have known : CounterScope.ofCode x.code = some x := by
        cases x with
        | all => rfl
        | portal p =>
          have below := p.isLt
          exact (if_neg (show ¬ p.val = 4 by omega)).trans (map_of_some _ (finOf_val p))
      exact exec_set_counter (k := 1) (f := .scope) (by decide) free room rfl rfl right rfl (map_of_some _ (code ▸ known))
        ((congrArg natWord code.symm).trans (natWord_toNat v))

end Sys2Proof.Machine

/-! SUPPORT. The statement about the structural fields, settled (R52, R74, R92, R94, R131, R150). -/

namespace Sys2Proof.Machine

set_option Elab.async false

/-! ### Values of a structural SET -/

theorem source_word (x : Source) : Source.ofCode (BitVec.ofNat 32 x.code).toNat = some x ∧ natWord x.code = BitVec.ofNat 32 x.code := by
  refine ⟨?_, rfl⟩
  cases x with
  | line => rfl
  | pulse n =>
    have below := n.isLt
    have value : (BitVec.ofNat 32 (n.val + 1)).toNat = n.val + 1 := by
      rw [BitVec.toNat_ofNat]
      omega
    rw [show (Source.pulse n).code = n.val + 1 from rfl, value]
    exact (if_neg (Nat.succ_ne_zero _)).trans (map_of_some _ (finOf_val n))

theorem optFinOf_word {n : Nat} (small : n ≤ 255) (x : Fin n) : optFinOf n (BitVec.ofNat 32 x.val).toNat = some (some x) := by
  have below := x.isLt
  have value : (BitVec.ofNat 32 x.val).toNat = x.val := by
    rw [BitVec.toNat_ofNat]
    omega
  rw [value]
  exact (if_neg (show ¬ x.val = 255 by omega)).trans (map_of_some _ (finOf_val x))

/-- The four bytes of a value make it up (11.1). -/
theorem natWord_of_bytes {v : Word} {a b c d : Byte} (bytes : wordBytes v = [a, b, c, d]) :
    natWord (a.toNat * 2 ^ 24 + b.toNat * 2 ^ 16 + c.toNat * 2 ^ 8 + d.toNat) = v := by
  simp only [wordBytes, List.cons.injEq] at bytes
  obtain ⟨rfl, rfl, rfl, rfl, -⟩ := bytes
  have bound := v.isLt
  refine BitVec.eq_of_toNat_eq ?_
  simp only [natWord, BitVec.toNat_ofNat, BitVec.extractLsb'_toNat, Nat.shiftRight_eq_div_pow]
  omega

/-- A stage list reads back as the bytes that were written (Table 11-12). -/
theorem stageListWord_eq {v : Word} {l : List (Fin 48)} (short : l.length ≤ 4)
    (bytes : wordBytes v = l.map (fun g => BitVec.ofNat 8 g.val) ++ List.replicate (4 - l.length) 255) : stageListWord l = v := by
  have value (g : Fin 48) : (BitVec.ofNat 8 g.val).toNat = g.val := toNat_ofNat_byte (by omega)
  have none : (255 : Byte).toNat = 255 := rfl
  match l with
  | [] =>
    have read := natWord_of_bytes bytes
    simp only [none] at read
    exact read
  | [x] =>
    have read := natWord_of_bytes bytes
    simp only [none, value] at read
    exact read
  | [x, y] =>
    have read := natWord_of_bytes bytes
    simp only [none, value] at read
    exact read
  | [x, y, z] =>
    have read := natWord_of_bytes bytes
    simp only [none, value] at read
    exact read
  | [x, y, z, w] =>
    have read := natWord_of_bytes bytes
    simp only [value] at read
    exact read
  | _ :: _ :: _ :: _ :: _ :: _ =>
    simp only [List.length_cons] at short
    omega

/-- What the statement asks of a structural SET, as the rules take it. -/
theorem takes_of_taken {s : State} {n : Nat} {t : Target} {after : State} (structural : t.restriction = .structural)
    (taken : s.mode = .transparent ∨ ((∀ p ∈ s.concerned t n, s.regulating p = false) ∧ after.lawBroken = none)) :
    s.takes t n after := by
  rcases taken with transparent | ⟨still, whole⟩
  · exact .inr (.inl transparent)
  · exact .inr (.inr ⟨structural, still, whole⟩)

/-- A field set to the value it has, or written by the change, has that value. -/
theorem proj_ite {α β : Type} [DecidableEq β] (proj : α → β) {x : β} {old new : α} (written : proj new = x) :
    proj (if x = proj old then old else new) = x := by
  split
  · next same => exact same.symm
  · exact written

/-- Settles O40: each structural field through the rule of its table. -/
theorem structuralSets : Obligations.StructuralSets := by
  intro h v s after free room control
  refine ⟨fun i f q given same => ?_, fun p f q given same => ?_, fun z f q given same => ?_, fun g f q given same => ?_,
    fun d f q given same => ?_⟩
  all_goals subst same
  · rcases given with ⟨rfl, ⟨b, rfl, rfl⟩, taken⟩ | ⟨rfl, ⟨x, rfl, rfl⟩, taken⟩
    · exact exec_set_sensor (k := 0) (f := .used) (by decide) free room rfl rfl control rfl (takes_of_taken rfl taken)
        (map_of_some _ (boolOf_word b))
        fun u record => (congrArg (fun r : Sensor => boolWord r.used) record).trans (congrArg boolWord (proj_ite Sensor.used rfl))
    · refine exec_set_sensor (k := 1) (f := .source) (by decide) free room rfl rfl control rfl (takes_of_taken rfl taken)
        (map_of_some _ (source_word x).1)
        fun u record => (congrArg (fun r : Sensor => natWord r.source.code) record).trans
          (congrArg (fun y : Source => natWord y.code) (proj_ite Sensor.source ?_))
      split <;> rfl
  · rcases given with ⟨rfl, ⟨b, rfl, rfl⟩, taken⟩ | ⟨rfl, ⟨x, rfl, rfl⟩, taken⟩ | ⟨rfl, ⟨x, rfl, rfl⟩, taken⟩
      | ⟨rfl, ⟨rfl, rfl⟩ | ⟨x, rfl, rfl⟩, taken⟩
    · refine exec_set_portal (k := 0) (f := .used) (by decide) free room rfl rfl control rfl (takes_of_taken rfl taken)
        (map_of_some _ (boolOf_word b))
        fun u record => (congrArg (fun r : Portal => boolWord r.used) record).trans (congrArg boolWord (proj_ite Portal.used ?_))
      cases b <;> rfl
    · exact exec_set_portal (k := 1) (f := .bore) (by decide) free room rfl rfl control rfl (takes_of_taken rfl taken)
        (map_of_some _ (finOf_word (by decide) x)) fun u record => congrArg (fun r : Portal => natWord r.bore.val) record
    · exact exec_set_portal (k := 2) (f := .mainSensor) (by decide) free room rfl rfl control rfl (takes_of_taken rfl taken)
        (map_of_some _ (finOf_word (by decide) x)) fun u record => congrArg (fun r : Portal => natWord r.mainSensor.val) record
    · exact exec_set_portal (k := 3) (f := .reserveSensor) (by decide) free room rfl rfl control rfl (takes_of_taken rfl taken)
        rfl
        fun u record => congrArg (fun r : Portal => natWord (indexCode (r.reserveSensor.map Fin.val))) record
    · exact exec_set_portal (k := 3) (f := .reserveSensor) (by decide) free room rfl rfl control rfl (takes_of_taken rfl taken)
        (map_of_some _ (optFinOf_word (by decide) x))
        fun u record => congrArg (fun r : Portal => natWord (indexCode (r.reserveSensor.map Fin.val))) record
  · rcases given with ⟨rfl, ⟨b, rfl, rfl⟩, taken⟩ | ⟨rfl, ⟨x, rfl, rfl⟩, taken⟩ | ⟨rfl, low, high, rfl, taken⟩
      | ⟨rfl, ⟨l, short, bytes, rfl⟩, taken⟩ | ⟨rfl, ⟨rfl, rfl⟩ | ⟨x, rfl, rfl⟩, taken⟩
    · exact exec_set_zone (k := 0) (f := .used) (by decide) free room rfl rfl control rfl (takes_of_taken rfl taken)
        (map_of_some _ (boolOf_word b)) (congrArg boolWord (proj_ite Zone.used rfl))
    · exact exec_set_zone (k := 1) (f := .portal) (by decide) free room rfl rfl control rfl (takes_of_taken rfl taken)
        (map_of_some _ (finOf_word (by decide) x)) rfl
    · exact exec_set_zone (k := 2) (f := .position) (by decide) free room rfl rfl control rfl (takes_of_taken rfl taken)
        (map_of_some _ (inRange_of_within ⟨low, high⟩)) (natWord_toNat v)
    · exact exec_set_zone (k := 3) (f := .stageList) (by decide) free room rfl rfl control rfl (takes_of_taken rfl taken)
        (map_of_some _ (stageListOf_eq_some.mpr ⟨short, bytes⟩)) (stageListWord_eq short bytes)
    · exact exec_set_zone (k := 4) (f := .reserve) (by decide) free room rfl rfl control rfl (takes_of_taken rfl taken)
        rfl rfl
    · exact exec_set_zone (k := 4) (f := .reserve) (by decide) free room rfl rfl control rfl (takes_of_taken rfl taken)
        (map_of_some _ (optFinOf_word (by decide) x)) rfl
  · rcases given with ⟨rfl, ⟨b, rfl, rfl⟩, taken⟩ | ⟨rfl, low, high, rfl, taken⟩
    · exact exec_set_group (k := 0) (f := .used) (by decide) free room rfl rfl control rfl (takes_of_taken rfl taken)
        (map_of_some _ (boolOf_word b))
        fun u record => (congrArg (fun r : Group => boolWord r.used) record).trans (congrArg boolWord (proj_ite Group.used rfl))
    · exact exec_set_group (k := 1) (f := .groupAddress) (by decide) free room rfl rfl control rfl (takes_of_taken rfl taken)
        (map_of_some _ (inRange_of_within ⟨low, high⟩))
        fun u record => (congrArg (fun r : Group => r.address.setWidth 32) record).trans (byte_word v high (by decide))
  · rcases given with ⟨rfl, ⟨b, rfl, rfl⟩, taken⟩ | ⟨rfl, low, high, rfl, taken⟩ | ⟨rfl, ⟨x, rfl, rfl⟩, taken⟩
    · exact exec_set_driver (k := 0) (f := .used) (by decide) free room rfl rfl control rfl (takes_of_taken rfl taken)
        (map_of_some _ (boolOf_word b)) (congrArg boolWord (proj_ite Driver.used rfl))
    · refine exec_set_driver (k := 1) (f := .lineAddress) (by decide) free room rfl rfl control rfl (takes_of_taken rfl taken)
        (map_of_some _ (inRange_of_within ⟨low, high⟩))
        ((congrArg (fun a : Byte => a.setWidth 32) (proj_ite Driver.address ?_)).trans (byte_word v high (by decide)))
      dsimp only
      split <;> rfl
    · refine exec_set_driver (k := 2) (f := .group) (by decide) free room rfl rfl control rfl (takes_of_taken rfl taken)
        (map_of_some _ (finOf_word (by decide) x)) (congrArg (fun g : Fin 48 => natWord g.val) (proj_ite Driver.group ?_))
      dsimp only
      split <;> rfl

end Sys2Proof.Machine

/-! SUPPORT. The consistency check, settled: what each of its nine parts asks and which row it reports (R153, R154, Table 9-7). -/

namespace Sys2Proof.Machine

set_option Elab.async false

/-! ### The first record that fails -/

theorem exists_least {α : Type} (size : α → Nat) {has : α → Prop} (some : ∃ a, has a) :
    ∃ a, has a ∧ ∀ b, has b → size a ≤ size b := by
  obtain ⟨a, holds⟩ := some
  induction bound : size a using Nat.strongRecOn generalizing a with
  | _ m ih =>
    by_cases less : ∃ b, has b ∧ size b < m
    · obtain ⟨b, fits, below⟩ := less
      exact ih (size b) below b fits rfl
    · exact ⟨a, holds, fun b fits => Nat.not_lt.mp fun below => less ⟨b, fits, bound ▸ below⟩⟩

section
variable {n : Nat}

theorem exists_lowestWith {has : Fin n → Prop} (some : ∃ i, has i) : ∃ i, lowestWith has i := by
  obtain ⟨i, holds, least⟩ := exists_least Fin.val some
  exact ⟨i, holds, fun j below fits => Nat.not_lt.mpr (least j fits) below⟩

theorem find_finRange_eq_some {p : Fin n → Bool} {has : Fin n → Prop} (means : ∀ j, p j = true ↔ has j) {i : Fin n} :
    (List.finRange n).find? p = some i ↔ lowestWith has i := by
  have found {j : Fin n} (lowest : lowestWith has j) : (List.finRange n).find? p = some j :=
    find_finRange_of_lowest ((means j).mpr lowest.1) fun k below => Bool.eq_false_iff.mpr fun holds => lowest.2 k below ((means k).mp holds)
  constructor
  · intro here
    obtain ⟨j, lowest⟩ := exists_lowestWith ⟨i, (means i).mp (List.find?_some here)⟩
    obtain rfl := Option.some.inj ((found lowest).symm.trans here)
    exact lowest
  · exact found

theorem findSome_finRange_eq_some {f : Fin n → Option Nat} {row : Nat} :
    (List.finRange n).findSome? f = some row ↔ ∃ i, lowestWith (fun i => ∃ r, f i = some r) i ∧ f i = some row := by
  have found {i : Fin n} {r : Nat} (lowest : lowestWith (fun i => ∃ r, f i = some r) i) (reports : f i = some r) :
      (List.finRange n).findSome? f = some r := by
    obtain ⟨front, back, split⟩ := List.append_of_mem (List.mem_finRange i)
    have ordered := List.pairwise_lt_finRange n
    rw [split, List.pairwise_append] at ordered
    obtain ⟨-, -, before⟩ := ordered
    rw [List.findSome?_eq_some_iff]
    refine ⟨front, i, back, split, reports, fun j member => ?_⟩
    exact Option.eq_none_iff_forall_ne_some.mpr fun r reports => lowest.2 j (before j member i List.mem_cons_self) ⟨r, reports⟩
  constructor
  · intro here
    obtain ⟨_, i, _, -, reports, -⟩ := List.findSome?_eq_some_iff.mp here
    obtain ⟨j, lowest⟩ := exists_lowestWith (has := fun i => ∃ r, f i = some r) ⟨i, row, reports⟩
    obtain ⟨r, first⟩ := lowest.1
    obtain rfl := Option.some.inj ((found lowest first).symm.trans here)
    exact ⟨j, lowest, first⟩
  · rintro ⟨i, lowest, reports⟩
    exact found lowest reports

section
variable {check : Nat} {examined : Fin n → Bool} {fails : Fin n → Option Nat} {looks : Fin n → Prop} {bad : Fin n → Nat → Prop}
  (sees : ∀ i, examined i = true ↔ looks i) (means : ∀ i, looks i → ∀ row, fails i = some row ↔ bad i row)
include sees means

theorem firstRow_eq_some {k row : Nat} :
    firstRow check examined fails = some { check := k, row := row } ↔ k = check ∧ firstReports looks bad row := by
  have reports (i : Fin n) (r : Nat) : (if examined i then fails i else none) = some r ↔ looks i ∧ bad i r := by
    split
    · next here =>
      have here := (sees i).mp here
      rw [means i here]
      exact ⟨fun wrong => ⟨here, wrong⟩, fun both => both.2⟩
    · next away => exact ⟨fun clash => (by cases clash), fun both => absurd ((sees i).mpr both.1) away⟩
  unfold firstRow firstReports
  rw [Option.map_eq_some_iff]
  simp only [findSome_finRange_eq_some, reports, exists_and_left, Failure.mk.injEq]
  constructor
  · rintro ⟨r, ⟨i, lowest, -, wrong⟩, rfl, rfl⟩
    exact ⟨rfl, i, lowest, wrong⟩
  · rintro ⟨rfl, i, lowest, wrong⟩
    exact ⟨row, ⟨i, lowest, lowest.1.1, wrong⟩, rfl, rfl⟩

theorem firstRow_eq_none : firstRow check examined fails = none ↔ noneFails looks bad := by
  unfold firstRow noneFails
  rw [Option.map_eq_none_iff, List.findSome?_eq_none_iff]
  constructor
  · intro none i here row wrong
    have quiet := none i (List.mem_finRange i)
    rw [if_pos ((sees i).mpr here), (means i here row).mpr wrong] at quiet
    cases quiet
  · intro none i _
    split
    · next here =>
      have here := (sees i).mp here
      exact Option.eq_none_iff_forall_ne_some.mpr fun r reports => none i here r ((means i here r).mp reports)
    · rfl

end

/-! ### Rows -/

/-- A record that fails with another reports the higher index; the other is the lowest that fails with it (log 12). -/
def higherWith (i : Fin n) (clash : Fin n → Prop) (row : Nat) : Prop := ∃ j, lowestWith clash j ∧ row = max i.val j.val

theorem ownRow_eq_some {i : Fin n} {bad : Bool} {row : Nat} : ownRow i bad = some row ↔ bad = true ∧ row = i.val := by
  unfold ownRow
  split <;> simp_all [eq_comm]

theorem ownRow_eq_none {i : Fin n} {bad : Bool} : ownRow i bad = none ↔ ¬ bad = true := by
  unfold ownRow
  split <;> simp_all

section
variable {i : Fin n} {clashes : Fin n → Bool} {clash : Fin n → Prop} (means : ∀ j, (j != i && clashes j) = true ↔ clash j)
include means

theorem pairRow_eq_some {row : Nat} : pairRow i clashes = some row ↔ higherWith i clash row := by
  unfold pairRow higherWith
  rw [Option.map_eq_some_iff]
  simp only [find_finRange_eq_some means, eq_comm]

theorem pairRow_eq_none : pairRow i clashes = none ↔ ∀ j, ¬ clash j := by
  unfold pairRow
  rw [Option.map_eq_none_iff, List.find?_eq_none]
  exact ⟨fun none j here => none j (List.mem_finRange j) ((means j).mpr here), fun none j _ here => none j ((means j).mp here)⟩

end

theorem exists_higherWith {i : Fin n} {clash : Fin n → Prop} : (∃ row, higherWith i clash row) ↔ ∃ j, clash j := by
  constructor
  · rintro ⟨_, j, lowest, -⟩
    exact ⟨j, lowest.1⟩
  · intro some
    obtain ⟨j, lowest⟩ := exists_lowestWith some
    exact ⟨_, j, lowest, rfl⟩

theorem noneFails_iff {looks : Fin n → Prop} {bad : Fin n → Nat → Prop} {good : Fin n → Prop}
    (means : ∀ i, looks i → ((∃ row, bad i row) ↔ ¬ good i)) : noneFails looks bad ↔ ∀ i, looks i → good i := by
  unfold noneFails
  refine forall_congr' fun i => forall_congr' fun here => ?_
  rw [← not_exists, means i here, Classical.not_not]

end

/-! ### What the nine checks ask (Table 9-7)

The scope is none for ACTIVATE and a portal for its RESUME (R153, R154). -/

section
variable (s : State) (scope : Option (Fin 4))

/-- The group stands in a slot of a used zone of the portal. -/
def State.standsIn (g : Fin 48) (p : Fin 4) : Prop := ∃ z : Fin 32, s.zones[z].used = true ∧ s.zones[z].portal = p ∧ g ∈ s.zones[z].standing

def State.seesPortal (p : Fin 4) : Prop := s.portals[p].used = true ∧ ∀ q, scope = some q → p = q

def State.seesZone (z : Fin 32) : Prop := s.zones[z].used = true ∧ ∀ q, scope = some q → s.zones[z].portal = q

def State.seesGroup (g : Fin 48) : Prop := s.groups[g].used = true ∧ ∀ q, scope = some q → s.standsIn g q

def State.seesDriver (d : Fin 160) : Prop := s.drivers[d].used = true ∧ ∀ q, scope = some q → s.standsIn s.drivers[d].group q

def State.seesSensor (i : Fin 8) : Prop :=
  s.sensors[i].used = true ∧ ∀ q, scope = some q → s.portals[q].mainSensor = i ∨ s.portals[q].reserveSensor = some i

def State.portalComplete (p : Fin 4) : Prop :=
  s.sensors[s.portals[p].mainSensor].used = true
    ∧ (∀ i, s.portals[p].reserveSensor = some i → s.sensors[i].used = true)
    ∧ (∃ z : Fin 32, s.zones[z].used = true ∧ s.zones[z].portal = p)
    ∧ s.portals[p].interior ≤ s.portals[p].ceiling

/-- Another used zone of the zone's portal. -/
def State.beside (y z : Fin 32) : Prop := y ≠ z ∧ s.zones[y].used = true ∧ s.zones[y].portal = s.zones[z].portal

/-- A used zone of the portal stands at the position. -/
def State.taken (p : Fin 4) (k : Nat) : Prop :=
  ∃ y : Fin 32, s.zones[y].used = true ∧ s.zones[y].portal = p ∧ s.zones[y].position = k

def State.zoneListed (z : Fin 32) : Prop := s.zones[z].stages ≠ [] ∧ ∀ g ∈ s.zones[z].standing, s.groups[g].used = true

def State.sameGroup (g j : Fin 48) : Prop := j ≠ g ∧ s.groups[j].used = true ∧ s.groups[j].address = s.groups[g].address

def State.sameDriver (d j : Fin 160) : Prop := j ≠ d ∧ s.drivers[j].used = true ∧ s.drivers[j].address = s.drivers[d].address

def State.owned (d : Fin 160) : Prop := s.groups[s.drivers[d].group].used = true

def State.shares (i : Fin 8) (n : Fin 4) (j : Fin 8) : Prop := j ≠ i ∧ s.sensors[j].used = true ∧ s.sensors[j].source = .pulse n

/-- The position is the portal's first gap. -/
def State.gapAt (p : Fin 4) (gap : Nat) : Prop := ¬ s.taken p gap ∧ ∀ m, 1 ≤ m → m < gap → s.taken p m

/-- The zone stands just beyond its portal's first gap (log 12). -/
def State.beyondGap (z : Fin 32) : Prop :=
  ∃ gap, 1 ≤ gap ∧ gap < s.zones[z].position ∧ ¬ s.taken s.zones[z].portal gap
    ∧ (∀ m, 1 ≤ m → m < gap → s.taken s.zones[z].portal m) ∧ ∀ m, gap < m → m < s.zones[z].position → ¬ s.taken s.zones[z].portal m

def State.repeats (z y : Fin 32) : Prop := s.beside y z ∧ s.zones[y].position = s.zones[z].position

/-- The two zones stand at neighbouring positions and the farther has the greater ratio. -/
def State.inverted (z y : Fin 32) : Prop :=
  s.beside y z ∧ ((s.zones[y].position + 1 = s.zones[z].position ∧ s.zones[y].ratio < s.zones[z].ratio)
    ∨ (s.zones[z].position + 1 = s.zones[y].position ∧ s.zones[z].ratio < s.zones[y].ratio))

def State.fails2 (p : Fin 4) (row : Nat) : Prop := ¬ s.portalComplete p ∧ row = p.val

def State.fails3 (z : Fin 32) (row : Nat) : Prop :=
  if s.portals[s.zones[z].portal].used = false then row = z.val
  else higherWith z (s.repeats z) row ∨ ((∀ y, ¬ s.repeats z y) ∧ row = z.val ∧ s.beyondGap z)

def State.fails4 (z : Fin 32) (row : Nat) : Prop := higherWith z (s.inverted z) row

def State.fails5 (z : Fin 32) (row : Nat) : Prop := ¬ s.zoneListed z ∧ row = z.val

def State.fails6 (g : Fin 48) (row : Nat) : Prop := s.slotCount g ≠ 1 ∧ row = g.val

def State.fails7 (g : Fin 48) (row : Nat) : Prop := higherWith g (s.sameGroup g) row

def State.fails8 (d : Fin 160) (row : Nat) : Prop := (¬ s.owned d ∧ row = d.val) ∨ (s.owned d ∧ higherWith d (s.sameDriver d) row)

def State.fails9 (i : Fin 8) (row : Nat) : Prop :=
  (s.roleCount i ≠ 1 ∧ row = i.val)
    ∨ (s.roleCount i = 1 ∧ ∃ n, s.sensors[i].source = .pulse n
      ∧ ((s.pulses[n].enable = false ∧ row = i.val) ∨ (s.pulses[n].enable = true ∧ higherWith i (s.shares i n) row)))

end

/-! ### The records examined -/

section
variable {s : State} {scope : Option (Fin 4)}

theorem examinesPortal_iff (p : Fin 4) : s.examinesPortal scope p = true ↔ s.seesPortal scope p := by
  unfold State.examinesPortal State.seesPortal
  simp only [Bool.and_eq_true, Option.all_eq_true, beq_iff_eq, eq_comm (b := p)]

theorem examinesZone_iff (z : Fin 32) : s.examinesZone scope z = true ↔ s.seesZone scope z := by
  unfold State.examinesZone State.seesZone
  simp only [Bool.and_eq_true, Option.all_eq_true, beq_iff_eq, eq_comm (b := s.zones[z].portal)]

theorem standsIn_iff {g : Fin 48} {p : Fin 4} : ((s.zonesOfGroup g).any fun z => s.zones[z].portal == p) = true ↔ s.standsIn g p := by
  unfold State.standsIn
  simp only [List.any_eq_true, mem_zonesOfGroup, beq_iff_eq]
  exact exists_congr fun z => ⟨fun ⟨⟨used, stands⟩, here⟩ => ⟨used, here, stands⟩, fun ⟨used, here, stands⟩ => ⟨⟨used, stands⟩, here⟩⟩

theorem examinesGroup_iff (g : Fin 48) : s.examinesGroup scope g = true ↔ s.seesGroup scope g := by
  unfold State.examinesGroup State.seesGroup
  simp only [Bool.and_eq_true, Option.all_eq_true, standsIn_iff]

theorem examinesDriver_iff (d : Fin 160) : s.examinesDriver scope d = true ↔ s.seesDriver scope d := by
  unfold State.examinesDriver State.seesDriver
  simp only [Bool.and_eq_true, Option.all_eq_true, standsIn_iff]

theorem examinesSensor_iff (i : Fin 8) : s.examinesSensor scope i = true ↔ s.seesSensor scope i := by
  unfold State.examinesSensor State.seesSensor Portal.names
  simp only [Bool.and_eq_true, Option.all_eq_true, Bool.or_eq_true, beq_iff_eq]

/-! ### Positions and the first gap -/

theorem hasPosition_iff {p : Fin 4} {k : Nat} : s.hasPosition p k = true ↔ s.taken p k := by
  unfold State.hasPosition State.taken
  simp only [List.any_eq_true, List.mem_finRange, true_and, Bool.and_eq_true, beq_iff_eq, and_assoc]

theorem firstGap_eq_iff {p : Fin 4} {gap : Nat} (low : 1 ≤ gap) (high : gap ≤ 8) : s.firstGap p = gap ↔ s.gapAt p gap := by
  have found {k : Nat} : ((List.range 8).map (· + 1)).find? (fun k => !s.hasPosition p k) = some k ↔ 1 ≤ k ∧ k ≤ 8 ∧ s.gapAt p k := by
    unfold State.gapAt
    rw [List.find?_eq_some_iff_getElem]
    simp only [Bool.not_eq_true', ← Bool.not_eq_true, hasPosition_iff, List.getElem_map, List.getElem_range, List.length_map, List.length_range,
      Bool.not_not]
    constructor
    · rintro ⟨free, i, room, rfl, below⟩
      refine ⟨by omega, by omega, free, fun m from1 under => ?_⟩
      have := below (m - 1) (by omega)
      rwa [Nat.sub_add_cancel from1] at this
    · rintro ⟨from1, to8, free, below⟩
      exact ⟨free, k - 1, by omega, by omega, fun j under => below (j + 1) (by omega) (by omega)⟩
  unfold State.firstGap
  cases search : ((List.range 8).map (· + 1)).find? (fun k => !s.hasPosition p k) with
  | none =>
    refine ⟨fun past => ?_, fun here => ?_⟩
    · rw [Option.getD_none] at past
      omega
    · rw [found.mpr ⟨low, high, here⟩] at search
      cases search
  | some k =>
    obtain ⟨-, -, gapped⟩ := found.mp search
    rw [Option.getD_some]
    refine ⟨fun same => same ▸ gapped, fun here => ?_⟩
    rw [found.mpr ⟨low, high, here⟩] at search
    exact (Option.some.inj search).symm

theorem firstGap_pos (p : Fin 4) : 1 ≤ s.firstGap p := by
  unfold State.firstGap
  cases search : ((List.range 8).map (· + 1)).find? (fun k => !s.hasPosition p k) with
  | none => decide
  | some k =>
    obtain ⟨j, -, rfl⟩ := List.mem_map.mp (List.mem_of_find?_eq_some search)
    exact Nat.le_add_left 1 j

theorem afterGap_iff {z : Fin 32} (high : s.zones[z].position ≤ 8) : s.afterGap z = true ↔ s.beyondGap z := by
  unfold State.afterGap State.beyondGap
  simp only [Bool.and_eq_true, decide_eq_true_eq, Bool.not_eq_true', List.any_eq_false, List.mem_range, hasPosition_iff, not_and]
  constructor
  · rintro ⟨under, empty⟩
    have low := firstGap_pos (s := s) s.zones[z].portal
    obtain ⟨free, full⟩ := (firstGap_eq_iff low (by omega)).mp rfl
    refine ⟨_, low, under, free, full, fun m above below => ?_⟩
    have := empty (m - 1) (by omega)
    rw [Nat.sub_add_cancel (by omega)] at this
    exact this ⟨above, below⟩
  · rintro ⟨gap, low, under, free, full, empty⟩
    obtain rfl := (firstGap_eq_iff low (by omega)).mpr ⟨free, full⟩
    exact ⟨under, fun m _ range => empty _ range.1 range.2⟩

end

end Sys2Proof.Machine

/-! SUPPORT. The consistency check as a whole: O45 (R153, R154, Table 9-7). -/

namespace Sys2Proof.Machine

set_option Elab.async false

/-! ### Each check reports the rows of its table entry -/

section
variable {s : State} {scope : Option (Fin 4)} {check row : Nat}

theorem repeats_iff {z : Fin 32} (y : Fin 32) :
    (y != z && (s.zones[y].used && s.zones[y].portal == s.zones[z].portal && s.zones[y].position == s.zones[z].position)) = true
      ↔ s.repeats z y := by
  unfold State.repeats State.beside
  simp only [Bool.and_eq_true, bne_iff_ne, beq_iff_eq, and_assoc]

theorem inverted_iff {z : Fin 32} (y : Fin 32) :
    (y != z && (s.zones[y].used && s.zones[y].portal == s.zones[z].portal
        && ((s.zones[y].position + 1 == s.zones[z].position && decide (s.zones[y].ratio < s.zones[z].ratio))
          || (s.zones[z].position + 1 == s.zones[y].position && decide (s.zones[z].ratio < s.zones[y].ratio))))) = true
      ↔ s.inverted z y := by
  unfold State.inverted State.beside
  simp only [Bool.and_eq_true, Bool.or_eq_true, bne_iff_ne, beq_iff_eq, decide_eq_true_eq, and_assoc]

theorem sameGroup_iff {g : Fin 48} (j : Fin 48) :
    (j != g && (s.groups[j].used && s.groups[j].address == s.groups[g].address)) = true ↔ s.sameGroup g j := by
  unfold State.sameGroup
  simp only [Bool.and_eq_true, bne_iff_ne, beq_iff_eq]

theorem sameDriver_iff {d : Fin 160} (j : Fin 160) :
    (j != d && (s.drivers[j].used && s.drivers[j].address == s.drivers[d].address)) = true ↔ s.sameDriver d j := by
  unfold State.sameDriver
  simp only [Bool.and_eq_true, bne_iff_ne, beq_iff_eq]

theorem shares_iff {i : Fin 8} {n : Fin 4} (j : Fin 8) :
    (j != i && (s.sensors[j].used && s.sensors[j].source == .pulse n)) = true ↔ s.shares i n j := by
  unfold State.shares
  simp only [Bool.and_eq_true, bne_iff_ne, beq_iff_eq]

theorem portalComplete_iff {p : Fin 4} :
    (s.sensors[s.portals[p].mainSensor].used
      && (s.portals[p].reserveSensor.all fun i => s.sensors[i].used)
      && ((List.finRange 32).any fun z => s.zones[z].used && s.zones[z].portal == p)
      && decide (s.portals[p].interior ≤ s.portals[p].ceiling)) = true ↔ s.portalComplete p := by
  unfold State.portalComplete
  simp only [Bool.and_eq_true, Option.all_eq_true, List.any_eq_true, List.mem_finRange, true_and, beq_iff_eq, decide_eq_true_eq, and_assoc]

/-! ### Each check reports the rows of its table entry -/

theorem check1_eq_none : s.check1 = none ↔ ∃ p : Fin 4, s.portals[p].used = true := by
  unfold State.check1
  simp only [List.any_eq_true, List.mem_finRange, true_and, ite_eq_left_iff, reduceCtorEq, imp_false, Classical.not_not]

theorem check1_eq_some : s.check1 = some { check := check, row := row } ↔ check = 1 ∧ (¬ ∃ p : Fin 4, s.portals[p].used = true) ∧ row = 255 := by
  by_cases some1 : ∃ p : Fin 4, s.portals[p].used = true
  · rw [check1_eq_none.mpr some1]
    exact ⟨fun clash => (by cases clash), fun ⟨_, none1, _⟩ => absurd some1 none1⟩
  · have reports : s.check1 = some { check := 1, row := 255 } := by
      unfold State.check1
      rw [if_neg]
      simpa only [List.any_eq_true, List.mem_finRange, true_and] using some1
    rw [reports, Option.some.injEq, Failure.mk.injEq]
    exact ⟨fun ⟨is1, is255⟩ => ⟨is1.symm, some1, is255.symm⟩, fun ⟨is1, _, is255⟩ => ⟨is1.symm, is255.symm⟩⟩

theorem fails2_iff (p : Fin 4) (row : Nat) :
    ownRow p (!(s.sensors[s.portals[p].mainSensor].used
      && (s.portals[p].reserveSensor.all fun i => s.sensors[i].used)
      && ((List.finRange 32).any fun z => s.zones[z].used && s.zones[z].portal == p)
      && decide (s.portals[p].interior ≤ s.portals[p].ceiling))) = some row ↔ s.fails2 p row := by
  unfold State.fails2
  rw [ownRow_eq_some, Bool.not_eq_true', ← Bool.not_eq_true, portalComplete_iff]

theorem check2_eq_some :
    s.check2 scope = some { check := check, row := row } ↔ check = 2 ∧ firstReports (s.seesPortal scope) s.fails2 row :=
  firstRow_eq_some examinesPortal_iff fun p _ => fails2_iff p

theorem check2_eq_none : s.check2 scope = none ↔ noneFails (s.seesPortal scope) s.fails2 :=
  firstRow_eq_none examinesPortal_iff fun p _ => fails2_iff p

theorem fails3_iff (sound : s.configSound) (z : Fin 32) (row : Nat) :
    (ownRow z !s.portals[s.zones[z].portal].used).or
      ((pairRow z fun j => s.zones[j].used && s.zones[j].portal == s.zones[z].portal && s.zones[j].position == s.zones[z].position).or
        (ownRow z (s.afterGap z))) = some row ↔ s.fails3 z row := by
  obtain ⟨-, -, -, -, zones, -⟩ := sound
  have high : s.zones[z].position ≤ 8 := (zones z).1.2
  unfold State.fails3
  rw [Option.or_eq_some_iff, Option.or_eq_some_iff, pairRow_eq_some repeats_iff, pairRow_eq_none repeats_iff, ownRow_eq_some, ownRow_eq_none,
    ownRow_eq_some, afterGap_iff high]
  cases s.portals[s.zones[z].portal].used with
  | true => simp only [Bool.not_true, Bool.false_eq_true, false_and, not_false_eq_true, true_and, false_or, reduceCtorEq, if_false,
      and_comm (a := s.beyondGap z)]
  | false => simp only [Bool.not_false, true_and, not_true_eq_false, false_and, or_false, if_true]

theorem check3_eq_some (sound : s.configSound) :
    s.check3 scope = some { check := check, row := row } ↔ check = 3 ∧ firstReports (s.seesZone scope) s.fails3 row :=
  firstRow_eq_some examinesZone_iff fun z _ => fails3_iff sound z

theorem check3_eq_none (sound : s.configSound) : s.check3 scope = none ↔ noneFails (s.seesZone scope) s.fails3 :=
  firstRow_eq_none examinesZone_iff fun z _ => fails3_iff sound z

theorem check4_eq_some :
    s.check4 scope = some { check := check, row := row } ↔ check = 4 ∧ firstReports (s.seesZone scope) s.fails4 row :=
  firstRow_eq_some examinesZone_iff fun _ _ _ => pairRow_eq_some inverted_iff

theorem check4_eq_none : s.check4 scope = none ↔ noneFails (s.seesZone scope) s.fails4 :=
  firstRow_eq_none examinesZone_iff fun _ _ _ => pairRow_eq_some inverted_iff

theorem fails5_iff (z : Fin 32) (row : Nat) :
    ownRow z (s.zones[z].stages.isEmpty || !(s.zones[z].standing.all fun g => s.groups[g].used)) = some row ↔ s.fails5 z row := by
  unfold State.fails5 State.zoneListed
  rw [ownRow_eq_some]
  simp only [Bool.or_eq_true, List.isEmpty_iff, Bool.not_eq_true', ← Bool.not_eq_true, List.all_eq_true,
    Classical.not_and_iff_not_or_not, ne_eq, Classical.not_not]

theorem check5_eq_some :
    s.check5 scope = some { check := check, row := row } ↔ check = 5 ∧ firstReports (s.seesZone scope) s.fails5 row :=
  firstRow_eq_some examinesZone_iff fun z _ => fails5_iff z

theorem check5_eq_none : s.check5 scope = none ↔ noneFails (s.seesZone scope) s.fails5 :=
  firstRow_eq_none examinesZone_iff fun z _ => fails5_iff z

theorem fails6_iff (g : Fin 48) (row : Nat) : ownRow g (s.slotCount g != 1) = some row ↔ s.fails6 g row := by
  unfold State.fails6
  rw [ownRow_eq_some, bne_iff_ne]

theorem check6_eq_some :
    s.check6 scope = some { check := check, row := row } ↔ check = 6 ∧ firstReports (s.seesGroup scope) s.fails6 row :=
  firstRow_eq_some examinesGroup_iff fun g _ => fails6_iff g

theorem check6_eq_none : s.check6 scope = none ↔ noneFails (s.seesGroup scope) s.fails6 :=
  firstRow_eq_none examinesGroup_iff fun g _ => fails6_iff g

theorem check7_eq_some :
    s.check7 scope = some { check := check, row := row } ↔ check = 7 ∧ firstReports (s.seesGroup scope) s.fails7 row :=
  firstRow_eq_some examinesGroup_iff fun _ _ _ => pairRow_eq_some sameGroup_iff

theorem check7_eq_none : s.check7 scope = none ↔ noneFails (s.seesGroup scope) s.fails7 :=
  firstRow_eq_none examinesGroup_iff fun _ _ _ => pairRow_eq_some sameGroup_iff

theorem fails8_iff (d : Fin 160) (row : Nat) :
    (ownRow d !s.groups[s.drivers[d].group].used).or
      (pairRow d fun j => s.drivers[j].used && s.drivers[j].address == s.drivers[d].address) = some row ↔ s.fails8 d row := by
  unfold State.fails8 State.owned
  rw [Option.or_eq_some_iff, pairRow_eq_some sameDriver_iff, ownRow_eq_some, ownRow_eq_none]
  simp only [Bool.not_eq_true', ← Bool.not_eq_true, Classical.not_not]

theorem check8_eq_some :
    s.check8 scope = some { check := check, row := row } ↔ check = 8 ∧ firstReports (s.seesDriver scope) s.fails8 row :=
  firstRow_eq_some examinesDriver_iff fun d _ => fails8_iff d

theorem check8_eq_none : s.check8 scope = none ↔ noneFails (s.seesDriver scope) s.fails8 :=
  firstRow_eq_none examinesDriver_iff fun d _ => fails8_iff d

/-- The row that a sensor's source gives: its input unmarked, or shared. -/
def State.sourceRow (s : State) (i : Fin 8) : Source → Option Nat
  | .line => none
  | .pulse n => (ownRow i !s.pulses[n].enable).or (pairRow i fun j => s.sensors[j].used && s.sensors[j].source == .pulse n)

theorem sourceRow_eq_some {i : Fin 8} {source : Source} {row : Nat} :
    s.sourceRow i source = some row ↔ ∃ n, source = .pulse n
      ∧ ((s.pulses[n].enable = false ∧ row = i.val) ∨ (s.pulses[n].enable = true ∧ higherWith i (s.shares i n) row)) := by
  cases source with
  | line => simp only [State.sourceRow, reduceCtorEq, false_and, exists_false]
  | pulse n =>
    simp only [State.sourceRow, Option.or_eq_some_iff, pairRow_eq_some shares_iff, ownRow_eq_some, ownRow_eq_none, Bool.not_eq_true',
      Source.pulse.injEq, exists_eq_left', Bool.not_eq_false]

theorem fails9_iff (i : Fin 8) (row : Nat) :
    (ownRow i (s.roleCount i != 1)).or (s.sourceRow i s.sensors[i].source) = some row ↔ s.fails9 i row := by
  unfold State.fails9
  rw [Option.or_eq_some_iff, ownRow_eq_some, ownRow_eq_none, sourceRow_eq_some, bne_iff_ne, ne_eq, Classical.not_not]

theorem check9_eq : s.check9 scope = firstRow 9 (s.examinesSensor scope) fun i =>
    (ownRow i (s.roleCount i != 1)).or (s.sourceRow i s.sensors[i].source) := by
  unfold State.check9 firstRow
  refine congrArg _ (congrArg (fun f => (List.finRange 8).findSome? f) (funext fun i => ?_))
  cases s.sensors[i].source <;> rfl

theorem check9_eq_some :
    s.check9 scope = some { check := check, row := row } ↔ check = 9 ∧ firstReports (s.seesSensor scope) s.fails9 row := by
  rw [check9_eq]
  exact firstRow_eq_some examinesSensor_iff fun i _ => fails9_iff i

theorem check9_eq_none : s.check9 scope = none ↔ noneFails (s.seesSensor scope) s.fails9 := by
  rw [check9_eq]
  exact firstRow_eq_none examinesSensor_iff fun i _ => fails9_iff i

/-! ### A record that fails no check -/

theorem not_or_and_self_left {a b : Prop} : ¬a ∨ a ∧ b ↔ ¬a ∨ b := by
  by_cases holds : a
  · simp only [holds, true_and]
  · simp only [holds, not_false_eq_true, true_or]

theorem noneFails2_iff : noneFails (s.seesPortal scope) s.fails2 ↔ ∀ p, s.seesPortal scope p → s.portalComplete p :=
  noneFails_iff fun p _ => by
    unfold State.fails2
    simp only [exists_and_left, exists_eq, and_true]

theorem noneFails3_iff : noneFails (s.seesZone scope) s.fails3 ↔ ∀ z, s.seesZone scope z →
    s.portals[s.zones[z].portal].used = true ∧ (∀ y, ¬ s.repeats z y) ∧ ¬ s.beyondGap z :=
  noneFails_iff fun z _ => by
    unfold State.fails3
    cases s.portals[s.zones[z].portal].used with
    | false => simp
    | true =>
      simp only [Bool.true_eq_false, if_false, true_and, exists_or, exists_higherWith, exists_and_left, exists_eq_left,
        Classical.not_and_iff_not_or_not, Classical.not_forall, Classical.not_not]
      rw [← Classical.not_forall_not]
      exact not_or_and_self_left

theorem noneFails4_iff : noneFails (s.seesZone scope) s.fails4 ↔ ∀ z, s.seesZone scope z → ∀ y, ¬ s.inverted z y :=
  noneFails_iff fun z _ => by
    unfold State.fails4
    rw [exists_higherWith, Classical.not_forall_not]

theorem noneFails5_iff : noneFails (s.seesZone scope) s.fails5 ↔ ∀ z, s.seesZone scope z → s.zoneListed z :=
  noneFails_iff fun z _ => by
    unfold State.fails5
    simp only [exists_and_left, exists_eq, and_true]

theorem noneFails6_iff : noneFails (s.seesGroup scope) s.fails6 ↔ ∀ g, s.seesGroup scope g → s.slotCount g = 1 :=
  noneFails_iff fun g _ => by
    unfold State.fails6
    simp only [exists_and_left, exists_eq, and_true, ne_eq]

theorem noneFails7_iff : noneFails (s.seesGroup scope) s.fails7 ↔ ∀ g, s.seesGroup scope g → ∀ j, ¬ s.sameGroup g j :=
  noneFails_iff fun g _ => by
    unfold State.fails7
    rw [exists_higherWith, Classical.not_forall_not]

theorem noneFails8_iff :
    noneFails (s.seesDriver scope) s.fails8 ↔ ∀ d, s.seesDriver scope d → s.owned d ∧ ∀ j, ¬ s.sameDriver d j :=
  noneFails_iff fun d _ => by
    unfold State.fails8
    simp only [exists_or, exists_and_left, exists_eq, and_true, exists_higherWith, Classical.not_and_iff_not_or_not, Classical.not_forall,
      Classical.not_not]
    exact not_or_and_self_left

theorem noneFails9_iff : noneFails (s.seesSensor scope) s.fails9 ↔ ∀ i, s.seesSensor scope i →
    s.roleCount i = 1 ∧ ∀ n, s.sensors[i].source = .pulse n → s.pulses[n].enable = true ∧ ∀ j, ¬ s.shares i n j :=
  noneFails_iff fun i _ => by
    unfold State.fails9
    cases s.sensors[i].source with
    | line => simp
    | pulse n =>
      simp only [Source.pulse.injEq, exists_eq_left', forall_eq', exists_or, exists_and_left, exists_eq, and_true, exists_higherWith,
        Classical.not_and_iff_not_or_not, Classical.not_forall, Classical.not_not, ne_eq, ← Bool.not_eq_true, not_or_and_self_left]

/-! ### Positions from 1 without a gap, ratios that do not increase -/

/-- In the scope, every position below a zone's is taken when no zone stands just beyond a gap. -/
theorem gapless_iff : (∀ z, s.seesZone scope z → ¬ s.beyondGap z)
    ↔ ∀ z, s.seesZone scope z → ∀ k, 1 ≤ k → k < s.zones[z].position → s.taken s.zones[z].portal k := by
  constructor
  · intro none z sees k low under
    refine Classical.byContradiction fun free => ?_
    obtain ⟨gap, ⟨from1, gapped⟩, first⟩ :=
      exists_least id (has := fun k => 1 ≤ k ∧ ¬ s.taken s.zones[z].portal k) ⟨k, low, free⟩
    have under : gap < s.zones[z].position := Nat.lt_of_le_of_lt (first k ⟨low, free⟩) under
    obtain ⟨y, ⟨used, same, above⟩, least⟩ := exists_least (fun y : Fin 32 => s.zones[y].position)
      (has := fun y => s.zones[y].used = true ∧ s.zones[y].portal = s.zones[z].portal ∧ gap < s.zones[y].position) ⟨z, sees.1, rfl, under⟩
    refine none y ⟨used, same ▸ sees.2⟩ ⟨gap, from1, above, same ▸ gapped, fun m low below => ?_, fun m past below => ?_⟩
    · rw [same]
      refine Classical.byContradiction fun free => ?_
      exact Nat.not_lt.mpr (first m ⟨low, free⟩) below
    · rintro ⟨x, usedX, sameX, rfl⟩
      exact Nat.not_lt.mpr (least x ⟨usedX, sameX.trans same, past⟩) below
  · rintro full z sees ⟨gap, low, under, free, -⟩
    exact free (full z sees gap low under)

theorem unrepeated_iff {z : Fin 32} : (∀ y, ¬ s.repeats z y) ↔ ∀ y, s.beside y z → s.zones[y].position ≠ s.zones[z].position := by
  unfold State.repeats
  simp only [not_and, ne_eq]

/-- The zone beside one in the scope is in it too. -/
theorem seesZone_beside {y z : Fin 32} (sees : s.seesZone scope z) (by_z : s.beside y z) : s.seesZone scope y :=
  ⟨by_z.2.1, by_z.2.2.symm ▸ sees.2⟩

theorem beside_symm {y z : Fin 32} (used : s.zones[z].used = true) (by_z : s.beside y z) : s.beside z y :=
  ⟨by_z.1.symm, used, by_z.2.2.symm⟩

/-- Neighbours in order put every pair in order, when the positions hold no gap. -/
theorem ratio_le_of_neighbours (unrepeated : ∀ z, s.seesZone scope z → ∀ y, s.beside y z → s.zones[y].position ≠ s.zones[z].position)
    (full : ∀ z, s.seesZone scope z → ∀ k, 1 ≤ k → k < s.zones[z].position → s.taken s.zones[z].portal k)
    (ordered : ∀ z, s.seesZone scope z → ∀ y, ¬ s.inverted z y) (low : ∀ z : Fin 32, 1 ≤ s.zones[z].position) (y : Fin 32) (n : Nat) :
    ∀ z, s.seesZone scope z → s.beside y z → s.zones[z].position = s.zones[y].position + n → s.zones[z].ratio ≤ s.zones[y].ratio := by
  induction n with
  | zero => exact fun z sees by_z here => absurd here.symm (unrepeated z sees y by_z)
  | succ n ih =>
    intro z sees by_z here
    obtain ⟨x, used, same, next⟩ := full z sees (s.zones[y].position + n) (Nat.le_trans (low y) (Nat.le_add_right _ n)) (by omega)
    have by_x : s.beside x z := ⟨fun is_z => by rw [is_z] at next; omega, used, same⟩
    have step : s.zones[z].ratio ≤ s.zones[x].ratio :=
      Nat.not_lt.mp fun less => ordered z sees x ⟨by_x, .inl ⟨by omega, less⟩⟩
    by_cases is_y : y = x
    · exact is_y ▸ step
    · exact Nat.le_trans step (ih x (seesZone_beside sees by_x) ⟨is_y, by_z.2.1, by_z.2.2.trans same.symm⟩ next)

theorem ordered_iff (unrepeated : ∀ z, s.seesZone scope z → ∀ y, s.beside y z → s.zones[y].position ≠ s.zones[z].position)
    (full : ∀ z, s.seesZone scope z → ∀ k, 1 ≤ k → k < s.zones[z].position → s.taken s.zones[z].portal k)
    (low : ∀ z : Fin 32, 1 ≤ s.zones[z].position) :
    (∀ z, s.seesZone scope z → ∀ y, ¬ s.inverted z y) ↔
      ∀ y z, s.seesZone scope z → s.beside y z → s.zones[y].position ≤ s.zones[z].position → s.zones[z].ratio ≤ s.zones[y].ratio := by
  constructor
  · intro ordered y z sees by_z under
    exact ratio_le_of_neighbours unrepeated full ordered low y _ z sees by_z (Nat.add_sub_of_le under).symm
  · rintro falls z sees y ⟨by_z, ⟨next, less⟩ | ⟨next, less⟩⟩
    · exact absurd (falls y z sees by_z (by omega)) (Nat.not_le.mpr less)
    · exact absurd (falls z y (seesZone_beside sees by_z) (beside_symm sees.1 by_z) (by omega)) (Nat.not_le.mpr less)

/-! ### The nine checks in order -/

theorem findSome_cons_id {α : Type} (o : Option α) (l : List (Option α)) : (o :: l).findSome? id = o.or (l.findSome? id) := by
  cases o <;> rfl

theorem consistency_eq : s.consistency scope =
    s.check1.or ((s.check2 scope).or ((s.check3 scope).or ((s.check4 scope).or ((s.check5 scope).or ((s.check6 scope).or ((s.check7 scope).or
      ((s.check8 scope).or (s.check9 scope)))))))) := by
  unfold State.consistency
  simp only [findSome_cons_id, List.findSome?_nil, Option.or_none]

/-- One more check: passed so far and failing here, or passed so far and here and failing later. -/
theorem next_check_iff {before here reports passes later : Prop} :
    before ∧ ((here ∧ reports) ∨ (passes ∧ later)) ↔ (here ∧ before ∧ reports) ∨ ((before ∧ passes) ∧ later) := by
  rw [and_or_left, and_left_comm, and_assoc]

theorem consistency_eq_none (sound : s.configSound) : s.consistency scope = none ↔
    (∃ p : Fin 4, s.portals[p].used = true) ∧ (∀ p, s.seesPortal scope p → s.portalComplete p)
      ∧ (∀ z, s.seesZone scope z → s.portals[s.zones[z].portal].used = true
          ∧ (∀ y, s.beside y z → s.zones[y].position ≠ s.zones[z].position)
          ∧ ∀ k, 1 ≤ k → k < s.zones[z].position → s.taken s.zones[z].portal k)
      ∧ (∀ y z, s.seesZone scope z → s.beside y z → s.zones[y].position ≤ s.zones[z].position → s.zones[z].ratio ≤ s.zones[y].ratio)
      ∧ (∀ z, s.seesZone scope z → s.zoneListed z)
      ∧ (∀ g, s.seesGroup scope g → s.slotCount g = 1)
      ∧ (∀ g j, s.seesGroup scope g → ¬ s.sameGroup g j)
      ∧ (∀ d, s.seesDriver scope d → s.owned d ∧ ∀ j, ¬ s.sameDriver d j)
      ∧ ∀ i, s.seesSensor scope i → s.roleCount i = 1
          ∧ ∀ n, s.sensors[i].source = .pulse n → s.pulses[n].enable = true ∧ ∀ j, ¬ s.shares i n j := by
  rw [consistency_eq]
  simp only [Option.or_eq_none_iff, check1_eq_none, check2_eq_none, check3_eq_none sound, check4_eq_none, check5_eq_none, check6_eq_none,
    check7_eq_none, check8_eq_none, check9_eq_none, noneFails2_iff, noneFails3_iff, noneFails4_iff, noneFails5_iff, noneFails6_iff,
    noneFails7_iff, noneFails8_iff, noneFails9_iff, unrepeated_iff]
  have zonesGood : (∀ z, s.seesZone scope z → s.portals[s.zones[z].portal].used = true
        ∧ (∀ y, s.beside y z → s.zones[y].position ≠ s.zones[z].position) ∧ ¬ s.beyondGap z)
      ↔ ∀ z, s.seesZone scope z → s.portals[s.zones[z].portal].used = true
        ∧ (∀ y, s.beside y z → s.zones[y].position ≠ s.zones[z].position)
        ∧ ∀ k, 1 ≤ k → k < s.zones[z].position → s.taken s.zones[z].portal k := by
    simp only [imp_and, forall_and, gapless_iff]
  rw [zonesGood]
  refine and_congr_right fun _ => and_congr_right fun _ => and_congr_right fun zones => and_congr ?_ (and_congr_right fun _ =>
    and_congr_right fun _ => and_congr_left fun _ => ?_)
  · obtain ⟨-, -, -, -, zonesSound, -⟩ := sound
    exact ordered_iff (fun z sees => (zones z sees).2.1) (fun z sees => (zones z sees).2.2) fun z => (zonesSound z).1.1
  · exact forall_congr' fun g => ⟨fun none j sees => none sees j, fun none sees j => none j sees⟩

theorem consistency_eq_some (sound : s.configSound) :
    let pass2 := (∃ p : Fin 4, s.portals[p].used = true) ∧ noneFails (s.seesPortal scope) s.fails2
    let pass3 := pass2 ∧ noneFails (s.seesZone scope) s.fails3
    let pass4 := pass3 ∧ noneFails (s.seesZone scope) s.fails4
    let pass5 := pass4 ∧ noneFails (s.seesZone scope) s.fails5
    let pass6 := pass5 ∧ noneFails (s.seesGroup scope) s.fails6
    let pass7 := pass6 ∧ noneFails (s.seesGroup scope) s.fails7
    let pass8 := pass7 ∧ noneFails (s.seesDriver scope) s.fails8
    s.consistency scope = some { check := check, row := row } ↔
      (check = 1 ∧ (¬ ∃ p : Fin 4, s.portals[p].used = true) ∧ row = 255)
        ∨ (check = 2 ∧ (∃ p : Fin 4, s.portals[p].used = true) ∧ firstReports (s.seesPortal scope) s.fails2 row)
        ∨ (check = 3 ∧ pass2 ∧ firstReports (s.seesZone scope) s.fails3 row)
        ∨ (check = 4 ∧ pass3 ∧ firstReports (s.seesZone scope) s.fails4 row)
        ∨ (check = 5 ∧ pass4 ∧ firstReports (s.seesZone scope) s.fails5 row)
        ∨ (check = 6 ∧ pass5 ∧ firstReports (s.seesGroup scope) s.fails6 row)
        ∨ (check = 7 ∧ pass6 ∧ firstReports (s.seesGroup scope) s.fails7 row)
        ∨ (check = 8 ∧ pass7 ∧ firstReports (s.seesDriver scope) s.fails8 row)
        ∨ (check = 9 ∧ pass8 ∧ firstReports (s.seesSensor scope) s.fails9 row) := by
  intro pass2 pass3 pass4 pass5 pass6 pass7 pass8
  rw [consistency_eq]
  simp only [Option.or_eq_some_iff, check1_eq_some, check2_eq_some, check3_eq_some sound, check4_eq_some, check5_eq_some, check6_eq_some,
    check7_eq_some, check8_eq_some, check9_eq_some, check1_eq_none, check2_eq_none, check3_eq_none sound, check4_eq_none, check5_eq_none,
    check6_eq_none, check7_eq_none, check8_eq_none]
  exact or_congr_right (next_check_iff.trans (or_congr_right (next_check_iff.trans (or_congr_right (next_check_iff.trans (or_congr_right (
    next_check_iff.trans (or_congr_right (next_check_iff.trans (or_congr_right (next_check_iff.trans (or_congr_right (next_check_iff.trans (or_congr_right (and_left_comm)))))))))))))))

end

/-- Settles O45: each check is read off as what its table entry asks; the checks chain in order, each reached when those before it pass. -/
theorem consistencyCheckMeaning : Obligations.ConsistencyCheckMeaning := by
  unfold Obligations.ConsistencyCheckMeaning
  intro scope s sound _
  exact ⟨consistency_eq_none sound, fun check row => consistency_eq_some sound⟩

end Sys2Proof.Machine

/-! SUPPORT. The stages of a zone: which go on, which goes off, and the handovers: O34, O35 (R102 to R107, Table 6-4). -/

namespace Sys2Proof.Machine

set_option Elab.async false

/-! ### The places of a zone, in stage-list order -/

/-- The place of a slot in the order of the stage list, the reserve last. -/
def Place.rank : Place → Nat
  | .stage n => n.val
  | .reserve => 4

section
variable {z : Zone} {q : Place} {g : Fin 48}

theorem mem_places :
    (q, g) ∈ z.places ↔ (∃ n : Fin 4, q = .stage n ∧ z.stages[n.val]? = some g) ∨ (q = .reserve ∧ z.reserve = some g) := by
  unfold Zone.places
  simp only [List.mem_append, List.mem_filterMap, List.mem_finRange, true_and, Option.map_eq_some_iff, Prod.mk.injEq, List.mem_map,
    Option.mem_toList]
  constructor
  · rintro (⟨n, a, listed, rfl, rfl⟩ | ⟨a, reserve, rfl, rfl⟩)
    · exact .inl ⟨n, rfl, listed⟩
    · exact .inr ⟨rfl, reserve⟩
  · rintro (⟨n, rfl, listed⟩ | ⟨rfl, reserve⟩)
    · exact .inl ⟨n, g, listed, rfl, rfl⟩
    · exact .inr ⟨g, reserve, rfl, rfl⟩

theorem places_ordered (z : Zone) : z.places.Pairwise fun p q => p.1.rank < q.1.rank := by
  unfold Zone.places
  refine List.pairwise_append.mpr ⟨?_, ?_, ?_⟩
  · refine List.Pairwise.filterMap _ (fun a b below p left q right => ?_) (List.pairwise_lt_finRange 4)
    obtain ⟨_, _, rfl⟩ := Option.map_eq_some_iff.mp left
    obtain ⟨_, _, rfl⟩ := Option.map_eq_some_iff.mp right
    exact below
  · cases z.reserve <;> simp
  · intro p left q right
    obtain ⟨n, -, found⟩ := List.mem_filterMap.mp left
    obtain ⟨_, _, rfl⟩ := Option.map_eq_some_iff.mp found
    obtain ⟨_, -, rfl⟩ := List.mem_map.mp right
    exact n.isLt

/-- The last stage that is on. -/
theorem getLast_on_eq_some {p : Place × Fin 48} : (z.places.filter fun p => z.isOn p.1).getLast? = some p ↔
    p ∈ z.places ∧ z.isOn p.1 = true ∧ ∀ q ∈ z.places, z.isOn q.1 = true → q.1.rank ≤ p.1.rank := by
  have ordered := (places_ordered z).filter fun p => z.isOn p.1
  constructor
  · intro last
    obtain ⟨front, split⟩ := List.getLast?_eq_some_iff.mp last
    obtain ⟨placed, on⟩ := List.mem_filter.mp (List.mem_of_getLast? last)
    refine ⟨placed, on, fun q placed on => ?_⟩
    have member := (List.mem_filter (p := fun p => z.isOn p.1)).mpr ⟨placed, on⟩
    rw [split] at member ordered
    rcases List.mem_append.mp member with earlier | same
    · exact Nat.le_of_lt ((List.pairwise_append.mp ordered).2.2 q earlier p List.mem_cons_self)
    · exact Nat.le_of_eq (by rw [List.mem_singleton.mp same])
  · rintro ⟨placed, on, top⟩
    have member := (List.mem_filter (p := fun p => z.isOn p.1)).mpr ⟨placed, on⟩
    obtain ⟨last, found⟩ := Option.ne_none_iff_exists'.mp fun none => List.ne_nil_of_mem member (List.getLast?_eq_none_iff.mp none)
    obtain ⟨front, split⟩ := List.getLast?_eq_some_iff.mp found
    obtain ⟨lastPlaced, lastOn⟩ := List.mem_filter.mp (List.mem_of_getLast? found)
    rw [split] at member ordered
    rcases List.mem_append.mp member with earlier | same
    · exact absurd ((List.pairwise_append.mp ordered).2.2 p earlier last List.mem_cons_self) (Nat.not_lt.mpr (top last lastPlaced lastOn))
    · rw [found, List.mem_singleton.mp same]

end

/-! ### S_on and the minimum level of the on set -/

section
variable (z : Zone) (sg : Fin 48 → Nat) (groups : Vector Group 48)

theorem sum_filterMap_on {α : Type} (on : Place → Bool) (place : α → Place) (slot : α → Option (Fin 48)) (l : List α) :
    (((l.filterMap fun n => (slot n).map fun g => (place n, g)).filter fun p => on p.1).map fun p => sg p.2).sum
      = (l.map fun n => if on (place n) then ((slot n).map sg).getD 0 else 0).sum := by
  induction l with
  | nil => rfl
  | cons n l ih =>
    rw [List.map_cons, List.sum_cons, ← ih]
    cases filled : slot n with
    | none => simp [filled]
    | some g =>
      cases lit : on (place n) <;> simp [filled, lit]

theorem sOn_eq : z.sOn sg = ((List.finRange 4).map fun n => if z.onStages[n] then (z.stages[n.val]?.map sg).getD 0 else 0).sum
    + if z.onReserve then (z.reserve.map sg).getD 0 else 0 := by
  unfold Zone.sOn Zone.places
  rw [List.filter_append, List.map_append, List.sum_append, sum_filterMap_on sg z.isOn Place.stage fun n => z.stages[n.val]?]
  refine congr (congrArg HAdd.hAdd rfl) ?_
  cases z.reserve <;> cases lit : z.onReserve <;> simp [Zone.isOn, lit]

/-- The running maximum is above all and is one of them. -/
theorem foldl_max_spec {α : Type} (f : α → Nat) (l : List α) : ∀ m : Nat,
    m ≤ l.foldl (fun m a => max m (f a)) m ∧ (∀ a ∈ l, f a ≤ l.foldl (fun m a => max m (f a)) m)
      ∧ (l.foldl (fun m a => max m (f a)) m = m ∨ ∃ a ∈ l, l.foldl (fun m a => max m (f a)) m = f a) := by
  induction l with
  | nil => exact fun m => ⟨Nat.le_refl m, fun a none => absurd none List.not_mem_nil, .inl rfl⟩
  | cons x l ih =>
    intro m
    obtain ⟨bound, above, attained⟩ := ih (max m (f x))
    rw [List.foldl_cons]
    refine ⟨Nat.le_trans (Nat.le_max_left _ _) bound, fun a member => ?_, ?_⟩
    · rcases List.mem_cons.mp member with rfl | later
      · exact Nat.le_trans (Nat.le_max_right _ _) bound
      · exact above a later
    · rcases attained with same | ⟨a, later, same⟩
      · rw [same]
        rcases Nat.le_total m (f x) with below | below
        · exact .inr ⟨x, List.mem_cons_self, Nat.max_eq_right below⟩
        · exact .inl (Nat.max_eq_left below)
      · exact .inr ⟨a, List.mem_cons_of_mem x later, same⟩

/-- A slot that counts for the minimum level: on, its group PART-owned (R105). -/
def Zone.countsMin (q : Place) (g : Fin 48) : Prop := (q, g) ∈ z.places ∧ z.isOn q = true ∧ groups[g].owner = .part

theorem dminOn_spec : (∀ q g, z.countsMin groups q g → groups[g].dmin ≤ z.dminOn groups)
    ∧ ((∃ q g, z.countsMin groups q g ∧ z.dminOn groups = groups[g].dmin)
      ∨ ((∀ q g, ¬ z.countsMin groups q g) ∧ z.dminOn groups = 1)) := by
  have counted {q : Place} {g : Fin 48} :
      z.countsMin groups q g ↔ (q, g) ∈ z.places.filter fun p => z.isOn p.1 && groups[p.2].owner == .part := by
    unfold Zone.countsMin
    rw [List.mem_filter, Bool.and_eq_true, beq_iff_eq]
  unfold Zone.dminOn
  cases list : z.places.filter fun p => z.isOn p.1 && groups[p.2].owner == .part with
  | nil =>
    have none (q : Place) (g : Fin 48) : ¬ z.countsMin groups q g := by
      rw [counted, list]
      exact List.not_mem_nil
    exact ⟨fun q g counts => absurd counts (none q g), .inr ⟨none, rfl⟩⟩
  | cons p ps =>
    obtain ⟨bound, above, attained⟩ := foldl_max_spec (fun q : Place × Fin 48 => groups[q.2].dmin) ps groups[p.2].dmin
    refine ⟨fun q g counts => ?_, .inl ?_⟩
    · rw [counted, list] at counts
      rcases List.mem_cons.mp counts with rfl | later
      · exact bound
      · exact above _ later
    · rcases attained with same | ⟨q, later, same⟩
      · exact ⟨p.1, p.2, counted.mpr (list ▸ List.mem_cons_self), same⟩
      · exact ⟨q.1, q.2, counted.mpr (list ▸ List.mem_cons_of_mem p later), same⟩

end

/-! ### The switch-on -/

section
variable (z : Zone) (sg : Fin 48 → Nat) (groups : Vector Group 48) (eligible : Bool) (lz : Nat)

/-- The zone with its first stages on, as many as given. -/
def Zone.upTo (k : Nat) : Zone := { z with onStages := Vector.ofFn fun m => z.onStages[m] || decide (m.val < k ∧ m.val < z.stages.length) }

variable {z}

theorem upTo_on (k : Nat) (n : Fin 4) : (z.upTo k).onStages[n] = (z.onStages[n] || decide (n.val < k ∧ n.val < z.stages.length)) := by
  simp [Zone.upTo]

theorem upTo_zero : z.upTo 0 = z := by
  unfold Zone.upTo
  have : (Vector.ofFn fun m : Fin 4 => z.onStages[m] || decide (m.val < 0 ∧ m.val < z.stages.length)) = z.onStages := by
    ext m hm
    simp
  rw [this]

theorem upTo_grows {j k : Nat} (under : j ≤ k) : (z.upTo j).GrowsTo (z.upTo k) where
  stages := rfl
  reserve := rfl
  on p on := by
    cases p with
    | reserve => exact on
    | stage n =>
      change (z.upTo j).onStages[n] = true at on
      change (z.upTo k).onStages[n] = true
      rw [upTo_on, Bool.or_eq_true, decide_eq_true_eq] at on ⊢
      exact on.imp_right fun ⟨below, listed⟩ => ⟨by omega, listed⟩

/-- One stage more: it is put on where the list holds it. -/
theorem upTo_succ (n : Fin 4) (listed : n.val < z.stages.length) :
    (if (z.upTo n.val).isOn (.stage n) then z.upTo n.val else (z.upTo n.val).setOn (.stage n) true) = z.upTo (n.val + 1) := by
  have setOn : (z.upTo n.val).setOn (.stage n) true = z.upTo (n.val + 1) := by
    have lists : (z.upTo n.val).onStages.set n true = (z.upTo (n.val + 1)).onStages := by
      ext m hm
      simp only [Zone.upTo, Fin.getElem_fin, Vector.getElem_set, Vector.getElem_ofFn]
      split
      · next same => subst same; simp [listed]
      · next differs =>
        have next : (m < n.val + 1 ∧ m < z.stages.length) ↔ (m < n.val ∧ m < z.stages.length) := by omega
        simp only [next]
    unfold Zone.setOn
    dsimp only
    rw [lists]
    rfl
  split
  · next on =>
    rw [← setOn]
    unfold Zone.setOn
    have same : (z.upTo n.val).onStages.set n true = (z.upTo n.val).onStages := by
      ext m hm
      rw [Vector.getElem_set]
      split
      · next same => subst same; exact on.symm
      · rfl
    dsimp only
    rw [same]
  · exact setOn

theorem upTo_past {k : Nat} (past : z.stages.length ≤ k) : z.upTo (k + 1) = z.upTo k := by
  unfold Zone.upTo
  congr 2
  funext m
  have same : (m.val < k + 1 ∧ m.val < z.stages.length) ↔ (m.val < k ∧ m.val < z.stages.length) := by omega
  simp only [same]

/-- Stages have gone on in list order as far as the target asked, of the first `k` (R104). -/
def Zone.grownTo (z : Zone) (sg : Fin 48 → Nat) (lz k : Nat) (y : Zone) : Prop :=
  ∃ j ≤ k, y = z.upTo j ∧ (∀ m < j, (z.upTo m).sOn sg < lz) ∧ (j = k ∨ lz ≤ (z.upTo j).sOn sg)

/-- One place of the switch-on (R104). -/
def Zone.addPlace (sg : Fin 48 → Nat) (lz : Nat) (y : Zone) (p : Place × Fin 48) : Zone :=
  if y.sOn sg < lz && !y.isOn p.1 then y.setOn p.1 true else y

theorem addPlace_of_below {y : Zone} {p : Place × Fin 48} (below : y.sOn sg < lz) :
    y.addPlace sg lz p = if y.isOn p.1 then y else y.setOn p.1 true := by
  unfold Zone.addPlace
  cases y.isOn p.1 <;> simp [below]

theorem addPlace_of_reached {y : Zone} {p : Place × Fin 48} (reached : lz ≤ y.sOn sg) : y.addPlace sg lz p = y := by
  unfold Zone.addPlace
  simp [Nat.not_lt.mpr reached]

variable {sg lz}

theorem grownTo_next {y : Zone} (n : Fin 4) (grown : z.grownTo sg lz n.val y) :
    z.grownTo sg lz (n.val + 1) (((z.stages[n.val]?).map fun g => (Place.stage n, g)).elim y (y.addPlace sg lz)) := by
  obtain ⟨j, under, rfl, below, stop⟩ := grown
  by_cases reached : lz ≤ (z.upTo j).sOn sg
  · refine ⟨j, by omega, ?_, below, .inr reached⟩
    cases z.stages[n.val]? with
    | none => rfl
    | some g => exact addPlace_of_reached sg lz reached
  · obtain rfl : j = n.val := stop.resolve_right reached
    refine ⟨n.val + 1, Nat.le_refl _, ?_, fun m under => ?_, .inl rfl⟩
    · cases listed : z.stages[n.val]? with
      | none => exact (upTo_past (List.getElem?_eq_none_iff.mp listed)).symm
      | some g =>
        obtain ⟨inside, -⟩ := List.getElem?_eq_some_iff.mp listed
        exact (addPlace_of_below sg lz (Nat.not_le.mp reached)).trans (upTo_succ n inside)
    · rcases Nat.lt_succ_iff_lt_or_eq.mp under with earlier | rfl
      · exact below m earlier
      · exact Nat.not_le.mp reached

/-- The stage list's part of the switch-on. -/
def Zone.addListed (z : Zone) (sg : Fin 48 → Nat) (lz : Nat) : Zone :=
  (List.finRange 4).foldl (fun y n => ((z.stages[n.val]?).map fun g => (Place.stage n, g)).elim y (y.addPlace sg lz)) z

theorem grownTo_addListed : z.grownTo sg lz 4 (z.addListed sg lz) := by
  have start : z.grownTo sg lz 0 z := ⟨0, Nat.le_refl 0, upTo_zero.symm, fun m none => absurd none (Nat.not_lt_zero m), .inl rfl⟩
  exact grownTo_next 3 (grownTo_next 2 (grownTo_next 1 (grownTo_next 0 start)))

theorem eligiblePlaces_eq : z.eligiblePlaces eligible =
    ((List.finRange 4).filterMap fun n => (z.stages[n.val]?).map fun g => (Place.stage n, g))
      ++ if eligible then z.reserve.toList.map fun g => (Place.reserve, g) else [] := by
  unfold Zone.eligiblePlaces Zone.places
  rw [List.filter_append]
  refine congr (congrArg HAppend.hAppend (List.filter_eq_self.mpr fun p member => ?_)) ?_
  · obtain ⟨n, -, found⟩ := List.mem_filterMap.mp member
    obtain ⟨_, _, rfl⟩ := Option.map_eq_some_iff.mp found
    rfl
  · cases eligible <;> cases z.reserve <;> rfl

theorem addStages_eq : z.addStages sg eligible lz =
    (if eligible then z.reserve.toList.map fun g => (Place.reserve, g) else []).foldl (Zone.addPlace sg lz) (z.addListed sg lz) := by
  have stages : ((List.finRange 4).filterMap fun n => (z.stages[n.val]?).map fun g => (Place.stage n, g)).foldl (Zone.addPlace sg lz) z
      = z.addListed sg lz := by
    rw [List.foldl_filterMap]
    unfold Zone.addListed
    congr 1
    funext y n
    cases z.stages[n.val]? <;> rfl
  unfold Zone.addStages
  rw [eligiblePlaces_eq, List.foldl_append]
  exact congrArg (List.foldl (Zone.addPlace sg lz) · _) stages

/-- What the switch-on puts on: stages in list order while S_on is below the target, then an eligible reserve (R104). -/
theorem addStages_spec :
    z.addStages sg eligible lz = { z with
      onStages := Vector.ofFn fun n => z.onStages[n] || decide (n.val < z.stages.length ∧ (z.upTo n.val).sOn sg < lz)
      onReserve := z.onReserve || decide (z.reserve.isSome = true ∧ eligible = true ∧ (z.upTo 4).sOn sg < lz) } := by
  obtain ⟨j, under, grown, below, stop⟩ := grownTo_addListed (z := z) (sg := sg) (lz := lz)
  have stages : z.addListed sg lz = { z with
      onStages := Vector.ofFn fun n => z.onStages[n] || decide (n.val < z.stages.length ∧ (z.upTo n.val).sOn sg < lz) } := by
    rw [grown]
    unfold Zone.upTo
    congr 2
    funext n
    refine congrArg (z.onStages[n] || ·) (decide_eq_decide.mpr ⟨fun ⟨early, listed⟩ => ⟨listed, below n early⟩, fun ⟨listed, less⟩ => ⟨?_, listed⟩⟩)
    refine Classical.byContradiction fun late => ?_
    have reached := stop.resolve_left (by omega)
    exact absurd less (Nat.not_lt.mpr (Nat.le_trans reached ((upTo_grows (Nat.not_lt.mp late)).sOn_le sg)))
  have less : (z.addListed sg lz).sOn sg < lz ↔ (z.upTo 4).sOn sg < lz := by
    rw [grown]
    rcases stop with rfl | reached
    · rfl
    · exact ⟨fun less => absurd less (Nat.not_lt.mpr reached),
        fun less => absurd less (Nat.not_lt.mpr (Nat.le_trans reached ((upTo_grows under).sOn_le sg)))⟩
  rw [addStages_eq]
  cases eligible with
  | false => simpa using stages
  | true =>
    rcases Option.eq_none_or_eq_some z.reserve with reserve | ⟨g, reserve⟩
    · simpa [reserve] using stages
    · simp only [reserve, if_true, Option.toList_some, List.map_cons, List.map_nil, List.foldl_cons, List.foldl_nil, Option.isSome_some, true_and]
      by_cases low : (z.upTo 4).sOn sg < lz
      · rw [addPlace_of_below sg lz (less.mpr low), stages]
        cases on : z.onReserve <;> simp [Zone.isOn, Zone.setOn, low, reserve]
      · rw [addPlace_of_reached sg lz (Nat.not_lt.mp fun less' => low (less.mp less')), stages]
        simp [low, reserve]

end

/-! ### The handover of the commanded level (R105) -/

section
variable {z : Zone} {sg : Fin 48 → Nat} {groups : Vector Group 48} {eligible : Bool} {lz : Nat}

theorem sameOnSet_iff {y z : Zone} : y.sameOnSet z = true ↔ y.onStages = z.onStages ∧ y.onReserve = z.onReserve := by
  unfold Zone.sameOnSet
  rw [Bool.and_eq_true, beq_iff_eq, beq_iff_eq]

theorem switchOn_of_same (same : (z.addStages sg eligible lz).sameOnSet z = true) : z.switchOn sg groups eligible lz = z := by
  unfold Zone.switchOn
  exact if_pos same

theorem switchOn_of_grown (grown : ¬ (z.addStages sg eligible lz).sameOnSet z = true) :
    z.switchOn sg groups eligible lz = { z.addStages sg eligible lz with
      dCmd := handoverOn z.dCmd (z.sOn sg) ((z.addStages sg eligible lz).sOn sg) ((z.addStages sg eligible lz).dminOn groups) } := by
  unfold Zone.switchOn
  exact if_neg grown

/-- The on set after the switch-on is that with the stages put on. -/
theorem switchOn_onSet :
    (z.switchOn sg groups eligible lz).onStages = (z.addStages sg eligible lz).onStages
      ∧ (z.switchOn sg groups eligible lz).onReserve = (z.addStages sg eligible lz).onReserve := by
  by_cases same : (z.addStages sg eligible lz).sameOnSet z = true
  · rw [switchOn_of_same same]
    obtain ⟨stages, reserve⟩ := sameOnSet_iff.mp same
    exact ⟨stages.symm, reserve.symm⟩
  · rw [switchOn_of_grown same]
    exact ⟨rfl, rfl⟩

theorem switchOn_kept : z.switchOn sg groups eligible lz = { z with
    onStages := (z.switchOn sg groups eligible lz).onStages
    onReserve := (z.switchOn sg groups eligible lz).onReserve
    dCmd := (z.switchOn sg groups eligible lz).dCmd } := by
  by_cases same : (z.addStages sg eligible lz).sameOnSet z = true
  · rw [switchOn_of_same same]
  · rw [switchOn_of_grown same, addStages_spec]

theorem switchOn_unchanged (same : (z.switchOn sg groups eligible lz).sameOnSet z = true) : z.switchOn sg groups eligible lz = z := by
  refine switchOn_of_same (sameOnSet_iff.mpr ?_)
  obtain ⟨stages, reserve⟩ := sameOnSet_iff.mp same
  exact ⟨switchOn_onSet.1.symm.trans stages, switchOn_onSet.2.symm.trans reserve⟩

theorem growsTo_switchOn : z.GrowsTo (z.switchOn sg groups eligible lz) where
  stages := by rw [switchOn_kept]
  reserve := by rw [switchOn_kept]
  on p on := by
    have grown := (z.growsTo_addStages sg eligible lz).on p on
    obtain ⟨stages, reserve⟩ := switchOn_onSet (z := z) (sg := sg) (groups := groups) (eligible := eligible) (lz := lz)
    cases p with
    | stage n => exact (congrArg (fun v : Vector Bool 4 => v[n]) stages).trans grown
    | reserve => exact reserve.trans grown

theorem switchOn_dCmd (grown : (z.switchOn sg groups eligible lz).sameOnSet z = false) :
    (z.switchOn sg groups eligible lz).dCmd = handoverOn z.dCmd (z.sOn sg) ((z.switchOn sg groups eligible lz).sOn sg)
      ((z.switchOn sg groups eligible lz).dminOn groups) := by
  have grew : ¬ (z.addStages sg eligible lz).sameOnSet z = true := fun same => by
    rw [switchOn_of_same same, Bool.eq_false_iff] at grown
    exact grown (sameOnSet_iff.mpr ⟨rfl, rfl⟩)
  rw [switchOn_of_grown grew]
  rfl

/-- The handover does not raise the commanded luminance, unless the minimum level does (R105). -/
theorem handoverOn_spec {dOld sOld sNew dmin : Nat} (grows : sOld ≤ sNew) :
    (sOld = 0 → handoverOn dOld sOld sNew dmin = dmin) ∧ (sOld ≠ 0 → handoverOn dOld sOld sNew dmin = max dmin (dOld * sOld / sNew))
      ∧ handoverOn dOld sOld sNew dmin ≤ max dmin dOld
      ∧ (handoverOn dOld sOld sNew dmin = dmin ∨ handoverOn dOld sOld sNew dmin * sNew ≤ dOld * sOld) := by
  have shrinks : dOld * sOld / sNew ≤ dOld :=
    Nat.div_le_of_le_mul (Nat.mul_comm sNew dOld ▸ Nat.mul_le_mul_left dOld grows)
  unfold handoverOn
  split
  · next none => exact ⟨fun _ => rfl, fun some => absurd none some, Nat.le_max_left _ _, .inl rfl⟩
  · next some =>
    refine ⟨fun none => absurd none some, fun _ => rfl, by omega, ?_⟩
    rcases Nat.le_total (dOld * sOld / sNew) dmin with below | above
    · exact .inl (Nat.max_eq_left below)
    · rw [Nat.max_eq_right above]
      exact .inr (Nat.div_mul_le_self _ _)

/-! ### The switch-off -/

theorem offCandidate_reserve (on : z.onReserve = true) (stands : z.reserve.isSome = true) : z.offCandidate = some .reserve := by
  obtain ⟨g, reserve⟩ := Option.isSome_iff_exists.mp stands
  have last : (z.places.filter fun p => z.isOn p.1).getLast? = some (.reserve, g) :=
    getLast_on_eq_some.mpr ⟨mem_places.mpr (.inr ⟨rfl, reserve⟩), on, fun q placed _ => by
      rcases mem_places.mp (show (q.1, q.2) ∈ z.places from placed) with ⟨n, is, -⟩ | ⟨is, -⟩
      · rw [is]; exact Nat.le_of_lt n.isLt
      · exact Nat.le_of_eq (by rw [is])⟩
  unfold Zone.offCandidate
  rw [last]

/-- Is the stage listed and on? -/
def Zone.stageOn (z : Zone) (n : Fin 4) : Prop := n.val < z.stages.length ∧ z.onStages[n] = true

/-- With no reserve on, a slot that is on is a listed stage that is on. -/
theorem stageOn_of_on (noReserve : ¬ (z.onReserve = true ∧ z.reserve.isSome = true)) {q : Place × Fin 48} (placed : q ∈ z.places)
    (on : z.isOn q.1 = true) : ∃ n : Fin 4, q.1 = .stage n ∧ z.stageOn n := by
  rcases mem_places.mp (show (q.1, q.2) ∈ z.places from placed) with ⟨n, is, listed⟩ | ⟨is, reserve⟩
  · rw [is] at on
    exact ⟨n, is, (List.getElem?_eq_some_iff.mp listed).1, on⟩
  · rw [is] at on
    exact absurd ⟨on, reserve ▸ rfl⟩ noReserve

theorem offCandidate_stage {n : Fin 4} (noReserve : ¬ (z.onReserve = true ∧ z.reserve.isSome = true)) (past : 1 ≤ n.val)
    (on : z.stageOn n) (top : ∀ m : Fin 4, n < m → ¬ z.stageOn m) : z.offCandidate = some (.stage n) := by
  have last : (z.places.filter fun p => z.isOn p.1).getLast? = some (.stage n, z.stages[n.val]'on.1) :=
    getLast_on_eq_some.mpr ⟨mem_places.mpr (.inl ⟨n, rfl, List.getElem?_eq_getElem on.1⟩), on.2, fun q placed lit => by
      obtain ⟨m, is, lit⟩ := stageOn_of_on noReserve placed lit
      rw [is]
      exact Nat.not_lt.mp fun above => top m above lit⟩
  unfold Zone.offCandidate
  rw [last]
  split
  · next is => cases is; cases past
  · next is => cases is
  · next is => cases is; rfl

theorem offCandidate_none (noReserve : ¬ (z.onReserve = true ∧ z.reserve.isSome = true))
    (base : ∀ n : Fin 4, 1 ≤ n.val → ¬ z.stageOn n) : z.offCandidate = none := by
  unfold Zone.offCandidate
  split
  · rfl
  · rfl
  · next p q notBase last =>
    obtain ⟨placed, on, -⟩ := getLast_on_eq_some.mp last
    obtain ⟨n, rfl, lit⟩ := stageOn_of_on noReserve placed on
    by_cases past : 1 ≤ n.val
    · exact absurd lit (base n past)
    · obtain rfl : n = 0 := Fin.ext (by simpa using past)
      exact (notBase rfl).elim

theorem switchOff_of_none (none : z.offCandidate = none) : z.switchOff sg lz = z := by
  unfold Zone.switchOff
  rw [none]

theorem switchOff_of_some {q : Place} (candidate : z.offCandidate = some q) :
    z.switchOff sg lz =
      if lz < (z.setOn q false).sOn sg * (1000 - z.hysteresis) / 1000 ∧ ceilDiv (z.dCmd * z.sOn sg) ((z.setOn q false).sOn sg) ≤ 1000 then
        { z.setOn q false with dCmd := ceilDiv (z.dCmd * z.sOn sg) ((z.setOn q false).sOn sg) }
      else z := by
  unfold Zone.switchOff
  rw [candidate]

/-- The least multiple that is not below. -/
theorem ceilDiv_bounds {a b : Nat} (positive : 0 < b) : a ≤ ceilDiv a b * b ∧ ceilDiv a b * b < a + b := by
  unfold ceilDiv
  have whole := Nat.div_add_mod (a + (b - 1)) b
  have rest := Nat.mod_lt (a + (b - 1)) positive
  rw [Nat.mul_comm] at whole
  omega

end

/-! ### The obligations -/

/-- Settles O34: the fold of the switch-on lights an initial part of the stage list; the handover follows S_on, which rises. -/
theorem switchOnHandover : Obligations.SwitchOnHandover := by
  unfold Obligations.SwitchOnHandover
  refine ⟨fun z sg groups eligible lz => ?_, fun z sg groups => ?_⟩
  · have onSet := switchOn_onSet (z := z) (sg := sg) (groups := groups) (eligible := eligible) (lz := lz)
    rw [addStages_spec] at onSet
    obtain ⟨stages, reserve⟩ := onSet
    refine ⟨switchOn_kept, fun n => ?_, reserve, switchOn_unchanged, fun grown => ?_, growsTo_switchOn.on⟩
    · rw [stages]
      simp only [Fin.getElem_fin, Vector.getElem_ofFn]
      rfl
    · rw [switchOn_dCmd grown]
      exact handoverOn_spec (growsTo_switchOn.sOn_le sg)
  · obtain ⟨above, attained⟩ := dminOn_spec z groups
    have counted (q : Place) (g : Fin 48) : z.countsMin groups q g ↔ z.isOn q = true ∧ groups[g].owner = .part
        ∧ ((∃ n : Fin 4, q = .stage n ∧ z.stages[n.val]? = some g) ∨ (q = .reserve ∧ z.reserve = some g)) := by
      unfold Zone.countsMin
      rw [mem_places, and_comm, and_assoc]
    simp only [counted] at above attained
    exact ⟨sOn_eq z sg, above, attained⟩

/-- Settles O35: the last stage on is the candidate; taken off, its share of the luminance goes to those that stay. -/
theorem switchOffHandover : Obligations.SwitchOffHandover := by
  unfold Obligations.SwitchOffHandover
  intro z sg lz
  refine ⟨fun on => offCandidate_reserve on.1 on.2, fun n noReserve past on top => offCandidate_stage noReserve past on top,
    fun noReserve base => offCandidate_none noReserve base, switchOff_of_none, fun q candidate _ => ⟨fun allowed => ?_, fun refused => ?_⟩, rfl⟩
  · have positive : 0 < (z.setOn q false).sOn sg := by
      refine Classical.byContradiction fun none => ?_
      obtain ⟨less, -⟩ := allowed
      rw [Nat.eq_zero_of_not_pos none] at less
      simp at less
    exact ⟨(switchOff_of_some candidate).trans (if_pos allowed), ceilDiv_bounds positive⟩
  · exact (switchOff_of_some candidate).trans (if_neg refused)

end Sys2Proof.Machine

/-! SUPPORT. Own LEVELs offered in the course of a command: what one offer comes to for its group, and what the others leave it (R36, R118). -/

namespace Sys2Proof.Machine

set_option Elab.async false

/-! ### Folds in which one round matters -/

section
variable {σ α : Type} {R : σ → σ → Prop} {I : σ → Prop} {f : σ → α → σ}

theorem foldl_related (refl : ∀ s, R s s) (trans : ∀ {s t u}, R s t → R t u → R s u) (l : List α)
    (rounds : ∀ s, I s → ∀ a ∈ l, R s (f s a)) (keeps : ∀ s, I s → ∀ a ∈ l, I (f s a)) {s : σ} (start : I s) :
    R s (l.foldl f s) ∧ I (l.foldl f s) := by
  induction l generalizing s with
  | nil => exact ⟨refl s, start⟩
  | cons a l ih =>
    obtain ⟨rest, ended⟩ := ih (fun t here b member => rounds t here b (List.mem_cons_of_mem a member))
      (fun t here b member => keeps t here b (List.mem_cons_of_mem a member)) (keeps s start a List.mem_cons_self)
    exact ⟨trans (rounds s start a List.mem_cons_self) rest, ended⟩

/-- In a fold whose other rounds are related to what came before, the round of one element is run between two such stretches. -/
theorem foldl_around (refl : ∀ s, R s s) (trans : ∀ {s t u}, R s t → R t u → R s u) {l : List α} {a : α} (nodup : l.Nodup) (member : a ∈ l)
    (others : ∀ s, I s → ∀ b ∈ l, b ≠ a → R s (f s b)) (keeps : ∀ s, I s → ∀ b ∈ l, I (f s b)) {s : σ} (start : I s) :
    ∃ u, I u ∧ R s u ∧ R (f u a) (l.foldl f s) := by
  obtain ⟨front, back, rfl⟩ := List.append_of_mem member
  have apart := List.perm_middle.nodup_iff.mp nodup
  obtain ⟨absent, -⟩ := List.nodup_cons.mp apart
  have inside (b : α) (here : b ∈ front ++ back) : b ∈ front ++ a :: back :=
    (List.mem_append.mp here).elim (fun h => List.mem_append_left _ h) fun h => List.mem_append_right _ (List.mem_cons_of_mem a h)
  have other (b : α) (here : b ∈ front ++ back) : b ≠ a := fun same => absent (same ▸ here)
  have round (t : σ) (inv : I t) (b : α) (here : b ∈ front ++ back) := others t inv b (inside b here) (other b here)
  have keep (t : σ) (inv : I t) (b : α) (here : b ∈ front ++ back) := keeps t inv b (inside b here)
  obtain ⟨first, middle⟩ := foldl_related refl trans front (fun t inv b here => round t inv b (List.mem_append_left _ here))
    (fun t inv b here => keep t inv b (List.mem_append_left _ here)) start
  refine ⟨front.foldl f s, middle, first, ?_⟩
  rw [List.foldl_append, List.foldl_cons]
  exact (foldl_related refl trans back (fun t inv b here => round t inv b (List.mem_append_right _ here))
    (fun t inv b here => keep t inv b (List.mem_append_right _ here)) (keeps _ middle a member)).1

end

/-! ### What an offer writes -/

/-- The group with the sent level, refresh moment, due mark and pending mark of another. -/
def Group.withOffer (g h : Group) : Group :=
  { g with sent := h.sent, refreshFrom := h.refreshFrom, due := h.due, pendingMark := h.pendingMark }

/-- Wipes what an own LEVEL offer writes. -/
def State.exceptOffers (s : State) : State :=
  { s.exceptReport with fQueue := [], groups := s.groups.map fun g => g.withOffer Group.reset }

section
variable {s t u : State} {g : Fin 48}

/-- A group is as before but for what offers write. -/
theorem group_of_exceptOffers (same : t.exceptOffers = s.exceptOffers) (g : Fin 48) : t.groups[g] = s.groups[g].withOffer t.groups[g] := by
  have tables : t.groups.map (fun g => g.withOffer Group.reset) = s.groups.map fun g => g.withOffer Group.reset :=
    (congrArg (fun u : State => u.groups) same :)
  have records := get_of_map_eq (fun g : Group => g.withOffer Group.reset) tables g
  have merged := congrArg (fun h : Group => h.withOffer t.groups[g]) records
  exact merged

theorem updGroups_exceptOffers (s : State) (g : Fin 48) {f : Group → Group} (keeps : ∀ r : Group, (f r).withOffer Group.reset = r.withOffer Group.reset) :
    (updAt s.groups g f).map (fun g => g.withOffer Group.reset) = s.groups.map fun g => g.withOffer Group.reset := by
  ext j hj
  · rw [Vector.getElem_map, Vector.getElem_map, updAt_getElem]
    split
    · rw [keeps]
    · rfl

theorem exceptOffers_count (s : State) (c : Fin 16) (a : CounterScope → Nat) : (s.count c a).exceptOffers = s.exceptOffers := rfl

@[simp] theorem exceptOffers_offerLevel (s : State) (g : Fin 48) (l : Nat) (k : LevelKind) : (s.offerLevel g l k).exceptOffers = s.exceptOffers := by
  have accepted := updGroups_exceptOffers s g (f := (·.accepted s.now l)) fun _ => rfl
  have marked := updGroups_exceptOffers s g (f := fun r => { r with due := true }) fun _ => rfl
  unfold State.offerLevel
  split
  · exact congrArg (fun v => ({ s.exceptReport with fQueue := [], groups := v } : State)) accepted
  · split
    · exact congrArg (fun v => ({ s.exceptReport with fQueue := [], groups := v } : State)) accepted
    · rw [exceptOffers_count]
      exact congrArg (fun v => ({ s.exceptReport with fQueue := [], groups := v } : State)) marked

/-! ### Groups for which nothing is offered -/

/-- No own LEVEL was offered for the group on the way from `s` to `t`: its marks and its entry are as before (R36). -/
structure Unoffered (g : Fin 48) (s t : State) : Prop where
  group : s.noLevelOffered t g
  entries : ∀ l k, FEntry.level g l k ∈ t.fQueue ↔ FEntry.level g l k ∈ s.fQueue
  length : s.fQueue.length ≤ t.fQueue.length
  sound : s.queuesSound → t.queuesSound

theorem Unoffered.refl (g : Fin 48) (s : State) : Unoffered g s s := ⟨⟨rfl, rfl, rfl, rfl⟩, fun _ _ => Iff.rfl, Nat.le_refl _, id⟩

theorem Unoffered.trans (h : Unoffered g s t) (h' : Unoffered g t u) : Unoffered g s u where
  group := by
    obtain ⟨sent, refreshFrom, due, pendingMark⟩ := h.group
    obtain ⟨sent', refreshFrom', due', pendingMark'⟩ := h'.group
    exact ⟨sent'.trans sent, refreshFrom'.trans refreshFrom, due'.trans due, pendingMark'.trans pendingMark⟩
  entries l k := (h'.entries l k).trans (h.entries l k)
  length := Nat.le_trans h.length h'.length
  sound sound := h'.sound (h.sound sound)

/-- A step that leaves the F queue and the group's marks. -/
theorem Unoffered.of_same (regular : Regular s t) (queue : t.fQueue = s.fQueue) (group : s.noLevelOffered t g) : Unoffered g s t :=
  ⟨group, fun _ _ => by rw [queue], queue ▸ Nat.le_refl _, regular.2⟩

theorem offerLevel_group_other (s : State) {g h : Fin 48} (l : Nat) (k : LevelKind) (other : h ≠ g) :
    (s.offerLevel h l k).groups[g] = s.groups[g] := by
  unfold State.offerLevel
  split
  · exact updAt_other _ _ _ _ other
  · split
    · exact updAt_other _ _ _ _ other
    · simp only [State.count_groups]
      exact updAt_other _ _ _ _ other

theorem level_mem_fold {h : Fin 48} {level l : Nat} {kind k : LevelKind} (other : h ≠ g) (e : FEntry) :
    e.fold h level kind = .level g l k ↔ e = .level g l k := by
  cases e with
  | passThrough f => exact Iff.rfl
  | poll d o => exact Iff.rfl
  | level j m x =>
    simp only [FEntry.fold]
    split
    · next same =>
      subst same
      simp [other]
    · rfl

theorem Unoffered.offerLevel (s : State) {g h : Fin 48} (l : Nat) (k : LevelKind) (other : h ≠ g) : Unoffered g s (s.offerLevel h l k) where
  group := by
    unfold State.noLevelOffered
    rw [offerLevel_group_other s l k other]
    exact ⟨rfl, rfl, rfl, rfl⟩
  entries m x := by
    unfold State.offerLevel
    split
    · simp only [List.mem_map, level_mem_fold other, exists_eq_right]
    · split
      · simp [other.symm]
      · rw [State.count_fQueue]
  length := by
    unfold State.offerLevel
    split
    · simp
    · split
      · simp
      · exact Nat.le_of_eq (by rw [State.count_fQueue])
  sound := (Regular.offerLevel s h l k).2

/-! ### The group an own LEVEL is offered for -/

theorem levelOffered_offerLevel (sound : s.queuesSound) (g : Fin 48) (l : Nat) (k : LevelKind) :
    s.levelOffered (s.offerLevel g l k) g l k s.now := by
  have law := sound.2.2 g
  unfold State.offerLevel
  split
  · next marked =>
    obtain ⟨a, b, m, x, queue, before, behind⟩ := sound.entry_of_marked marked
    have fire : (∃ l, FEntry.level g l .fire ∈ s.fQueue) ↔ x = .fire := by
      rw [queue]
      refine ⟨fun ⟨l, queued⟩ => ?_, fun is => ⟨m, is ▸ List.mem_append_right a List.mem_cons_self⟩⟩
      have isLevel : (FEntry.level g l .fire).isLevelOf g = true := beq_self_eq_true g
      rcases List.mem_append.mp queued with early | late
      · rw [before _ early] at isLevel
        cases isLevel
      · rcases List.mem_cons.mp late with same | late
        · injection same with _ _ is
          exact is.symm
        · rw [behind _ late] at isLevel
          cases isLevel
    have get : (updAt s.groups g (·.accepted s.now l))[g] = s.groups[g].accepted s.now l := updAt_same _ _ _
    refine .inl ?_
    simp only [get]
    refine ⟨rfl, rfl, rfl, rfl, if x = .fire then .fire else k, List.mem_map.mpr ⟨.level g m x, ?_, if_pos rfl⟩, ?_⟩
    · rw [queue]
      exact List.mem_append_right a List.mem_cons_self
    · rw [fire]
      split <;> simp_all
  · next unmarked =>
    rw [if_neg unmarked, List.countP_eq_zero] at law
    have none : ¬ ∃ l, FEntry.level g l .fire ∈ s.fQueue := fun ⟨l, queued⟩ => law _ queued (beq_self_eq_true g)
    split
    · refine .inl ?_
      have get : (updAt s.groups g (·.accepted s.now l))[g] = s.groups[g].accepted s.now l := updAt_same _ _ _
      simp only [get]
      refine ⟨rfl, rfl, rfl, rfl, k, List.mem_append_right _ List.mem_cons_self, ?_⟩
      simp [none]
    · next full =>
      refine .inr ?_
      have get : (updAt s.groups g fun r => { r with due := true })[g] = { s.groups[g] with due := true } := updAt_same _ _ _
      simp only [State.count_groups, State.count_fQueue, get]
      have room := sound.1
      exact ⟨trivial, trivial, trivial, Bool.eq_false_iff.mpr unmarked, Bool.eq_false_iff.mpr unmarked, by omega⟩

/-- What an offer came to is what it came to over the whole command, when nothing else is offered for the group. -/
theorem levelOffered_between {v w : State} {l : Nat} {k : LevelKind} {now : Time} (before : Unoffered g s u) (offered : u.levelOffered v g l k now)
    (after : Unoffered g v w) (sound : w.queuesSound) : s.levelOffered w g l k now := by
  obtain ⟨sent, refreshFrom, due, pendingMark⟩ := before.group
  obtain ⟨sent', refreshFrom', due', pendingMark'⟩ := after.group
  have fire : (∃ l, FEntry.level g l .fire ∈ u.fQueue) ↔ ∃ l, FEntry.level g l .fire ∈ s.fQueue :=
    exists_congr fun l => before.entries l .fire
  rcases offered with ⟨isSent, isFrom, isDue, isMarked, x, queued, kind⟩ | ⟨isSent, isFrom, isDue, isMarked, unmarked, full⟩
  · exact .inl ⟨sent'.trans isSent, refreshFrom'.trans isFrom, due'.trans isDue, pendingMark'.trans isMarked, x,
      (after.entries l x).mpr queued, kind.trans (or_congr_right fire)⟩
  · have length := after.length
    have room := sound.1
    exact .inr ⟨sent'.trans (isSent.trans sent), refreshFrom'.trans (isFrom.trans refreshFrom), due'.trans isDue, pendingMark'.trans isMarked,
      pendingMark.symm.trans unmarked, by omega⟩

/-- An own LEVEL was offered for the group where `c` says so, and else none. -/
def State.offeredWhen (s t : State) (c : Prop) (g : Fin 48) (l : Nat) (k : LevelKind) (now : Time) : Prop :=
  (c → s.levelOffered t g l k now) ∧ (¬ c → s.noLevelOffered t g)

theorem offeredWhen_between {v w : State} {c : Prop} {l : Nat} {k : LevelKind} {now : Time} (before : Unoffered g s u)
    (offered : u.offeredWhen v c g l k now) (after : Unoffered g v w) (sound : w.queuesSound) : s.offeredWhen w c g l k now := by
  refine ⟨fun holds => levelOffered_between before (offered.1 holds) after sound, fun fails => ?_⟩
  obtain ⟨sent, refreshFrom, due, pendingMark⟩ := before.group
  obtain ⟨sent₁, refreshFrom₁, due₁, pendingMark₁⟩ := offered.2 fails
  obtain ⟨sent₂, refreshFrom₂, due₂, pendingMark₂⟩ := after.group
  exact ⟨(sent₂.trans sent₁).trans sent, (refreshFrom₂.trans refreshFrom₁).trans refreshFrom, (due₂.trans due₁).trans due,
    (pendingMark₂.trans pendingMark₁).trans pendingMark⟩

/-! ### The offers for the places of a zone -/

/-- An offer made where a test of the group's record says so. -/
def State.offerIf (s : State) (g : Fin 48) (c : Time → Group → Bool) (l : Group → Nat) (k : LevelKind) : State :=
  if c s.now s.groups[g] then s.offerLevel g (l s.groups[g]) k else s

theorem exceptOffers_offerIf (s : State) (g : Fin 48) (c : Time → Group → Bool) (l : Group → Nat) (k : LevelKind) :
    (s.offerIf g c l k).exceptOffers = s.exceptOffers := by
  unfold State.offerIf
  split
  · exact exceptOffers_offerLevel _ _ _ _
  · rfl

theorem Unoffered.offerIf (s : State) {g h : Fin 48} (c : Time → Group → Bool) (l : Group → Nat) (k : LevelKind) (other : h ≠ g) :
    Unoffered g s (s.offerIf h c l k) := by
  unfold State.offerIf
  split
  · exact .offerLevel s _ _ other
  · exact .refl g s

theorem Regular.offerIf (s : State) (g : Fin 48) (c : Time → Group → Bool) (l : Group → Nat) (k : LevelKind) : Regular s (s.offerIf g c l k) := by
  unfold State.offerIf
  split
  · exact .offerLevel _ _ _ _
  · exact .refl _

theorem offeredWhen_offerIf (sound : s.queuesSound) (g : Fin 48) (c : Time → Group → Bool) (l : Group → Nat) (k : LevelKind) :
    s.offeredWhen (s.offerIf g c l k) (c s.now s.groups[g] = true) g (l s.groups[g]) k s.now := by
  unfold State.offerIf
  refine ⟨fun holds => ?_, fun fails => ?_⟩
  · rw [if_pos holds]
    exact levelOffered_offerLevel sound g _ k
  · rw [if_neg fails]
    exact ⟨rfl, rfl, rfl, rfl⟩

/-- Tests and levels of the offers for a list of places. -/
structure Offers where
  test : Place → Time → Group → Bool
  level : Place → Group → Nat
  kind : LevelKind

/-- Offers made in turn for a list of places. -/
def State.offerAll (s : State) (o : Offers) (places : List (Place × Fin 48)) : State :=
  places.foldl (fun t q => t.offerIf q.2 (o.test q.1) (o.level q.1) o.kind) s

section
variable (o : Offers) {places : List (Place × Fin 48)}

theorem exceptOffers_offerAll (s : State) (places : List (Place × Fin 48)) : (s.offerAll o places).exceptOffers = s.exceptOffers :=
  foldl_keeps State.exceptOffers _ (fun t _ => exceptOffers_offerIf t _ _ _ _) places s

theorem Regular.offerAll (s : State) (places : List (Place × Fin 48)) : Regular s (s.offerAll o places) :=
  Regular.foldl _ (fun t _ => .offerIf t _ _ _ _) places s

theorem Unoffered.offerAll (s : State) (absent : ∀ q ∈ places, q.2 ≠ g) : Unoffered g s (s.offerAll o places) :=
  (foldl_related (I := fun _ => True) (Unoffered.refl g) Unoffered.trans places (fun t _ q member => .offerIf t _ _ _ (absent q member))
    (fun _ _ _ _ => trivial) trivial).1

theorem offerAll_group_other (s : State) (absent : ∀ q ∈ places, q.2 ≠ g) : (s.offerAll o places).groups[g] = s.groups[g] := by
  refine (foldl_related (R := fun t u : State => u.groups[g] = t.groups[g]) (I := fun _ => True) (fun _ => rfl)
    (fun first second => second.trans first) places (fun t _ q member => ?_) (fun _ _ _ _ => trivial) trivial).1
  unfold State.offerIf
  split
  · exact offerLevel_group_other t _ _ (absent q member)
  · rfl

/-- A group that stands in one place of the list is offered what that place asks. -/
theorem offeredWhen_offerAll (sound : s.queuesSound) (nodup : places.Nodup) {q : Place} (member : (q, g) ∈ places)
    (once : ∀ p ∈ places, p.2 = g → p = (q, g)) :
    s.offeredWhen (s.offerAll o places) (o.test q s.now s.groups[g] = true) g (o.level q s.groups[g]) o.kind s.now := by
  have now {t : State} (same : t.exceptOffers = s.exceptOffers) : t.now = s.now := (congrArg (fun u : State => u.now) same :)
  obtain ⟨u, ⟨kept, regular⟩, before, after⟩ := foldl_around (R := Unoffered g) (I := fun t => t.exceptOffers = s.exceptOffers ∧ Regular s t)
    (f := fun (t : State) (q : Place × Fin 48) => t.offerIf q.2 (o.test q.1) (o.level q.1) o.kind)
    (Unoffered.refl g) Unoffered.trans nodup member
    (fun t _ p here differs => .offerIf t _ _ _ fun same => differs (once p here same))
    (fun t inv p _ => ⟨(exceptOffers_offerIf t _ _ _ _).trans inv.1, inv.2.trans (.offerIf t _ _ _ _)⟩) ⟨rfl, .refl s⟩
  have offered := offeredWhen_offerIf (regular.2 sound) g (o.test q) (o.level q) o.kind
  have group : u.groups[g] = s.groups[g] := by
    obtain ⟨sent, refreshFrom, due, pendingMark⟩ := before.group
    rw [group_of_exceptOffers kept g]
    unfold Group.withOffer
    rw [sent, refreshFrom, due, pendingMark]
  rw [group, now kept] at offered
  exact offeredWhen_between before offered after ((Regular.offerAll o s places).2 sound)

end

end

end Sys2Proof.Machine

/-! SUPPORT. Work done zone by zone: what a ramp, a FORCE or a stage selection of one zone leaves the others, and the single slot of a
group (R85, R115, R150). -/

namespace Sys2Proof.Machine

set_option Elab.async false

/-! ### The zones of a portal -/

theorem mem_portalZones {s : State} {p : Fin 4} {z : Fin 32} :
    z ∈ s.portalZones p ↔ s.zones[z].used = true ∧ s.zones[z].portal = p ∧ 1 ≤ s.zones[z].position ∧ s.zones[z].position ≤ 8 := by
  unfold State.portalZones
  simp only [List.mem_flatMap, List.mem_range, List.mem_filter, List.mem_finRange, true_and, Bool.and_eq_true, beq_iff_eq, and_assoc]
  constructor
  · rintro ⟨k, under, used, here, position⟩
    exact ⟨used, here, by omega, by omega⟩
  · rintro ⟨used, here, low, high⟩
    exact ⟨s.zones[z].position - 1, by omega, used, here, by omega⟩

theorem nodup_portalZones (s : State) (p : Fin 4) : (s.portalZones p).Nodup := by
  unfold State.portalZones
  refine List.pairwise_flatMap.mpr ⟨fun k _ => (List.nodup_finRange 32).filter _, ?_⟩
  refine List.Pairwise.imp (fun {j k} differ => ?_) List.nodup_range
  intro z atJ _ atK same
  subst same
  have position (k : Nat) (here : z ∈ (List.finRange 32).filter fun z => s.zones[z].used && s.zones[z].portal == p && s.zones[z].position == k + 1) :
      s.zones[z].position = k + 1 := by
    simp only [List.mem_filter, List.mem_finRange, true_and, Bool.and_eq_true, beq_iff_eq] at here
    exact here.2
  have j := position j atJ
  have k := position k atK
  omega

/-- Under the limits of the tables the zones of a portal are its used zones (Table 6-1). -/
theorem mem_portalZones_of_sound {s : State} (sound : s.configSound) {p : Fin 4} {z : Fin 32} :
    z ∈ s.portalZones p ↔ s.zones[z].used = true ∧ s.zones[z].portal = p := by
  obtain ⟨-, -, -, -, zones, -⟩ := sound
  rw [mem_portalZones]
  exact and_congr_right fun _ => and_iff_left (zones z).1

/-! ### The slot of a group -/

section
variable {z : Zone} {q : Place} {g : Fin 48}

theorem filterMap_getElem?_eq_take {α : Type} (l : List α) : ((List.finRange 4).filterMap fun n => l[n.val]?) = l.take 4 := by
  rcases l with _ | ⟨a, _ | ⟨b, _ | ⟨c, _ | ⟨d, l⟩⟩⟩⟩ <;> rfl

/-- The slots of a zone, its places read off, are among its slots. -/
theorem places_sublist_standing (z : Zone) : (z.places.map (·.2)).Sublist z.standing := by
  unfold Zone.places Zone.standing
  rw [List.map_append]
  refine List.Sublist.append ?_ ?_
  · rw [List.map_filterMap]
    simp only [Option.map_map]
    have slots : (fun n : Fin 4 => Option.map ((fun x : Place × Fin 48 => x.2) ∘ fun g => (Place.stage n, g)) z.stages[n.val]?)
        = fun n : Fin 4 => z.stages[n.val]? := by
      funext n
      cases z.stages[n.val]? <;> rfl
    rw [slots, filterMap_getElem?_eq_take]
    exact List.take_sublist 4 _
  · cases z.reserve <;> simp

theorem standing_of_places (placed : (q, g) ∈ z.places) : g ∈ z.standing :=
  (places_sublist_standing z).subset (List.mem_map.mpr ⟨(q, g), placed, rfl⟩)

theorem places_nodup (z : Zone) : z.places.Nodup :=
  (places_ordered z).imp fun {p q} below same => by
    rw [same] at below
    exact Nat.lt_irrefl _ below

/-- A group named once stands in one place. -/
theorem place_unique (once : z.standing.count g ≤ 1) (placed : (q, g) ∈ z.places) {p : Place × Fin 48} (here : p ∈ z.places)
    (same : p.2 = g) : p = (q, g) := by
  have few := Nat.le_trans ((places_sublist_standing z).count_le g) once
  obtain ⟨front, back, split⟩ := List.append_of_mem placed
  rw [split] at here few
  simp only [List.map_append, List.map_cons, List.count_append, List.count_cons_self] at few
  have named {l : List (Place × Fin 48)} (inside : p ∈ l) : 0 < (l.map (·.2)).count g :=
    List.count_pos_iff.mpr (same ▸ List.mem_map_of_mem inside)
  rcases List.mem_append.mp here with before | here
  · have := named before
    omega
  · rcases List.mem_cons.mp here with is | behind
    · exact is
    · have := named behind
      omega

end

section
variable {s : State} {g : Fin 48} {z : Fin 32}

theorem standing_count_le (one : s.slotCount g = 1) (used : s.zones[z].used = true) : s.zones[z].standing.count g ≤ 1 := by
  rw [← one]
  unfold State.slotCount
  have least := le_sum_of_mem (f := fun y : Fin 32 => if s.zones[y].used = true then s.zones[y].standing.count g else 0) (List.mem_finRange z)
  rw [if_pos used] at least
  exact least

/-- A group of one slot stands in no other used zone. -/
theorem stands_once (one : s.slotCount g = 1) (used : s.zones[z].used = true) (stands : g ∈ s.zones[z].standing) {y : Fin 32}
    (usedY : s.zones[y].used = true) (standsY : g ∈ s.zones[y].standing) : y = z :=
  zone_unique_of_slotCount one (mem_zonesOfGroup.mpr ⟨usedY, standsY⟩) (mem_zonesOfGroup.mpr ⟨used, stands⟩)

end

/-! ### Work on one zone -/

/-- What work on one zone leaves: the records of the other zones, the slots of its own, the groups that do not stand in it, and what
`wipe` does not wipe. -/
structure ZoneWork {β : Type} (wipe : State → β) (work : State → Fin 32 → State) : Prop where
  wiped : ∀ t i, wipe (work t i) = wipe t
  other : ∀ t i j, i ≠ j → (work t i).zones[j] = t.zones[j]
  standing : ∀ t i, ((work t i).zones[i]).standing = (t.zones[i]).standing
  group : ∀ (t : State) i (g : Fin 48), g ∉ (t.zones[i]).standing → (work t i).groups[g] = t.groups[g]
  unoffered : ∀ (t : State) i (g : Fin 48), g ∉ (t.zones[i]).standing → Unoffered g t (work t i)
  regular : ∀ t i, Regular t (work t i)

namespace ZoneWork
variable {β : Type} {wipe : State → β} {work : State → Fin 32 → State} (does : ZoneWork wipe work) {l : List (Fin 32)} {s : State}
include does

theorem standing_get (t : State) (i j : Fin 32) : ((work t i).zones[j]).standing = (t.zones[j]).standing := by
  by_cases same : i = j
  · subst same
    exact does.standing t i
  · rw [does.other t i j same]

theorem wiped_fold (l : List (Fin 32)) (s : State) : wipe (l.foldl work s) = wipe s := foldl_keeps wipe _ (fun t i => does.wiped t i) l s

theorem regular_fold (l : List (Fin 32)) (s : State) : Regular s (l.foldl work s) := Regular.foldl _ (fun t i => does.regular t i) l s

theorem standing_fold (l : List (Fin 32)) (s : State) (j : Fin 32) : ((l.foldl work s).zones[j]).standing = (s.zones[j]).standing :=
  foldl_keeps (fun t : State => (t.zones[j]).standing) _ (fun t i => does.standing_get t i j) l s

theorem zone_fold {z : Fin 32} (absent : ∀ i ∈ l, i ≠ z) : (l.foldl work s).zones[z] = s.zones[z] :=
  (foldl_related (R := fun t u : State => u.zones[z] = t.zones[z]) (I := fun _ => True) (fun _ => rfl)
    (fun first second => second.trans first) l (fun t _ i member => does.other t i z (absent i member)) (fun _ _ _ _ => trivial) trivial).1

/-- The work leaves a group that stands in no zone of the list. -/
theorem group_fold {g : Fin 48} (absent : ∀ i ∈ l, g ∉ (s.zones[i]).standing) :
    (l.foldl work s).groups[g] = s.groups[g] ∧ Unoffered g s (l.foldl work s) := by
  have away {t : State} (same : ∀ j : Fin 32, (t.zones[j]).standing = (s.zones[j]).standing) (i : Fin 32) (member : i ∈ l) :
      g ∉ (t.zones[i]).standing := by
    rw [same i]
    exact absent i member
  refine (foldl_related (R := fun t u : State => u.groups[g] = t.groups[g] ∧ Unoffered g t u)
    (I := fun t : State => ∀ j : Fin 32, (t.zones[j]).standing = (s.zones[j]).standing) (fun t => ⟨rfl, .refl g t⟩)
    (fun first second => ⟨second.1.trans first.1, first.2.trans second.2⟩) l (fun t same i member => ?_) (fun t same i _ j => ?_)
    fun _ => rfl).1
  · exact ⟨does.group t i g (away same i member), does.unoffered t i g (away same i member)⟩
  · exact (does.standing_get t i j).trans (same j)

omit does in
/-- The work of a list around one zone. -/
theorem fold_split (nodup : l.Nodup) {z : Fin 32} (member : z ∈ l) (s : State) :
    ∃ front back : List (Fin 32), l.foldl work s = back.foldl work (work (front.foldl work s) z)
      ∧ (∀ i ∈ front, i ∈ l ∧ i ≠ z) ∧ ∀ i ∈ back, i ∈ l ∧ i ≠ z := by
  obtain ⟨front, back, rfl⟩ := List.append_of_mem member
  obtain ⟨absent, -⟩ := List.nodup_cons.mp (List.perm_middle.nodup_iff.mp nodup)
  refine ⟨front, back, by rw [List.foldl_append, List.foldl_cons], fun i here => ⟨List.mem_append_left _ here, fun same => ?_⟩,
    fun i here => ⟨List.mem_append_right _ (List.mem_cons_of_mem z here), fun same => ?_⟩⟩
  · exact absent (same ▸ List.mem_append_left _ here)
  · exact absent (same ▸ List.mem_append_right _ here)

/-- The record of a zone after work on a list of zones is what the work on it made of its record before. -/
theorem zone_of_fold (nodup : l.Nodup) {z : Fin 32} (member : z ∈ l) :
    ∃ u, wipe u = wipe s ∧ u.zones[z] = s.zones[z] ∧ Regular s u ∧ (l.foldl work s).zones[z] = (work u z).zones[z] := by
  obtain ⟨front, back, split, before, behind⟩ := fold_split (work := work) nodup member s
  refine ⟨front.foldl work s, does.wiped_fold front s, does.zone_fold fun i here => (before i here).2, does.regular_fold front s, ?_⟩
  rw [split]
  exact does.zone_fold fun i here => (behind i here).2

/-- The record of a group that stands in one zone of the list, and what was offered for it, come of the work on that zone. -/
theorem group_of_fold (nodup : l.Nodup) {z : Fin 32} (member : z ∈ l) {g : Fin 48} (only : ∀ i ∈ l, g ∈ (s.zones[i]).standing → i = z) :
    ∃ u, wipe u = wipe s ∧ u.zones[z] = s.zones[z] ∧ Regular s u ∧ u.groups[g] = s.groups[g] ∧ Unoffered g s u
      ∧ (l.foldl work s).zones[z] = (work u z).zones[z] ∧ (l.foldl work s).groups[g] = (work u z).groups[g]
      ∧ Unoffered g (work u z) (l.foldl work s) := by
  obtain ⟨front, back, split, before, behind⟩ := fold_split (work := work) nodup member s
  obtain ⟨groupBefore, unofferedBefore⟩ := does.group_fold (l := front) (s := s) (g := g) fun i here stands =>
    (before i here).2 (only i (before i here).1 stands)
  obtain ⟨groupBehind, unofferedBehind⟩ := does.group_fold (l := back) (s := work (front.foldl work s) z) (g := g) fun i here stands => by
    rw [does.standing_get, does.standing_fold] at stands
    exact (behind i here).2 (only i (behind i here).1 stands)
  refine ⟨front.foldl work s, does.wiped_fold front s, does.zone_fold fun i here => (before i here).2, does.regular_fold front s, groupBefore,
    unofferedBefore, ?_, ?_, ?_⟩
  · rw [split]
    exact does.zone_fold fun i here => (behind i here).2
  · rw [split]
    exact groupBehind
  · rw [split]
    exact unofferedBehind

end ZoneWork

end Sys2Proof.Machine

/-! SUPPORT. A ramp expiry, zone by zone: O36 and the offers of O37 (R115 to R118, Table 7-1). -/

namespace Sys2Proof.Machine

set_option Elab.async false

/-! ### One zone at a ramp expiry -/

/-- The zone is under FIRE. -/
def Zone.fired (z : Zone) : Bool := z.override.any fun o => o.kind = .fire

/-- The record of a zone after its ramp step (R115, Table 7-1). -/
def Zone.ramped (z : Zone) (r : Portal) : Zone :=
  match z.fired, z.dTarget with
  | false, some target => { z with dCmd := stepLevel z.dCmd target r.riseStep r.fallStep }
  | _, _ => z

/-- The rise step cuts the step short. -/
def Zone.cutShort (z : Zone) (r : Portal) : Bool :=
  match z.fired, z.dTarget with
  | false, some target => decide (z.dCmd + r.riseStep < target)
  | _, _ => false

theorem ramped_of_target {z : Zone} {r : Portal} {target : Nat} (calm : z.fired = false) (aims : z.dTarget = some target) :
    z.ramped r = { z with dCmd := stepLevel z.dCmd target r.riseStep r.fallStep } := by
  unfold Zone.ramped
  split
  · next aims' =>
    rw [Option.some.inj (aims'.symm.trans aims)]
  · next none => exact (none target calm aims).elim

theorem cutShort_of_target {z : Zone} {r : Portal} {target : Nat} (calm : z.fired = false) (aims : z.dTarget = some target) :
    z.cutShort r = decide (z.dCmd + r.riseStep < target) := by
  unfold Zone.cutShort
  split
  · next aims' =>
    rw [Option.some.inj (aims'.symm.trans aims)]
  · next none => exact (none target calm aims).elim

/-- The offers of a zone at a ramp expiry (R116, R117). -/
def rampOffers (z : Zone) (r : Portal) (kind : LevelKind) : Offers where
  test q now g := decide (g.owner = .part ∧ g.offerDue (g.levelAt (z.isOn q) z.dCmd) z.dTarget r.deadband r.refreshInterval
    (min (65535 * secTicks) (now - g.refreshFrom)) = true)
  level q g := g.levelAt (z.isOn q) z.dCmd
  kind := kind

/-- The state of a ramp expiry before the offers of a zone: its record stepped, a step cut short counted. -/
def State.stepped (s : State) (p : Fin 4) (i : Fin 32) : State :=
  let t := s.mapZone i fun z => z.ramped s.portals[p]
  if (s.zones[i]).cutShort s.portals[p] then t.count 10 (scopedTo [p]) else t

section
variable (s : State) (p : Fin 4) (i : Fin 32)

theorem stepped_zones : (s.stepped p i).zones = updAt s.zones i fun z => z.ramped s.portals[p] := by
  unfold State.stepped
  dsimp only
  split
  · rw [State.count_zones]
    rfl
  · rfl

theorem stepped_portals : (s.stepped p i).portals = s.portals := by
  unfold State.stepped
  dsimp only
  split
  · rw [State.count_portals]
    rfl
  · rfl

theorem offerRamp_eq (kind : LevelKind) :
    s.offerRamp p i kind = s.offerAll (rampOffers s.zones[i] s.portals[p] kind) (s.zones[i]).places := by
  unfold State.offerRamp State.offerAll State.offerIf rampOffers
  simp only [decide_eq_true_eq]
  rfl

theorem offerRamp_stepped (target : Nat) (calm : (s.zones[i]).fired = false) (aims : (s.zones[i]).dTarget = some target) :
    (if (s.zones[i]).dCmd + s.portals[p].riseStep < target then
        (s.mapZone i fun z => { z with dCmd := stepLevel z.dCmd target s.portals[p].riseStep s.portals[p].fallStep }).count 10 (scopedTo [p])
      else s.mapZone i fun z => { z with dCmd := stepLevel z.dCmd target s.portals[p].riseStep s.portals[p].fallStep }).offerRamp p i .autoManual
    = (s.stepped p i).offerAll (rampOffers ((s.zones[i]).ramped s.portals[p]) s.portals[p] .autoManual) (s.zones[i]).places := by
  have mapped : (s.mapZone i fun z => { z with dCmd := stepLevel z.dCmd target s.portals[p].riseStep s.portals[p].fallStep })
      = s.mapZone i fun z => z.ramped s.portals[p] := by
    unfold State.mapZone
    rw [updAt_congr s.zones i (g := fun z => z.ramped s.portals[p]) (ramped_of_target calm aims).symm]
  have state : (if (s.zones[i]).dCmd + s.portals[p].riseStep < target then
        (s.mapZone i fun z => { z with dCmd := stepLevel z.dCmd target s.portals[p].riseStep s.portals[p].fallStep }).count 10 (scopedTo [p])
      else s.mapZone i fun z => { z with dCmd := stepLevel z.dCmd target s.portals[p].riseStep s.portals[p].fallStep }) = s.stepped p i := by
    rw [mapped]
    unfold State.stepped
    simp only [cutShort_of_target calm aims, decide_eq_true_eq]
  have zone : (s.stepped p i).zones[i] = (s.zones[i]).ramped s.portals[p] := by
    rw [stepped_zones]
    exact updAt_same _ _ _
  rw [state, offerRamp_eq, zone, stepped_portals]
  refine congrArg ((s.stepped p i).offerAll _) (Zone.places_congr ?_ ?_)
  · rw [ramped_of_target calm aims]
  · rw [ramped_of_target calm aims]

/-- At a ramp expiry a zone that is under FIRE or has a target is stepped and then offers its levels; another is left alone. -/
theorem rampZone_eq : s.rampZone p i =
    if (s.zones[i]).fired then s.offerAll (rampOffers s.zones[i] s.portals[p] .fire) (s.zones[i]).places
    else if (s.zones[i]).dTarget = none then s
    else (s.stepped p i).offerAll (rampOffers ((s.zones[i]).ramped s.portals[p]) s.portals[p] .autoManual) (s.zones[i]).places := by
  unfold State.rampZone
  dsimp only
  cases override : (s.zones[i]).override with
  | none =>
    have calm : (s.zones[i]).fired = false := by
      unfold Zone.fired
      rw [override]
      rfl
    rw [calm]
    cases aims : (s.zones[i]).dTarget with
    | none => rfl
    | some target => exact offerRamp_stepped s p i target calm aims
  | some o =>
    cases kind : o.kind with
    | fire =>
      have fired : (s.zones[i]).fired = true := by
        unfold Zone.fired
        rw [override]
        simp [kind]
      rw [fired, if_pos rfl, ← offerRamp_eq]
      simp [kind]
    | manual =>
      have calm : (s.zones[i]).fired = false := by
        unfold Zone.fired
        rw [override]
        simp [kind]
      rw [calm]
      simp only [Option.map_some, kind, Bool.false_eq_true, if_false]
      cases aims : (s.zones[i]).dTarget with
      | none => rfl
      | some target => exact offerRamp_stepped s p i target calm aims

end

/-! ### What a ramp step leaves -/

/-- Wipes what a ramp expiry writes beside its portal's timer: commanded levels, offers and the report. -/
def State.exceptRamp (s : State) : State := { s.exceptOffers with zones := Vector.replicate 32 Zone.reset }

section
variable {s t : State} {p : Fin 4} {i z : Fin 32}

theorem zones_of_exceptOffers (same : t.exceptOffers = s.exceptOffers) : t.zones = s.zones := (congrArg (fun u : State => u.zones) same :)

theorem exceptRamp_of_exceptOffers (same : t.exceptOffers = s.exceptOffers) : t.exceptRamp = s.exceptRamp := by
  unfold State.exceptRamp
  rw [same]

theorem exceptRamp_stepped (s : State) (p : Fin 4) (i : Fin 32) : (s.stepped p i).exceptRamp = s.exceptRamp := by
  unfold State.stepped
  dsimp only
  split <;> rfl

theorem portals_of_exceptRamp (same : t.exceptRamp = s.exceptRamp) : t.portals = s.portals := (congrArg (fun u : State => u.portals) same :)

theorem now_of_exceptRamp (same : t.exceptRamp = s.exceptRamp) : t.now = s.now := (congrArg (fun u : State => u.now) same :)

theorem stepped_groups (s : State) (p : Fin 4) (i : Fin 32) : (s.stepped p i).groups = s.groups := by
  unfold State.stepped
  dsimp only
  split
  · rw [State.count_groups]
    rfl
  · rfl

theorem stepped_fQueue (s : State) (p : Fin 4) (i : Fin 32) : (s.stepped p i).fQueue = s.fQueue := by
  unfold State.stepped
  dsimp only
  split
  · rw [State.count_fQueue]
    rfl
  · rfl

theorem Regular.stepped (s : State) (p : Fin 4) (i : Fin 32) : Regular s (s.stepped p i) := by
  unfold State.stepped
  dsimp only
  split
  · exact (Regular.mapZone _ _ _).trans (.count _ _ _)
  · exact .mapZone _ _ _

theorem Unoffered.stepped (g : Fin 48) (s : State) (p : Fin 4) (i : Fin 32) : Unoffered g s (s.stepped p i) :=
  .of_same (.stepped s p i) (stepped_fQueue s p i) (by
    unfold State.noLevelOffered
    rw [stepped_groups]
    exact ⟨rfl, rfl, rfl, rfl⟩)

theorem ramped_of_fired {x : Zone} (fired : x.fired = true) (r : Portal) : x.ramped r = x := by
  unfold Zone.ramped
  rw [fired]

theorem ramped_of_aimless {x : Zone} (aimless : x.dTarget = none) (r : Portal) : x.ramped r = x := by
  unfold Zone.ramped
  rw [aimless]
  cases x.fired <;> rfl

theorem cutShort_of_fired {x : Zone} (fired : x.fired = true) (r : Portal) : x.cutShort r = false := by
  unfold Zone.cutShort
  rw [fired]

theorem cutShort_of_aimless {x : Zone} (aimless : x.dTarget = none) (r : Portal) : x.cutShort r = false := by
  unfold Zone.cutShort
  rw [aimless]
  cases x.fired <;> rfl

theorem rampZone_zones (s : State) (p : Fin 4) (i : Fin 32) : (s.rampZone p i).zones = updAt s.zones i fun z => z.ramped s.portals[p] := by
  have same {x : Zone} (is : (s.zones[i]).ramped s.portals[p] = s.zones[i]) : s.zones = updAt s.zones i fun z => z.ramped s.portals[p] := by
    rw [updAt_congr s.zones i (g := fun _ => s.zones[i]) is, updAt_self]
  rw [rampZone_eq]
  split
  · next fired => exact (zones_of_exceptOffers (exceptOffers_offerAll _ _ _)).trans (same (x := s.zones[i]) (ramped_of_fired fired _))
  · split
    · next aimless => exact same (x := s.zones[i]) (ramped_of_aimless aimless _)
    · exact (zones_of_exceptOffers (exceptOffers_offerAll _ _ _)).trans (stepped_zones s p i)

theorem exceptRamp_rampZone (s : State) (p : Fin 4) (i : Fin 32) : (s.rampZone p i).exceptRamp = s.exceptRamp := by
  rw [rampZone_eq]
  split
  · exact exceptRamp_of_exceptOffers (exceptOffers_offerAll _ _ _)
  · split
    · rfl
    · exact (exceptRamp_of_exceptOffers (exceptOffers_offerAll _ _ _)).trans (exceptRamp_stepped s p i)

theorem ramped_standing (x : Zone) (r : Portal) : (x.ramped r).standing = x.standing := by
  unfold Zone.ramped
  split <;> rfl

theorem zoneWork_rampZone (p : Fin 4) : ZoneWork State.exceptRamp fun s i => s.rampZone p i where
  wiped s i := exceptRamp_rampZone s p i
  other s i j differ := by
    rw [rampZone_zones]
    exact updAt_other _ _ _ _ differ
  standing s i := by
    rw [rampZone_zones, updAt_same]
    exact ramped_standing _ _
  group s i g absent := by
    have away : ∀ q ∈ (s.zones[i]).places, q.2 ≠ g := fun q placed same => absent (same ▸ standing_of_places placed)
    rw [rampZone_eq]
    split
    · exact offerAll_group_other _ s away
    · split
      · rfl
      · exact (offerAll_group_other _ _ away).trans (congrArg (fun v : Vector Group 48 => v[g]) (stepped_groups s p i))
  unoffered s i g absent := by
    have away : ∀ q ∈ (s.zones[i]).places, q.2 ≠ g := fun q placed same => absent (same ▸ standing_of_places placed)
    rw [rampZone_eq]
    split
    · exact .offerAll _ s away
    · split
      · exact .refl g s
      · exact (Unoffered.stepped g s p i).trans (.offerAll _ _ away)
  regular s i := .rampZone s p i

/-! ### Steps cut short are counted -/

theorem offerLevel_counters (s : State) (g : Fin 48) (l : Nat) (k : LevelKind) {c : Fin 8} (counts : s.counters[c].select = 10) :
    (s.offerLevel g l k).counters[c] = s.counters[c] := by
  unfold State.offerLevel
  split
  · rfl
  · split
    · rfl
    · refine (Report.count_get _ _ _ _ c ?_).trans (if_neg ?_)
      · change s.counters[c].select ≠ 11
        rw [counts]
        decide
      · change ¬ s.counters[c].select = 15
        rw [counts]
        decide

theorem offerAll_counters (s : State) (o : Offers) (places : List (Place × Fin 48)) {c : Fin 8} (counts : s.counters[c].select = 10) :
    (s.offerAll o places).counters[c] = s.counters[c] := by
  refine (foldl_related (R := fun t u : State => u.counters[c] = t.counters[c]) (I := fun t : State => t.counters[c].select = 10) (fun _ => rfl)
    (fun first second => second.trans first) places (fun t counts q _ => ?_) (fun t counts q _ => ?_) counts).1
  · unfold State.offerIf
    split
    · exact offerLevel_counters t _ _ _ counts
    · rfl
  · unfold State.offerIf
    split
    · rw [offerLevel_counters t _ _ _ counts]
      exact counts
    · exact counts

/-- A zone's ramp step counts under code 10 where the rise step cuts it short (R115, R164). -/
theorem rampZone_counters (s : State) (p : Fin 4) (i : Fin 32) {c : Fin 8} (counts : s.counters[c].select = 10) :
    (s.rampZone p i).counters[c]
      = if (s.zones[i]).cutShort s.portals[p] then s.counters[c].add (scopedTo [p] s.counters[c].scope) else s.counters[c] := by
  have stepped : (s.stepped p i).counters[c]
      = if (s.zones[i]).cutShort s.portals[p] then s.counters[c].add (scopedTo [p] s.counters[c].scope) else s.counters[c] := by
    unfold State.stepped
    dsimp only
    split
    · refine (Report.count_get _ _ _ _ c ?_).trans (if_pos counts)
      change s.counters[c].select ≠ 11
      rw [counts]
      decide
    · rfl
  have still : (s.stepped p i).counters[c].select = 10 := by
    rw [stepped]
    split <;> exact counts
  rw [rampZone_eq]
  split
  · next fired =>
    rw [cutShort_of_fired fired]
    exact offerAll_counters s _ _ counts
  · split
    · next aimless =>
      rw [cutShort_of_aimless aimless]
      rfl
    · exact (offerAll_counters _ _ _ still).trans stepped

theorem rampZones_counters (p : Fin 4) {c : Fin 8} (l : List (Fin 32)) : ∀ (s : State), l.Nodup → s.counters[c].select = 10 →
    (l.foldl (fun t i => t.rampZone p i) s).counters[c].value = s.counters[c].value
      + BitVec.ofNat 32 ((l.filter fun i => (s.zones[i]).cutShort s.portals[p]).length * scopedTo [p] s.counters[c].scope) := by
  induction l with
  | nil =>
    intro s _ _
    rw [List.foldl_nil, List.filter_nil, List.length_nil, Nat.zero_mul]
    simp
  | cons i l ih =>
    intro s nodup counts
    obtain ⟨absent, nodup⟩ := List.nodup_cons.mp nodup
    have counter := rampZone_counters s p i counts
    have still : (s.rampZone p i).counters[c].select = 10 := by
      rw [counter]
      split <;> exact counts
    have scope : (s.rampZone p i).counters[c].scope = s.counters[c].scope := by
      rw [counter]
      split <;> rfl
    have portals := portals_of_exceptRamp (exceptRamp_rampZone s p i)
    have others : (l.filter fun j => ((s.rampZone p i).zones[j]).cutShort (s.rampZone p i).portals[p])
        = l.filter fun j => (s.zones[j]).cutShort s.portals[p] := by
      refine List.filter_congr fun j here => ?_
      rw [(zoneWork_rampZone p).other s i j fun same => absent (same ▸ here), portals]
    rw [List.foldl_cons, ih _ nodup still, others, scope, counter, List.filter_cons]
    split
    · next cut =>
      rw [Counter.add_eq, List.length_cons, Nat.succ_mul, BitVec.ofNat_add, BitVec.add_assoc,
        BitVec.add_comm (BitVec.ofNat 32 (scopedTo [p] s.counters[c].scope))]
    · rfl

theorem scopedTo_eq_ite (p : Fin 4) (scope : CounterScope) : scopedTo [p] scope = if scope = .all ∨ scope = .portal p then 1 else 0 := by
  unfold scopedTo
  cases scope with
  | all => rfl
  | portal q => simp

/-! ### The expiry -/

/-- The state of a ramp expiry before its zones: the timer started again. -/
def State.rampBegun (s : State) (p : Fin 4) (e : Time) : State :=
  (s.reach e).mapPortal p fun r => { r with rampTimer := some (max s.now e + r.rampPeriod * msTicks) }

theorem fired_eq_false_iff {x : Zone} : x.fired = false ↔ ∀ o, x.override = some o → o.kind = .manual := by
  unfold Zone.fired
  cases x.override with
  | none => simp
  | some o =>
    cases kind : o.kind <;> simp [kind]

theorem fired_iff {x : Zone} : x.fired = true ↔ ∃ o, x.override = some o ∧ o.kind = .fire := by
  unfold Zone.fired
  simp only [Option.any_eq_true, decide_eq_true_eq]

theorem rampBegun_portals (s : State) (p : Fin 4) (e : Time) :
    (s.rampBegun p e).portals = updAt s.portals p fun r => { r with rampTimer := some (max s.now e + r.rampPeriod * msTicks) } := by
  unfold State.rampBegun
  rw [State.mapPortal_portals, State.reach_portals]

theorem portalZones_congr (zones : t.zones = s.zones) (p : Fin 4) : t.portalZones p = s.portalZones p := by
  unfold State.portalZones
  rw [zones]

theorem rampBegun_zones (s : State) (p : Fin 4) (e : Time) : (s.rampBegun p e).zones = s.zones := by
  unfold State.rampBegun
  rw [State.mapPortal_zones, State.reach_zones]

theorem rampExpiry_eq {e : Time} (runs : s.portals[p].rampTimer = some e) :
    s.rampExpiry p = (s.portalZones p).foldl (fun t i => t.rampZone p i) (s.rampBegun p e) := by
  rw [← portalZones_congr (rampBegun_zones s p e)]
  unfold State.rampExpiry
  rw [runs]
  rfl

/-- A ramp step reads the steps of its portal alone. -/
theorem ramped_rampBegun (s : State) (p : Fin 4) (e : Time) (x : Zone) : x.ramped (s.rampBegun p e).portals[p] = x.ramped s.portals[p] := by
  rw [rampBegun_portals, updAt_same]
  rfl

theorem cutShort_rampBegun (s : State) (p : Fin 4) (e : Time) (x : Zone) :
    x.cutShort (s.rampBegun p e).portals[p] = x.cutShort s.portals[p] := by
  rw [rampBegun_portals, updAt_same]
  rfl

theorem rampExpiry_zone {e : Time} (sound : s.configSound) (runs : s.portals[p].rampTimer = some e) (z : Fin 32) :
    (s.rampExpiry p).zones[z]
      = if s.zones[z].used = true ∧ s.zones[z].portal = p then (s.zones[z]).ramped s.portals[p] else s.zones[z] := by
  have member : z ∈ s.portalZones p ↔ s.zones[z].used = true ∧ s.zones[z].portal = p := mem_portalZones_of_sound sound
  rw [rampExpiry_eq runs]
  split
  · next here =>
    obtain ⟨u, same, zone, -, final⟩ :=
      (zoneWork_rampZone p).zone_of_fold (s := s.rampBegun p e) (nodup_portalZones _ p) (member.mpr here)
    rw [final, rampZone_zones, updAt_same, zone, portals_of_exceptRamp same, ramped_rampBegun]
    rfl
  · next away => exact (zoneWork_rampZone p).zone_fold fun i here same => away (member.mp (same ▸ here))

end

/-- Settles O36: the zones of the portal are stepped one by one, each step cut short counted once. -/
theorem rampStepsZones : Obligations.RampStepsZones := by
  unfold Obligations.RampStepsZones
  intro p e s live sound runs
  have final := rampExpiry_eq runs
  have zone := rampExpiry_zone sound runs
  have wiped := (zoneWork_rampZone p).wiped_fold (s.portalZones p) (s.rampBegun p e)
  rw [← final] at wiped
  refine ⟨_, whenLive_of_live live (·.rampExpiry p), ?_, fun z target used here aims calm => ?_, fun z still => ?_, ?_, ?_, ?_⟩
  · exact (portals_of_exceptRamp wiped).trans (rampBegun_portals s p e)
  · rw [zone, if_pos ⟨used, here⟩, ramped_of_target (fired_eq_false_iff.mpr calm) aims]
    rfl
  · rw [zone]
    split
    · next here =>
      rcases still with unused | away | aimless | fired
      · exact absurd here.1 (ne_true_of_eq_false unused)
      · exact absurd here.2 away
      · exact ramped_of_aimless aimless _
      · exact ramped_of_fired (fired_iff.mpr fired) _
    · rfl
  · refine ⟨(s.portalZones p).filter fun z => (s.zones[z]).cutShort s.portals[p], (nodup_portalZones s p).filter _,
      fun z => ?_, fun c counts => ?_⟩
    · rw [List.mem_filter, mem_portalZones_of_sound sound, and_assoc]
      refine and_congr_right fun _ => and_congr_right fun _ => ?_
      rw [← fired_eq_false_iff]
      unfold Zone.cutShort
      cases (s.zones[z]).fired <;> cases (s.zones[z]).dTarget <;> simp
    · have tally := rampZones_counters p (c := c) (s.portalZones p) (s.rampBegun p e) (nodup_portalZones s p) counts
      rw [← final] at tally
      simp only [cutShort_rampBegun, rampBegun_zones] at tally
      refine tally.trans ?_
      have scope : (s.rampBegun p e).counters[c].scope = s.counters[c].scope := rfl
      have value : (s.rampBegun p e).counters[c].value = s.counters[c].value := rfl
      rw [scope, value, scopedTo_eq_ite]
      split
      · rw [Nat.mul_one]
      · rw [Nat.mul_zero]
        exact BitVec.add_zero _
  · exact (congrArg (fun u : State => u.portalFlags) wiped :)
  · rw [final]
    exact foldl_keeps State.exceptRegulation _ (fun t i => exceptRegulation_rampZone t p i) _ _

end Sys2Proof.Machine

/-! SUPPORT. Step 4 of a pass for one zone: its figures, its record afterwards, its deficit and its offers (R98 to R111, Table 6-4). -/

namespace Sys2Proof.Machine

set_option Elab.async false

/-! ### Figures -/

/-- The available output of a group, as a pass computes it now (R98, R99). -/
def State.figure (s : State) (g : Fin 48) : Nat := s.groups[g].available s.groups[g].maintenance (s.listedStates g)

/-- The record of a group after its figures were computed. -/
def State.figuredGroup (s : State) (g : Fin 48) : Group := { s.groups[g] with mf := some s.groups[g].maintenance, sg := some (s.figure g) }

/-- What the figures of a group are computed from, and what the selection reads of it. -/
def Group.unstaged (g : Group) : Group := { g.withOffer Group.reset with mf := none, sg := none }

section
variable {s t : State}

theorem available_unstaged (r : Group) (mf : Nat) (l : List DriverState) : r.unstaged.available mf l = r.available mf l := by
  unfold Group.available
  rfl

/-- The figure of a group reads the drivers and what staging leaves of the group. -/
theorem figure_congr (drivers : t.drivers = s.drivers) {g : Fin 48} (group : t.groups[g].unstaged = s.groups[g].unstaged) :
    t.figure g = s.figure g := by
  have maintenance : t.groups[g].maintenance = s.groups[g].maintenance := (congrArg Group.maintenance group :)
  have states : t.listedStates g = s.listedStates g := by
    unfold State.listedStates State.listed
    rw [drivers]
  unfold State.figure
  rw [← available_unstaged, group, available_unstaged, maintenance, states]

theorem computeGroup_groups (s : State) (g h : Fin 48) : (s.computeGroup g).groups[h] = if g = h then s.figuredGroup h else s.groups[h] := by
  unfold State.computeGroup
  dsimp only
  rw [updAt_get]
  split
  · next same => subst same; rfl
  · rfl

theorem figuredGroup_congr (drivers : t.drivers = s.drivers) {g : Fin 48} (group : t.groups[g] = s.groups[g] ∨ t.groups[g] = s.figuredGroup g) :
    t.figuredGroup g = s.figuredGroup g := by
  have figure : t.figure g = s.figure g := figure_congr drivers (group.elim (congrArg _) (congrArg _))
  unfold State.figuredGroup
  rw [figure]
  rcases group with same | same
  · rw [same]
  · rw [same]
    rfl

/-- The groups of a list get their figures, the others stay. -/
theorem computeGroups_get (l : List (Fin 48)) (s : State) (h : Fin 48) :
    (l.foldl (fun t g => t.computeGroup g) s).groups[h] = if h ∈ l then s.figuredGroup h else s.groups[h] := by
  induction l generalizing s with
  | nil => rfl
  | cons g l ih =>
    have first := computeGroup_groups s g h
    have figured : (s.computeGroup g).figuredGroup h = s.figuredGroup h :=
      figuredGroup_congr (s := s) (t := s.computeGroup g) rfl (by
        rw [first]
        split
        · exact .inr rfl
        · exact .inl rfl)
    rw [List.foldl_cons, ih, figured, first]
    by_cases later : h ∈ l
    · rw [if_pos later, if_pos (List.mem_cons_of_mem g later)]
    · rw [if_neg later]
      simp only [List.mem_cons, later, or_false, eq_comm]

/-- The state once the groups of a zone got their figures. -/
def State.figured (s : State) (i : Fin 32) : State := (s.zones[i]).standing.foldl (fun t g => t.computeGroup g) s

theorem figured_groups (s : State) (i : Fin 32) (g : Fin 48) :
    (s.figured i).groups[g] = if g ∈ (s.zones[i]).standing then s.figuredGroup g else s.groups[g] := computeGroups_get _ s g

/-- Wipes the groups. -/
def State.exceptGroups (s : State) : State := { s with groups := Vector.replicate 48 Group.reset }

theorem exceptGroups_figured (s : State) (i : Fin 32) : (s.figured i).exceptGroups = s.exceptGroups :=
  foldl_keeps State.exceptGroups (fun t g => t.computeGroup g) (fun _ _ => rfl) _ s

theorem figured_eq (s : State) (i : Fin 32) : s.figured i = { s with groups := (s.figured i).groups } :=
  congrArg (fun u : State => { u with groups := (s.figured i).groups }) (exceptGroups_figured s i)

theorem figured_drivers (s : State) (i : Fin 32) : (s.figured i).drivers = s.drivers := (congrArg (fun u : State => u.drivers) (exceptGroups_figured s i) :)

theorem figured_zones (s : State) (i : Fin 32) : (s.figured i).zones = s.zones := (congrArg (fun u : State => u.zones) (exceptGroups_figured s i) :)

theorem figured_sg {i : Fin 32} {g : Fin 48} (stands : g ∈ (s.zones[i]).standing) : (s.figured i).sg g = s.figure g := by
  unfold State.sg
  rw [figured_groups, if_pos stands]
  rfl

theorem figured_unstaged (s : State) (i : Fin 32) (g : Fin 48) : (s.figured i).groups[g].unstaged = s.groups[g].unstaged := by
  rw [figured_groups]
  split <;> rfl

end

/-! ### The selection reads the groups of the zone alone -/

section
variable {z : Zone} {sg sg' : Fin 48 → Nat} {groups groups' : Vector Group 48}

/-- Two figures agree on the slots of a zone. -/
def Zone.sameFigures (z : Zone) (sg sg' : Fin 48 → Nat) : Prop := ∀ p ∈ z.places, sg p.2 = sg' p.2

/-- Two tables of groups agree in what the minimum level of a zone reads. -/
def Zone.sameMinima (z : Zone) (groups groups' : Vector Group 48) : Prop :=
  ∀ p ∈ z.places, (groups[p.2]).owner = (groups'[p.2]).owner ∧ (groups[p.2]).dmin = (groups'[p.2]).dmin

theorem sameFigures_of_places {y : Zone} (places : y.places = z.places) (same : z.sameFigures sg sg') : y.sameFigures sg sg' := by
  unfold Zone.sameFigures
  rw [places]
  exact same

theorem sameMinima_of_places {y : Zone} (places : y.places = z.places) (same : z.sameMinima groups groups') : y.sameMinima groups groups' := by
  unfold Zone.sameMinima
  rw [places]
  exact same

theorem sOn_congr (same : z.sameFigures sg sg') : z.sOn sg = z.sOn sg' := by
  unfold Zone.sOn
  exact congrArg List.sum (List.map_congr_left fun p member => same p (List.mem_filter.mp member).1)

theorem sAll_congr (eligible : Bool) (same : z.sameFigures sg sg') : z.sAll sg eligible = z.sAll sg' eligible := by
  unfold Zone.sAll Zone.eligiblePlaces
  exact congrArg List.sum (List.map_congr_left fun p member => same p (List.mem_filter.mp member).1)

theorem dminOn_congr (same : z.sameMinima groups groups') : z.dminOn groups = z.dminOn groups' := by
  have slots : (z.places.filter fun p => z.isOn p.1 && groups[p.2].owner == .part)
      = z.places.filter fun p => z.isOn p.1 && groups'[p.2].owner == .part :=
    List.filter_congr fun p member => by rw [(same p member).1]
  have minima : ∀ p ∈ z.places.filter (fun p => z.isOn p.1 && groups'[p.2].owner == .part), (groups[p.2]).dmin = (groups'[p.2]).dmin :=
    fun p member => (same p (List.mem_filter.mp member).1).2
  unfold Zone.dminOn
  rw [slots]
  cases list : z.places.filter fun p => z.isOn p.1 && groups'[p.2].owner == .part with
  | nil => rfl
  | cons p ps =>
    rw [list] at minima
    dsimp only
    rw [minima p List.mem_cons_self]
    refine List.foldl_rel rfl fun q member m m' same => ?_
    rw [same, minima q (List.mem_cons_of_mem p member)]

theorem addStages_congr (eligible : Bool) (lz : Nat) (same : z.sameFigures sg sg') : z.addStages sg eligible lz = z.addStages sg' eligible lz := by
  have same (k : Nat) : (z.upTo k).sOn sg = (z.upTo k).sOn sg' := sOn_congr (z := z.upTo k) same
  rw [addStages_spec, addStages_spec]
  simp only [same]

theorem addStages_places (eligible : Bool) (lz : Nat) : (z.addStages sg eligible lz).places = z.places := by
  obtain ⟨stages, reserve, -⟩ := z.growsTo_addStages sg eligible lz
  exact Zone.places_congr stages reserve

theorem switchOn_places (eligible : Bool) (lz : Nat) : (z.switchOn sg groups eligible lz).places = z.places := by
  obtain ⟨stages, reserve, -⟩ := growsTo_switchOn (z := z) (sg := sg) (groups := groups) (eligible := eligible) (lz := lz)
  exact Zone.places_congr stages reserve

theorem switchOn_congr (eligible : Bool) (lz : Nat) (figures : z.sameFigures sg sg') (minima : z.sameMinima groups groups') :
    z.switchOn sg groups eligible lz = z.switchOn sg' groups' eligible lz := by
  have places := addStages_places (z := z) (sg := sg') eligible lz
  unfold Zone.switchOn
  dsimp only
  rw [addStages_congr eligible lz figures, sOn_congr figures, sOn_congr (sameFigures_of_places places figures),
    dminOn_congr (sameMinima_of_places places minima)]

theorem setOn_places (q : Place) (b : Bool) : (z.setOn q b).places = z.places := Zone.places_congr (by simp) (by simp)

theorem switchOff_congr (lz : Nat) (same : z.sameFigures sg sg') : z.switchOff sg lz = z.switchOff sg' lz := by
  cases candidate : z.offCandidate with
  | none => rw [switchOff_of_none candidate, switchOff_of_none candidate]
  | some q =>
    rw [switchOff_of_some candidate, switchOff_of_some candidate, sOn_congr same,
      sOn_congr (sameFigures_of_places (setOn_places q false) same)]

theorem shedReserve_congr (same : z.sameFigures sg sg') : z.shedReserve sg = z.shedReserve sg' := by
  unfold Zone.shedReserve
  dsimp only
  rw [sOn_congr same, sOn_congr (z := { z with onReserve := false }) same]

theorem shedReserve_places : (z.shedReserve sg).places = z.places := Zone.places_congr rfl rfl

theorem switchOff_places (lz : Nat) : (z.switchOff sg lz).places = z.places := by
  cases candidate : z.offCandidate with
  | none => rw [switchOff_of_none candidate]
  | some q =>
    rw [switchOff_of_some candidate]
    split
    · exact setOn_places q false
    · rfl

theorem levelTarget_congr (lz : Nat) (figures : z.sameFigures sg sg') (minima : z.sameMinima groups groups') :
    z.levelTarget sg groups lz = z.levelTarget sg' groups' lz := by
  unfold Zone.levelTarget
  dsimp only
  rw [sOn_congr figures, dminOn_congr minima]

end

/-! ### The selection under AUTO (R102 to R109) -/

section
variable {z : Zone} {sg sg' : Fin 48 → Nat} {groups groups' : Vector Group 48} {eligible : Bool} {lz : Nat}

/-- A zone whose ineligible reserve was shed, if it was on (R103). -/
def Zone.shed (z : Zone) (sg : Fin 48 → Nat) (eligible : Bool) : Zone := if z.onReserve && !eligible then z.shedReserve sg else z

/-- The on set and commanded level that the selection takes a zone to (R103 to R107, Table 6-4). -/
def Zone.selected (z : Zone) (sg : Fin 48 → Nat) (groups : Vector Group 48) (eligible : Bool) (lz : Nat) : Zone :=
  let y := z.shed sg eligible
  let x := y.switchOn sg groups eligible lz
  if z.onReserve && !eligible || !x.sameOnSet y then x else x.switchOff sg lz

theorem selectAuto_eq : z.selectAuto sg groups eligible lz = { z.selected sg groups eligible lz with
    dTarget := some ((z.selected sg groups eligible lz).levelTarget sg groups lz) } := rfl

theorem shed_places : (z.shed sg eligible).places = z.places := by
  unfold Zone.shed
  split
  · exact shedReserve_places
  · rfl

theorem selected_places : (z.selected sg groups eligible lz).places = z.places := by
  unfold Zone.selected
  dsimp only
  split
  · rw [switchOn_places, shed_places]
  · rw [switchOff_places, switchOn_places, shed_places]

theorem shed_congr (figures : z.sameFigures sg sg') : z.shed sg eligible = z.shed sg' eligible := by
  unfold Zone.shed
  rw [shedReserve_congr figures]

theorem selected_congr (figures : z.sameFigures sg sg') (minima : z.sameMinima groups groups') :
    z.selected sg groups eligible lz = z.selected sg' groups' eligible lz := by
  have places := shed_places (z := z) (sg := sg') (eligible := eligible)
  unfold Zone.selected
  dsimp only
  rw [shed_congr figures, switchOn_congr eligible lz (sameFigures_of_places places figures) (sameMinima_of_places places minima),
    switchOff_congr lz (sameFigures_of_places ((switchOn_places eligible lz).trans places) figures)]

theorem selectAuto_congr (figures : z.sameFigures sg sg') (minima : z.sameMinima groups groups') :
    z.selectAuto sg groups eligible lz = z.selectAuto sg' groups' eligible lz := by
  have places := selected_places (z := z) (sg := sg') (groups := groups') (eligible := eligible) (lz := lz)
  rw [selectAuto_eq, selectAuto_eq, selected_congr figures minima,
    levelTarget_congr lz (sameFigures_of_places places figures) (sameMinima_of_places places minima)]

/-- The selection writes the on set, the commanded level and the target alone. -/
theorem selected_kept : z.selected sg groups eligible lz = { z with
    onStages := (z.selected sg groups eligible lz).onStages
    onReserve := (z.selected sg groups eligible lz).onReserve
    dCmd := (z.selected sg groups eligible lz).dCmd } := by
  have shed : z.shed sg eligible = { z with
      onStages := (z.shed sg eligible).onStages, onReserve := (z.shed sg eligible).onReserve, dCmd := (z.shed sg eligible).dCmd } := by
    unfold Zone.shed
    split <;> rfl
  have off (x : Zone) : x.switchOff sg lz = { x with
      onStages := (x.switchOff sg lz).onStages, onReserve := (x.switchOff sg lz).onReserve, dCmd := (x.switchOff sg lz).dCmd } := by
    cases candidate : x.offCandidate with
    | none => rw [switchOff_of_none candidate]
    | some q =>
      rw [switchOff_of_some candidate]
      split
      · cases q <;> rfl
      · rfl
  unfold Zone.selected
  dsimp only
  split
  · rw [switchOn_kept, shed]
  · rw [off, switchOn_kept, shed]

theorem selectAuto_kept : z.selectAuto sg groups eligible lz = { z with
    onStages := (z.selectAuto sg groups eligible lz).onStages
    onReserve := (z.selectAuto sg groups eligible lz).onReserve
    dCmd := (z.selectAuto sg groups eligible lz).dCmd
    dTarget := (z.selectAuto sg groups eligible lz).dTarget } := by
  rw [selectAuto_eq, selected_kept]

end

end Sys2Proof.Machine

/-! SUPPORT. Step 4 of a pass as a whole: what it makes of its zone, what it leaves, and that it works zone by zone (R102, R110, Table 6-4). -/

namespace Sys2Proof.Machine

set_option Elab.async false

/-! ### The zone after its step -/

section
variable (s : State) (i : Fin 32)

/-- The zone with the eligibility of its reserve computed (R101). -/
def State.aimed : Zone := { s.zones[i] with reserveEligible := s.reserveEligible s.zones[i] }

/-- The zone's target, which step 3 wrote. -/
def State.aim : Nat := (s.zones[i].lz).getD 0

/-- The zone after the selection, which passes over a zone under override (Table 6-4). -/
def State.chosen : Zone :=
  if (s.zones[i].override).isNone then (s.aimed i).selectAuto s.figure s.groups (s.reserveEligible s.zones[i]) (s.aim i) else s.aimed i

/-- The zone's eligible output (R102). -/
def State.reachable_output : Nat := (s.chosen i).sAll s.figure (s.reserveEligible s.zones[i])

/-- The zone after the deficit test with the output `sAll` (R110). -/
def Zone.judged (z : Zone) (lz sAll : Nat) : Zone :=
  { z with deficit := decide (sAll < lz), deficitAmount := if decide (sAll < lz) = true then lz - sAll else 0 }

/-- The zone after step 4. -/
def State.staged : Zone := (s.chosen i).judged (s.aim i) (s.reachable_output i)

/-- The offers of a zone after its selection (R108, R111). -/
def handoverOffers (old new : Zone) (immediate : Bool) : Offers where
  test q _ g := decide (g.owner = .part ∧ (immediate = true
    ∨ (¬ new.sameOnSet old = true ∧ g.levelAt (new.isOn q) new.dCmd ≠ g.levelAt (old.isOn q) old.dCmd)))
  level q g := g.levelAt (new.isOn q) new.dCmd
  kind := .autoManual

theorem offerHandover_eq (old new : Zone) (b : Bool) : s.offerHandover old new b = s.offerAll (handoverOffers old new b) new.places := by
  unfold State.offerHandover State.offerAll State.offerIf handoverOffers
  simp only [decide_eq_true_eq]

/-- The report of a deficit test, made after the zone was written: its onset, its end, or none (R110, R162). -/
def State.deficitReport (s : State) (i : Fin 32) (p : Fin 4) (held : Bool) (lz sAll : Nat) : State :=
  if decide (sAll < lz) && !held then s.portalEvent p .deficit (BitVec.ofNat 8 i.val) (lz - sAll)
  else if held && !decide (sAll < lz) then s.portalAlert p evDeficitEnd (BitVec.ofNat 8 i.val) 0
  else s

theorem deficitTest_eq (lz sAll : Nat) :
    s.deficitTest i lz sAll
      = ({ s with zones := updAt s.zones i fun z => z.judged lz sAll } : State).deficitReport i s.zones[i].portal s.zones[i].deficit lz sAll := by
  rfl

/-- The state of step 4 before its offers. -/
def State.tested : State :=
  ({ s.figured i with zones := updAt s.zones i fun _ => s.staged i } : State).deficitReport i s.zones[i].portal s.zones[i].deficit (s.aim i)
    (s.reachable_output i)

end

section
variable {s : State} {i : Fin 32}

theorem chosen_kept : s.chosen i = { s.aimed i with
    onStages := (s.chosen i).onStages, onReserve := (s.chosen i).onReserve, dCmd := (s.chosen i).dCmd, dTarget := (s.chosen i).dTarget } := by
  unfold State.chosen
  split
  · rw [selectAuto_kept]
  · rfl

theorem chosen_places : (s.chosen i).places = (s.zones[i]).places := by
  rw [chosen_kept]
  exact Zone.places_congr rfl rfl

/-- The figures of a zone's slots are those its groups keep. -/
theorem figured_sameFigures (s : State) (i : Fin 32) : (s.zones[i]).sameFigures (s.figured i).sg s.figure :=
  fun p placed => figured_sg (standing_of_places (q := p.1) placed)

theorem sameMinima_of_unstaged {z : Zone} {groups groups' : Vector Group 48} (same : ∀ g : Fin 48, groups[g].unstaged = groups'[g].unstaged) :
    z.sameMinima groups groups' := fun p _ => ⟨(congrArg Group.owner (same p.2) :), (congrArg Group.dmin (same p.2) :)⟩

theorem reserveEligible_congr {t : State} (drivers : t.drivers = s.drivers) (z : Zone) : t.reserveEligible z = s.reserveEligible z := by
  unfold State.reserveEligible State.listedStates State.listed
  rw [drivers]

theorem chosen_eq : (if (s.zones[i].override).isNone then
      (s.aimed i).selectAuto (s.figured i).sg (s.figured i).groups (s.reserveEligible s.zones[i]) (s.aim i) else s.aimed i) = s.chosen i := by
  unfold State.chosen
  rw [selectAuto_congr (z := s.aimed i) (figured_sameFigures s i) (sameMinima_of_unstaged (figured_unstaged s i))]

theorem sAll_figured : (s.chosen i).sAll (s.figured i).sg (s.reserveEligible s.zones[i]) = s.reachable_output i :=
  sAll_congr _ (sameFigures_of_places chosen_places (figured_sameFigures s i))

theorem chosen_portal : (s.chosen i).portal = (s.zones[i]).portal := by
  rw [chosen_kept]
  rfl

theorem chosen_deficit : (s.chosen i).deficit = (s.zones[i]).deficit := by
  rw [chosen_kept]
  rfl

/-- Step 4 with the zone before and after its selection given. -/
def State.stageWith (s : State) (i : Fin 32) (b : Bool) (old new : Zone) (eligible : Bool) : State :=
  let t := ({ s.figured i with zones := updAt (s.figured i).zones i fun _ => new } : State).deficitTest i (s.aim i)
    (new.sAll (s.figured i).sg eligible)
  if (s.zones[i].override).isNone then t.offerHandover old new b else t

theorem stageZone_eq (s : State) (i : Fin 32) (b : Bool) : s.stageZone i b =
    if (s.zones[i].override).isNone then (s.tested i).offerAll (handoverOffers (s.aimed i) (s.chosen i) b) (s.zones[i]).places else s.tested i := by
  have eligible := reserveEligible_congr (figured_drivers s i) s.zones[i]
  have selected : ({ s.figured i with zones := updAt (s.figured i).zones i fun _ => s.chosen i } : State).deficitTest i (s.aim i) (s.reachable_output i)
      = s.tested i := by
    rw [deficitTest_eq]
    have portal : (({ s.figured i with zones := updAt (s.figured i).zones i fun _ => s.chosen i } : State).zones[i]).portal = (s.zones[i]).portal :=
      (congrArg Zone.portal (updAt_same _ _ _)).trans chosen_portal
    have deficit : (({ s.figured i with zones := updAt (s.figured i).zones i fun _ => s.chosen i } : State).zones[i]).deficit = (s.zones[i]).deficit :=
      (congrArg Zone.deficit (updAt_same _ _ _)).trans chosen_deficit
    rw [portal, deficit]
    unfold State.tested
    congr 2
    dsimp only
    rw [updAt_updAt, figured_zones]
    rfl
  have whole (eligible : Bool) (same : (s.figured i).reserveEligible s.zones[i] = eligible) : s.stageZone i b =
      s.stageWith i b { s.zones[i] with reserveEligible := eligible } (if (s.zones[i].override).isNone then
        ({ s.zones[i] with reserveEligible := eligible } : Zone).selectAuto (s.figured i).sg (s.figured i).groups eligible (s.aim i)
        else { s.zones[i] with reserveEligible := eligible }) eligible := by
    subst same
    rfl
  rw [whole _ eligible]
  unfold State.stageWith
  rw [show (if (s.zones[i].override).isNone then
        ({ s.zones[i] with reserveEligible := s.reserveEligible s.zones[i] } : Zone).selectAuto (s.figured i).sg (s.figured i).groups
          (s.reserveEligible s.zones[i]) (s.aim i)
        else { s.zones[i] with reserveEligible := s.reserveEligible s.zones[i] }) = s.chosen i from chosen_eq, sAll_figured, selected]
  dsimp only
  rw [offerHandover_eq, chosen_places]
  rfl

/-! ### What step 4 writes -/

/-- Wipes what step 4 writes: zones, figures, offers, portal flags and the report. -/
def State.exceptStaging (s : State) : State :=
  { s.exceptOffers with
    zones := Vector.replicate 32 Zone.reset
    portalFlags := Vector.replicate 4 0
    groups := s.exceptOffers.groups.map fun g => { g with mf := none, sg := none } }

theorem unstaged_of_exceptStaging {t : State} (same : t.exceptStaging = s.exceptStaging) (g : Fin 48) :
    t.groups[g].unstaged = s.groups[g].unstaged := by
  have tables : (t.groups.map fun g => g.withOffer Group.reset).map (fun g => ({ g with mf := none, sg := none } : Group))
      = (s.groups.map fun g => g.withOffer Group.reset).map fun g => ({ g with mf := none, sg := none } : Group) :=
    (congrArg (fun u : State => u.groups) same :)
  rw [Vector.map_map, Vector.map_map] at tables
  exact get_of_map_eq _ tables g

theorem exceptStaging_of_exceptOffers {t : State} (same : t.exceptOffers = s.exceptOffers) : t.exceptStaging = s.exceptStaging := by
  unfold State.exceptStaging
  rw [same]

theorem figure_of_exceptStaging {t : State} (same : t.exceptStaging = s.exceptStaging) (g : Fin 48) : t.figure g = s.figure g :=
  figure_congr (s := s) (t := t) (congrArg (fun u : State => u.drivers) same :) (unstaged_of_exceptStaging same g)

section
variable (s : State) (i : Fin 32) (p : Fin 4) (held : Bool) (lz sAll : Nat)

theorem deficitReport_zones : (s.deficitReport i p held lz sAll).zones = s.zones := by
  unfold State.deficitReport
  split
  · rw [State.portalEvent_zones]
  · split
    · rw [State.portalAlert_zones]
    · rfl

theorem deficitReport_groups : (s.deficitReport i p held lz sAll).groups = s.groups := by
  unfold State.deficitReport
  split
  · rw [State.portalEvent_groups]
  · split
    · rw [State.portalAlert_groups]
    · rfl

theorem deficitReport_fQueue : (s.deficitReport i p held lz sAll).fQueue = s.fQueue := by
  unfold State.deficitReport
  split
  · rw [State.portalEvent_fQueue]
  · split
    · rw [State.portalAlert_fQueue]
    · rfl

theorem Regular.deficitReport : Regular s (s.deficitReport i p held lz sAll) := by
  unfold State.deficitReport
  split
  · exact .portalEvent _ _ _ _ _
  · split
    · exact .portalAlert _ _ _ _ _
    · exact .refl _

theorem exceptStaging_deficitReport : (s.deficitReport i p held lz sAll).exceptStaging = s.exceptStaging := by
  unfold State.deficitReport
  split
  · rfl
  · split <;> rfl

end

theorem tested_zones : (s.tested i).zones = updAt s.zones i fun _ => s.staged i := by
  unfold State.tested
  rw [deficitReport_zones]

theorem tested_groups : (s.tested i).groups = (s.figured i).groups := by
  unfold State.tested
  rw [deficitReport_groups]

theorem tested_fQueue : (s.tested i).fQueue = s.fQueue := by
  unfold State.tested
  rw [deficitReport_fQueue]
  exact (congrArg (fun u : State => u.fQueue) (exceptGroups_figured s i) :)

theorem Regular.figured (s : State) (i : Fin 32) : Regular s (s.figured i) := Regular.foldl _ (fun t g => .computeGroup t g) _ s

theorem Regular.tested (s : State) (i : Fin 32) : Regular s (s.tested i) :=
  (Regular.figured s i).trans ((Regular.withZones _ _).trans (.deficitReport _ _ _ _ _ _))

theorem exceptStaging_tested (s : State) (i : Fin 32) : (s.tested i).exceptStaging = s.exceptStaging := by
  have groups : ((s.figured i).groups.map fun g => g.withOffer Group.reset).map (fun g => ({ g with mf := none, sg := none } : Group))
      = (s.groups.map fun g => g.withOffer Group.reset).map fun g => ({ g with mf := none, sg := none } : Group) := by
    rw [Vector.map_map, Vector.map_map]
    ext j hj
    rw [Vector.getElem_map, Vector.getElem_map]
    exact figured_unstaged s i ⟨j, hj⟩
  unfold State.tested
  rw [exceptStaging_deficitReport, figured_eq]
  unfold State.exceptStaging State.exceptOffers
  dsimp only
  rw [groups]
  rfl

theorem tested_now : (s.tested i).now = s.now := (congrArg (fun u : State => u.now) (exceptStaging_tested s i) :)

theorem tested_noLevelOffered (s : State) (i : Fin 32) (g : Fin 48) : s.noLevelOffered (s.tested i) g := by
  unfold State.noLevelOffered
  simp only [tested_groups, figured_groups]
  split <;> exact ⟨rfl, rfl, rfl, rfl⟩

theorem Unoffered.tested (g : Fin 48) (s : State) (i : Fin 32) : Unoffered g s (s.tested i) :=
  .of_same (.tested s i) tested_fQueue (tested_noLevelOffered s i g)

/-- Step 4 is what comes before its offers, then offers, if any. -/
theorem stageZone_offers (s : State) (i : Fin 32) (b : Bool) :
    ∃ places : List (Place × Fin 48), places ⊆ (s.zones[i]).places
      ∧ s.stageZone i b = (s.tested i).offerAll (handoverOffers (s.aimed i) (s.chosen i) b) places := by
  rw [stageZone_eq]
  split
  · exact ⟨_, List.Subset.refl _, rfl⟩
  · exact ⟨[], List.nil_subset _, rfl⟩

theorem stageZone_zones (s : State) (i : Fin 32) (b : Bool) : (s.stageZone i b).zones = updAt s.zones i fun _ => s.staged i := by
  obtain ⟨places, -, offers⟩ := stageZone_offers s i b
  rw [offers]
  exact (zones_of_exceptOffers (exceptOffers_offerAll _ _ _)).trans tested_zones

theorem exceptStaging_stageZone (s : State) (i : Fin 32) (b : Bool) : (s.stageZone i b).exceptStaging = s.exceptStaging := by
  obtain ⟨places, -, offers⟩ := stageZone_offers s i b
  rw [offers]
  exact (exceptStaging_of_exceptOffers (exceptOffers_offerAll _ _ _)).trans (exceptStaging_tested s i)

theorem staged_kept : s.staged i = { s.zones[i] with
    reserveEligible := s.reserveEligible s.zones[i], onStages := (s.staged i).onStages, onReserve := (s.staged i).onReserve,
    dCmd := (s.staged i).dCmd, dTarget := (s.staged i).dTarget, deficit := (s.staged i).deficit,
    deficitAmount := (s.staged i).deficitAmount } := by
  unfold State.staged Zone.judged
  rw [chosen_kept]
  rfl

/-- A group's record after step 4: its figures, if it stands in the zone, and what offers wrote. -/
theorem stageZone_group (s : State) (i : Fin 32) (b : Bool) (g : Fin 48) :
    (s.stageZone i b).groups[g] = ((s.figured i).groups[g]).withOffer (s.stageZone i b).groups[g] := by
  obtain ⟨places, -, offers⟩ := stageZone_offers s i b
  have same := group_of_exceptOffers (exceptOffers_offerAll (handoverOffers (s.aimed i) (s.chosen i) b) (s.tested i) places) g
  rw [← offers] at same
  exact same.trans (congrArg (fun v : Vector Group 48 => v[g].withOffer (s.stageZone i b).groups[g]) tested_groups)

theorem zoneWork_stageZone (b : Bool) : ZoneWork State.exceptStaging fun s i => s.stageZone i b where
  wiped s i := exceptStaging_stageZone s i b
  other s i j differ := by
    rw [stageZone_zones]
    exact updAt_other _ _ _ _ differ
  standing s i := by
    rw [stageZone_zones, updAt_same, staged_kept]
    rfl
  group s i g absent := by
    obtain ⟨places, within, offers⟩ := stageZone_offers s i b
    rw [offers]
    have away : ∀ q ∈ places, q.2 ≠ g := fun q placed same => absent (same ▸ standing_of_places (within placed))
    refine (offerAll_group_other _ _ away).trans ?_
    simp only [tested_groups]
    rw [figured_groups, if_neg absent]
  unoffered s i g absent := by
    obtain ⟨places, within, offers⟩ := stageZone_offers s i b
    rw [offers]
    have away : ∀ q ∈ places, q.2 ≠ g := fun q placed same => absent (same ▸ standing_of_places (within placed))
    exact (Unoffered.tested g s i).trans (.offerAll _ _ away)
  regular s i := .stageZone s i b

end

end Sys2Proof.Machine

/-! SUPPORT. FORCE on one zone, and why no own LEVEL is ever offered for a LINE-owned group: O37 (R36, R116, R117, R124, R125). -/

namespace Sys2Proof.Machine

set_option Elab.async false

/-! ### FORCE on one zone -/

/-- A zone under a new override (R124, R125). -/
def State.forced (s : State) (kind : OverrideKind) (level : Nat) (scope : OverrideScope) (z : Zone) : Zone :=
  match kind with
  | .manual => z.manual s.sg s.groups level scope
  | .fire => z.fire s.groups level scope

/-- The offers FORCE makes for a zone (R124, R125). -/
def forceOffers (z : Zone) (kind : OverrideKind) : Offers where
  test q _ g := decide (g.owner = .part ∧ (kind = .manual → g.levelAt (z.isOn q) z.dCmd ≠ g.sent))
  level q g := g.levelAt (z.isOn q) z.dCmd
  kind := match kind with
    | .manual => .autoManual
    | .fire => .fire

section
variable (s : State) (i : Fin 32) (kind : OverrideKind) (level : Nat) (scope : OverrideScope)

theorem offerForce_eq : s.offerForce i kind = s.offerAll (forceOffers s.zones[i] kind) (s.zones[i]).places := by
  unfold State.offerForce State.offerAll State.offerIf forceOffers
  cases kind with
  | manual => simp only [decide_eq_true_eq, forall_const]
  | fire => simp only [decide_eq_true_eq, reduceCtorEq, false_imp_iff, and_true]

theorem forced_standing (z : Zone) : (s.forced kind level scope z).standing = z.standing := by
  cases kind <;> rfl

theorem forced_places (z : Zone) : (s.forced kind level scope z).places = z.places := by
  cases kind <;> exact Zone.places_congr rfl rfl

theorem forceZone_eq : s.forceZone i kind level scope
    = (s.mapZone i (s.forced kind level scope)).offerAll (forceOffers (s.forced kind level scope s.zones[i]) kind) (s.zones[i]).places := by
  have zone : (s.mapZone i (s.forced kind level scope)).zones[i] = s.forced kind level scope s.zones[i] := updAt_same _ _ _
  have whole : s.forceZone i kind level scope = (s.mapZone i (s.forced kind level scope)).offerForce i kind := by
    unfold State.forceZone
    cases kind <;> rfl
  rw [whole, offerForce_eq, zone, forced_places]

theorem forceZone_zones : (s.forceZone i kind level scope).zones = updAt s.zones i (s.forced kind level scope) := by
  rw [forceZone_eq]
  exact zones_of_exceptOffers (exceptOffers_offerAll _ _ _)

theorem exceptRamp_forceZone : (s.forceZone i kind level scope).exceptRamp = s.exceptRamp := by
  rw [forceZone_eq]
  exact (exceptRamp_of_exceptOffers (exceptOffers_offerAll _ _ _)).trans rfl

theorem Unoffered.mapZone (g : Fin 48) (f : Zone → Zone) : Unoffered g s (s.mapZone i f) :=
  .of_same (.mapZone s i f) rfl ⟨rfl, rfl, rfl, rfl⟩

end

theorem zoneWork_forceZone (kind : OverrideKind) (level : Nat) (scope : OverrideScope) :
    ZoneWork State.exceptRamp fun s i => s.forceZone i kind level scope where
  wiped s i := exceptRamp_forceZone s i kind level scope
  other s i j differ := by
    rw [forceZone_zones]
    exact updAt_other _ _ _ _ differ
  standing s i := by
    rw [forceZone_zones, updAt_same]
    exact forced_standing s kind level scope _
  group s i g absent := by
    have away : ∀ q ∈ (s.zones[i]).places, q.2 ≠ g := fun q placed same => absent (same ▸ standing_of_places placed)
    rw [forceZone_eq]
    exact offerAll_group_other _ _ away
  unoffered s i g absent := by
    have away : ∀ q ∈ (s.zones[i]).places, q.2 ≠ g := fun q placed same => absent (same ▸ standing_of_places placed)
    rw [forceZone_eq]
    exact (Unoffered.mapZone s i g _).trans (.offerAll _ _ away)
  regular s i := .forceZone s i kind level scope

/-! ### Offers for a LINE-owned group -/

section
variable {s t u : State} {g : Fin 48}

/-- Offers made for PART-owned groups alone. -/
def Offers.partOnly (o : Offers) : Prop := ∀ q now r, o.test q now r = true → r.owner = .part

theorem owner_of_configuration (same : t.configuration = s.configuration) (g : Fin 48) : t.groups[g].owner = s.groups[g].owner := by
  have groups : t.groups.map Group.config = s.groups.map Group.config := (congrArg (fun u : State => u.groups) same :)
  exact (congrArg Group.owner (get_of_map_eq Group.config groups g) :)

theorem configuration_offerIf (s : State) (g : Fin 48) (c : Time → Group → Bool) (l : Group → Nat) (k : LevelKind) :
    (s.offerIf g c l k).configuration = s.configuration := by
  unfold State.offerIf
  split
  · exact configuration_offerLevel s g _ k
  · rfl

/-- A fold whose rounds keep the configuration offers nothing for a LINE-owned group, if no round does. -/
theorem Unoffered.fold_line {α : Type} {f : State → α → State} (keeps : ∀ t a, (f t a).configuration = t.configuration)
    (rounds : ∀ t a, t.groups[g].owner = .line → Unoffered g t (f t a)) (l : List α) (line : s.groups[g].owner = .line) :
    Unoffered g s (l.foldl f s) :=
  (foldl_related (I := fun t : State => t.groups[g].owner = .line) (Unoffered.refl g) Unoffered.trans l (fun t line a _ => rounds t a line)
    (fun t line a _ => (owner_of_configuration (keeps t a) g).trans line) line).1

theorem Unoffered.offerAll_line {o : Offers} (parts : o.partOnly) (places : List (Place × Fin 48)) (line : s.groups[g].owner = .line) :
    Unoffered g s (s.offerAll o places) := by
  refine .fold_line (fun t q => configuration_offerIf t _ _ _ _) (fun t q line => ?_) places line
  by_cases same : q.2 = g
  · unfold State.offerIf
    rw [if_neg]
    · exact .refl g t
    · intro asked
      have part := parts _ _ _ asked
      rw [same] at part
      rw [line] at part
      cases part
  · exact .offerIf t _ _ _ same

theorem partOnly_rampOffers (z : Zone) (r : Portal) (kind : LevelKind) : (rampOffers z r kind).partOnly :=
  fun _ _ _ asked => (of_decide_eq_true asked).1

theorem partOnly_handoverOffers (old new : Zone) (b : Bool) : (handoverOffers old new b).partOnly :=
  fun _ _ _ asked => (of_decide_eq_true asked).1

theorem partOnly_forceOffers (z : Zone) (kind : OverrideKind) : (forceOffers z kind).partOnly :=
  fun _ _ _ asked => (of_decide_eq_true asked).1

theorem Unoffered.rampZone_line (p : Fin 4) (i : Fin 32) (line : s.groups[g].owner = .line) : Unoffered g s (s.rampZone p i) := by
  rw [rampZone_eq]
  split
  · exact .offerAll_line (partOnly_rampOffers _ _ _) _ line
  · split
    · exact .refl g s
    · refine (Unoffered.stepped g s p i).trans (.offerAll_line (partOnly_rampOffers _ _ _) _ ?_)
      simp only [stepped_groups]
      exact line

theorem Unoffered.stageZone_line (i : Fin 32) (b : Bool) (line : s.groups[g].owner = .line) : Unoffered g s (s.stageZone i b) := by
  obtain ⟨places, -, offers⟩ := stageZone_offers s i b
  rw [offers]
  refine (Unoffered.tested g s i).trans (.offerAll_line (partOnly_handoverOffers _ _ _) _ ?_)
  have unstaged := unstaged_of_exceptStaging (exceptStaging_tested s i) g
  exact (congrArg Group.owner unstaged :).trans line

theorem Unoffered.forceZone_line (i : Fin 32) (kind : OverrideKind) (level : Nat) (scope : OverrideScope) (line : s.groups[g].owner = .line) :
    Unoffered g s (s.forceZone i kind level scope) := by
  rw [forceZone_eq]
  exact (Unoffered.mapZone s i g _).trans (.offerAll_line (partOnly_forceOffers _ _) _ line)

theorem Unoffered.passSteps (g : Fin 48) (s : State) (p : Fin 4) (atHold : Bool) :
    Unoffered g s (((s.passStep1 p atHold).passStep2 p).passStep3 p) := by
  have luminance : ((s.passStep1 p atHold).passStep2 p).exceptLuminance = s.exceptLuminance := by
    rw [exceptLuminance_passStep2, exceptLuminance_passStep1]
  have queue : ((s.passStep1 p atHold).passStep2 p).fQueue = s.fQueue := (congrArg (fun u : State => u.fQueue) luminance :)
  have groups : ((s.passStep1 p atHold).passStep2 p).groups = s.groups := (congrArg (fun u : State => u.groups) luminance :)
  refine .of_same ((Regular.passStep1 s p atHold).trans ((Regular.passStep2 _ p).trans (.passStep3 _ p))) queue ?_
  have group : (((s.passStep1 p atHold).passStep2 p).passStep3 p).groups[g] = s.groups[g] := congrArg (fun v : Vector Group 48 => v[g]) groups
  unfold State.noLevelOffered
  rw [group]
  exact ⟨rfl, rfl, rfl, rfl⟩

theorem configuration_passSteps (s : State) (p : Fin 4) (atHold : Bool) :
    (((s.passStep1 p atHold).passStep2 p).passStep3 p).configuration = s.configuration := by
  rw [configuration_passStep3, configuration_passStep2, configuration_passStep1]

theorem Unoffered.pass_line (p : Fin 4) (atHold immediate : Bool) (line : s.groups[g].owner = .line) :
    Unoffered g s (s.pass p atHold immediate) := by
  refine (Unoffered.passSteps g s p atHold).trans ?_
  exact .fold_line (fun t i => configuration_stageZone t i immediate) (fun t i line => .stageZone_line i immediate line) _
    ((owner_of_configuration (configuration_passSteps s p atHold) g).trans line)

end

/-! ### No command offers one -/

section
variable {s t u : State} {g : Fin 48}

/-- Every own LEVEL of the group in the F queue was there before. -/
def Silent (g : Fin 48) (s t : State) : Prop := ∀ l k, FEntry.level g l k ∈ t.fQueue → FEntry.level g l k ∈ s.fQueue

theorem Silent.refl (g : Fin 48) (s : State) : Silent g s s := fun _ _ => id

theorem Silent.trans (h : Silent g s t) (h' : Silent g t u) : Silent g s u := fun l k queued => h l k (h' l k queued)

theorem Silent.of_queue (same : t.fQueue = s.fQueue) : Silent g s t := fun _ _ queued => same ▸ queued

theorem Unoffered.silent (h : Unoffered g s t) : Silent g s t := fun l k => (h.entries l k).mp

theorem Silent.startPortal (p : Fin 4) (line : s.groups[g].owner = .line) : Silent g s (s.startPortal p) := by
  have begun : Silent g s (s.begun p) := .of_queue (by simp only [State.begun, State.mapPortal_fQueue])
  have still : (s.begun p).groups[g].owner = .line := by simpa only [State.begun, State.mapPortal_groups] using line
  rw [startPortal_eq]
  exact (begun.trans (Unoffered.pass_line p false true still).silent).trans (.of_queue (State.mapPortal_fQueue _ _ _))

theorem Silent.offerPoll (g : Fin 48) (s : State) (d : Fin 160) (o : PollOrigin) : Silent g s (s.offerPoll d o) := by
  unfold State.offerPoll
  split
  · intro l k queued
    simpa using queued
  · exact .refl g s

theorem Silent.rescanOffer (g : Fin 48) (s : State) : Silent g s s.rescanOffer := by
  unfold State.rescanOffer
  split
  · exact .of_queue rfl
  · split
    · exact .offerPoll g s _ .scan
    · dsimp only
      split <;> exact .of_queue rfl

theorem Silent.rescanStart (g : Fin 48) (s : State) : Silent g s s.rescanStart :=
  .rescanOffer g { s with rescanPosition := 0, rescan := .awaitWindow }

theorem Silent.scanWindowEnded (g : Fin 48) (s : State) (d : Fin 160) : Silent g s (s.scanWindowEnded d) := by
  unfold State.scanWindowEnded
  split
  · exact .refl g s
  · split
    · exact .rescanOffer g { s with rescanPosition := d.val + 1 }
    · exact .refl g s

theorem Silent.pollExpiry (g : Fin 48) (s : State) : Silent g s s.pollExpiry := by
  unfold State.pollExpiry
  split
  · exact .refl g s
  · next e _ =>
    dsimp only
    split
    · exact .of_queue rfl
    · exact .rescanOffer g { s.reach e with pollTimer := some ((s.reach e).now + (s.reach e).device.pollInterval * msTicks) }
    · split
      · exact .of_queue rfl
      · exact .offerPoll g { s.reach e with pollTimer := some ((s.reach e).now + (s.reach e).device.pollInterval * msTicks) } _ .round

/-- The state of an accepted ACTIVATE before its portals start (R152). -/
def State.polling (s : State) : State :=
  { ({ s with mode := .running } : State).driversUnknown with
    cursor := 0
    pollTimer := some (s.now + s.device.pollInterval * msTicks) }

/-- A portal is started if it is used. -/
def State.startUsed (s : State) (p : Fin 4) : State := if s.portals[p].used then s.startPortal p else s

theorem enterRunning_eq (s : State) : s.enterRunning = ((List.finRange 4).foldl State.startUsed s.polling).rescanStart := rfl

theorem configuration_polling (s : State) : s.polling.configuration = s.configuration := configuration_driversUnknown { s with mode := .running }

theorem configuration_startUsed (s : State) (p : Fin 4) : (s.startUsed p).configuration = s.configuration := by
  unfold State.startUsed
  split
  · exact configuration_startPortal s p
  · rfl

theorem Silent.startUsed (p : Fin 4) (line : s.groups[g].owner = .line) : Silent g s (s.startUsed p) := by
  unfold State.startUsed
  split
  · exact .startPortal p line
  · exact .refl g s

theorem Silent.enterRunning (line : s.groups[g].owner = .line) : Silent g s s.enterRunning := by
  have polling : Silent g s s.polling := .of_queue (by simp only [State.polling, State.driversUnknown])
  have started := (foldl_related (R := Silent g) (I := fun t : State => t.groups[g].owner = .line) (Silent.refl g) Silent.trans (List.finRange 4)
    (fun t line p _ => .startUsed p line) (fun t line p _ => (owner_of_configuration (configuration_startUsed t p) g).trans line)
    ((owner_of_configuration (configuration_polling s) g).trans line)).1
  rw [enterRunning_eq]
  exact polling.trans (started.trans (.rescanStart g _))

theorem Silent.effect (did : Effect s t) (line : s.groups[g].owner = .line) : Silent g s t := by
  cases did with
  | quiet same => exact .of_queue (congrArg (fun u : State => u.fQueue) same.lawful :)
  | @set target _ _ _ _ written _ =>
    cases target with
    | flags set f => cases written
    | _ =>
      obtain ⟨x, _, rfl⟩ := Option.map_eq_some_iff.mp written
      exact .of_queue rfl
  | activate => exact .enterRunning line
  | deactivate => exact fun l k queued => (List.mem_filter.mp queued).1
  | standby p => exact .of_queue rfl
  | resume p => exact .startPortal p line
  | forceZone z k l => exact (Unoffered.forceZone_line z k _ _ line).silent
  | forcePortal p k l =>
    unfold State.forcePortal
    exact (Unoffered.fold_line (s := s.mapPortal p _) (fun t i => configuration_forceZone t i k _ _) (fun t i line => .forceZone_line i k _ _ line) _
      line).silent
  | releaseZone z => exact .of_queue rfl
  | releasePortal p => exact .of_queue rfl
  | rescan => exact .rescanStart g s

/-- The group is LINE-owned and has no own LEVEL in the F queue that was not there at the beginning of the command. -/
def State.lineSilent (s : State) (g : Fin 48) (t : State) : Prop := t.groups[g].owner = .line ∧ Silent g s t

theorem lineSilent_of_same (configuration : u.configuration = t.configuration) (queue : u.fQueue = t.fQueue) (h : s.lineSilent g t) :
    s.lineSilent g u := ⟨(owner_of_configuration configuration g).trans h.1, h.2.trans (.of_queue queue)⟩

theorem lineSilent_of_lawful (same : u.lawful = t.lawful) : s.lineSilent g t → s.lineSilent g u :=
  lineSilent_of_same (configuration_of_lawful same) (congrArg (fun u : State => u.fQueue) same :)

theorem silent_of_exceptSensing (same : u.exceptSensing = t.exceptSensing) (h : Silent g s t) : Silent g s u :=
  h.trans (.of_queue (congrArg (fun u : State => u.fQueue) same :))

theorem driverChanged_fQueue (s : State) (d : Fin 160) (a b : DriverState) : (s.driverChanged d a b).fQueue = s.fQueue := by
  unfold State.driverChanged
  split
  · rfl
  · split
    · rfl
    · split
      · rw [State.portalEvent_fQueue]
      · split
        · rw [State.portalAlert_fQueue]
        · rfl

theorem resync_fQueue (s : State) (d : Fin 160) (l : Nat) : (s.resync d l).fQueue = s.fQueue := by
  unfold State.resync
  dsimp only
  split
  · rfl
  · split <;> rfl

theorem snoop_fQueue (s : State) (d : Fin 160) (c : Byte) (l : BitVec 16) : (s.snoop d c l).fQueue = s.fQueue := by
  unfold State.snoop
  dsimp only
  rw [driverChanged_fQueue, State.mapDriver_fQueue, resync_fQueue]

theorem chargeMiss_fQueue (s : State) (d : Fin 160) (o : PollOrigin) : (s.chargeMiss d o).fQueue = s.fQueue := by
  have absent (t : State) : (t.enterAbsent d).fQueue = t.fQueue := by
    unfold State.enterAbsent
    rw [driverChanged_fQueue, State.mapDriver_fQueue]
  have counted : ((s.mapDriver d fun r => { r with misses := r.misses + 1 }).count 6 (unscoped 1)).fQueue = s.fQueue := by
    rw [State.count_fQueue, State.mapDriver_fQueue]
  unfold State.chargeMiss
  dsimp only
  split
  · split
    · rw [absent, counted]
    · split
      · rw [absent, counted]
      · exact counted
  · rfl

theorem Silent.offerPassF (g : Fin 48) (s : State) (f : Frame) : Silent g s (s.offerPassF f) := by
  unfold State.offerPassF
  split
  · intro l k queued
    simpa using queued
  · exact .of_queue (by rw [State.deviceEvent_fQueue, State.count_fQueue])

theorem Silent.handRequest (f : Frame) (line : s.groups[g].owner = .line) : Silent g s (s.handRequest f) := by
  unfold State.handRequest
  split
  · exact .of_queue (congrArg (fun u : State => u.fQueue) (lawful_dropRequest s f) :)
  · next slot _ =>
    have placed : Silent g s (s.occupy slot f) := .of_queue (congrArg (fun u : State => u.fQueue) (lawful_occupy s slot f) :)
    have line : (s.occupy slot f).groups[g].owner = .line :=
      (owner_of_configuration (configuration_of_lawful (lawful_occupy s slot f)) g).trans line
    split
    · exact placed
    · have answered (t : State) (k : SlotIndex) (e : CEntry) : Silent g t (t.offerResponse k e) :=
        .of_queue (congrArg (fun u : State => u.fQueue) (lawful_offerResponse t k e) :)
      refine placed.trans (Silent.trans ?_ (answered _ _ _))
      generalize s.occupy slot f = t at line
      unfold State.runPayload
      split
      · exact .refl g t
      · split
        · exact .effect (runRequest_effect t _) line
        · exact .refl g t

theorem Silent.startF {e : FEntry} {rest : List FEntry} (picked : pickLowest FEntry.priority s.fQueue = some (e, rest)) :
    Silent g s (s.startF e rest) := by
  obtain ⟨a, b, queue, rest_eq, -⟩ := pickLowest_split FEntry.priority s.fQueue rest e picked
  have left : (s.startF e rest).fQueue = rest := by
    unfold State.startF State.clearPending
    rw [State.count_fQueue]
    split <;> rfl
  intro l k queued
  rw [left, rest_eq] at queued
  rw [queue]
  rcases List.mem_append.mp queued with before | behind
  · exact List.mem_append_left _ before
  · exact List.mem_append_right _ (List.mem_cons_of_mem _ behind)

theorem Silent.passExpiry (p : Fin 4) (line : s.groups[g].owner = .line) : Silent g s (s.passExpiry p) := by
  unfold State.passExpiry
  split
  · exact .refl g s
  · exact (Unoffered.pass_line (s := (s.reach _).mapPortal p _) p false false line).silent

theorem Silent.holdExpiry (p : Fin 4) (line : s.groups[g].owner = .line) : Silent g s (s.holdExpiry p) := by
  unfold State.holdExpiry
  split
  · exact .refl g s
  · exact (Unoffered.pass_line (s := (s.reach _).mapPortal p _) p true false line).silent

theorem Silent.rampExpiry (p : Fin 4) (line : s.groups[g].owner = .line) : Silent g s (s.rampExpiry p) := by
  unfold State.rampExpiry
  split
  · exact .refl g s
  · exact (Unoffered.fold_line (s := (s.reach _).mapPortal p _) (fun t i => configuration_rampZone t p i)
      (fun t i line => .rampZone_line p i line) _ line).silent

theorem Silent.ageExpiry (g : Fin 48) (s : State) (i : Fin 8) : Silent g s (s.ageExpiry i) := by
  unfold State.ageExpiry
  split
  · exact .refl g s
  · dsimp only
    split <;> exact .of_queue rfl

theorem Silent.gateExpiry (g : Fin 48) (s : State) (n : Fin 4) : Silent g s (s.gateExpiry n) := by
  unfold State.gateExpiry
  split
  · exact .refl g s
  · dsimp only
    split
    · exact .of_queue rfl
    · exact foldl_inv (P := Silent g s) _ (fun t i h => silent_of_exceptSensing (exceptSensing_sensorGood t i _) h) _ _ (.of_queue rfl)

theorem Silent.secondExpiry (g : Fin 48) (s : State) : Silent g s s.secondExpiry :=
  .of_queue (by
    unfold State.secondExpiry
    rw [State.count_fQueue, State.count_fQueue]
    rfl)

theorem Silent.pulseEdge (g : Fin 48) (s : State) (n : Fin 4) : Silent g s (s.pulseEdge n) := by
  unfold State.pulseEdge
  split
  · exact .of_queue rfl
  · exact .refl g s

/-- While the group is LINE-owned no operation puts an own LEVEL of it in the F queue. -/
theorem leads_lineSilent (s : State) (g : Fin 48) : Leads (s.lineSilent g) (Silent g s) where
  weaken h := h.2
  quiet same := lineSilent_of_lawful same.lawful
  setRx t port r _ := lineSilent_of_lawful (lawful_setRx t port r)
  offerCandidate t i c h := ⟨(owner_of_configuration (configuration_offerCandidate t i c) g).trans h.1,
    silent_of_exceptSensing (exceptSensing_offerCandidate t i c) h.2⟩
  captureTraffic t pl := lineSilent_of_same (configuration_captureTraffic t pl) (by
    unfold State.captureTraffic
    split <;> rfl)
  snoop t d c l := lineSilent_of_same (configuration_snoop t d c l) (snoop_fQueue t d c l)
  offerPassF t f h := ⟨(owner_of_configuration (configuration_offerPassF t f) g).trans h.1, h.2.trans (.offerPassF g t f)⟩
  offerPassC t f := lineSilent_of_lawful (lawful_offerPassC t f)
  handRequest _ f h := h.2.trans (.handRequest f h.1)
  chargeMiss t d o := lineSilent_of_same (configuration_chargeMiss t d o) (chargeMiss_fQueue t d o)
  scanWindowEnded t d h := h.trans (.scanWindowEnded g t d)
  pollExpiry t h := h.2.trans (.pollExpiry g t)
  ageExpiry t i h := h.2.trans (.ageExpiry g t i)
  pulseEdge t n h := h.2.trans (.pulseEdge g t n)
  gateExpiry t n h := h.2.trans (.gateExpiry g t n)
  passExpiry _ p h := h.2.trans (.passExpiry p h.1)
  holdExpiry _ p h := h.2.trans (.holdExpiry p h.1)
  rampExpiry _ p h := h.2.trans (.rampExpiry p h.1)
  startF _ _ _ picked h := h.2.trans (.startF picked)
  pickC t h := h.2.trans (.of_queue (congrArg (fun u : State => u.fQueue) (lawful_pickC t) :))
  restartNow _ _ := fun _ _ queued => absurd queued List.not_mem_nil
  secondExpiry t h := h.2.trans (.secondExpiry g t)

/-- No step puts an own LEVEL of a LINE-owned group in the F queue. -/
theorem step_silent (line : s.groups[g].owner = .line) (answers : step s = .next t) : Silent g s t := by
  refine (leads_lineSilent s g).step (fun addr rate l k queued => absurd queued List.not_mem_nil) (fun {t u} same h => ?_) (fun {t u} same h => ?_)
    answers ⟨line, .refl g s⟩
  · exact h.trans (.of_queue (congrArg (fun u : State => u.fQueue) same :))
  · have groups : u.groups = t.groups := (congrArg (fun u : State => u.groups) same :)
    refine ⟨?_, h.2.trans (.of_queue (congrArg (fun u : State => u.fQueue) same :))⟩
    rw [groups]
    exact h.1

end

end Sys2Proof.Machine

/-! SUPPORT. The offers of a ramp expiry: O37 (R116 to R119). -/

namespace Sys2Proof.Machine

set_option Elab.async false

section
variable {s t : State} {p : Fin 4} {z : Fin 32} {g : Fin 48} {place : Place}

/-- An accepted or refused offer as it stands in the group's whole record, when nothing but offers was written. -/
theorem record_of_levelOffered {l : Nat} {k : LevelKind} {now : Time} (record : t.groups[g] = (s.groups[g]).withOffer t.groups[g])
    (offered : s.levelOffered t g l k now) :
    (t.groups[g] = { s.groups[g] with sent := l, refreshFrom := now, due := false, pendingMark := true }
        ∧ ∃ x, FEntry.level g l x ∈ t.fQueue ∧ (x = .fire ↔ k = .fire ∨ ∃ l, FEntry.level g l .fire ∈ s.fQueue))
      ∨ (t.groups[g] = { s.groups[g] with due := true } ∧ s.groups[g].pendingMark = false ∧ t.fQueue.length = 32) := by
  rcases offered with ⟨sent, refreshFrom, due, marked, entry⟩ | ⟨sent, refreshFrom, due, unmarked, before, full⟩
  · refine .inl ⟨?_, entry⟩
    rw [record]
    unfold Group.withOffer
    rw [sent, refreshFrom, due, marked]
  · refine .inr ⟨?_, before, full⟩
    rw [record]
    unfold Group.withOffer
    rw [sent, refreshFrom, due, unmarked, ← before]

theorem record_of_noLevelOffered (record : t.groups[g] = (s.groups[g]).withOffer t.groups[g]) (none : s.noLevelOffered t g) :
    t.groups[g] = s.groups[g] := by
  obtain ⟨sent, refreshFrom, due, marked⟩ := none
  rw [record]
  unfold Group.withOffer
  rw [sent, refreshFrom, due, marked]

/-- When the level of a group is offered at a ramp expiry (R117). -/
def rampAsks (z : Zone) (r : Portal) (g : Group) (level : Nat) (now : Time) : Prop :=
  r.deadband ≤ max level g.sent - min level g.sent ∨ (z.dTarget = some level ∧ level ≠ g.sent) ∨ (level = 0 ∧ g.sent ≠ 0)
    ∨ r.refreshInterval * secTicks ≤ min (65535 * secTicks) (now - g.refreshFrom) ∨ g.due = true

theorem offerDue_iff {r : Portal} {x : Group} {level : Nat} {target : Option Nat} {age : Time} :
    x.offerDue level target r.deadband r.refreshInterval age = true ↔
      r.deadband ≤ max level x.sent - min level x.sent ∨ (target = some level ∧ level ≠ x.sent) ∨ (level = 0 ∧ x.sent ≠ 0)
        ∨ r.refreshInterval * secTicks ≤ age ∨ x.due = true := by
  have apart : level - x.sent + (x.sent - level) = max level x.sent - min level x.sent := by omega
  unfold Group.offerDue
  rw [apart]
  simp only [Bool.or_eq_true, Bool.and_eq_true, decide_eq_true_eq, beq_iff_eq, bne_iff_ne, or_assoc]

/-- The kind of a zone's own LEVELs (R117). -/
def Zone.rampKind (z : Zone) : LevelKind := if z.fired then .fire else .autoManual

theorem rampKind_fire_iff {z : Zone} : z.rampKind = .fire ↔ ∃ o, z.override = some o ∧ o.kind = .fire := by
  rw [← fired_iff]
  unfold Zone.rampKind
  cases z.fired <;> simp

theorem ramped_dTarget (x : Zone) (r : Portal) : (x.ramped r).dTarget = x.dTarget := by
  unfold Zone.ramped
  split <;> rfl

theorem ramped_isOn (x : Zone) (r : Portal) (q : Place) : (x.ramped r).isOn q = x.isOn q := by
  unfold Zone.ramped
  split <;> cases q <;> rfl

/-- The ramp expiry of one zone offers the level of each of its groups where R117 asks for it. -/
theorem rampZone_offered (sound : s.queuesSound) (live : (s.zones[z]).dTarget.isSome = true ∨ (s.zones[z]).fired = true)
    (once : (s.zones[z]).standing.count g ≤ 1) (placed : (place, g) ∈ (s.zones[z]).places) (part : s.groups[g].owner = .part) :
    let level := s.groups[g].levelAt ((s.zones[z]).isOn place) ((s.zones[z]).ramped s.portals[p]).dCmd
    s.offeredWhen (s.rampZone p z) (rampAsks s.zones[z] s.portals[p] s.groups[g] level s.now) g level (s.zones[z]).rampKind s.now := by
  have asked (x : Zone) (kind : LevelKind) (target : x.dTarget = (s.zones[z]).dTarget) :
      (rampOffers x s.portals[p] kind).test place s.now s.groups[g] = true
        ↔ rampAsks s.zones[z] s.portals[p] s.groups[g] (s.groups[g].levelAt (x.isOn place) x.dCmd) s.now := by
    unfold rampOffers rampAsks
    simp only [decide_eq_true_eq, offerDue_iff, part, true_and, target]
  intro level
  rw [rampZone_eq]
  by_cases fired : (s.zones[z]).fired = true
  · rw [if_pos fired]
    have offered := offeredWhen_offerAll (rampOffers s.zones[z] s.portals[p] .fire) sound (places_nodup _) placed
      fun q here same => place_unique once placed here same
    have kind : (s.zones[z]).rampKind = .fire := if_pos fired
    have stays : ((s.zones[z]).ramped s.portals[p]).dCmd = (s.zones[z]).dCmd := by rw [ramped_of_fired fired]
    unfold State.offeredWhen at offered
    rw [asked _ _ rfl] at offered
    unfold level
    rw [kind, stays]
    exact offered
  · rw [if_neg fired, if_neg (Option.isSome_iff_ne_none.mp (live.resolve_right fired))]
    have offered := offeredWhen_offerAll (rampOffers ((s.zones[z]).ramped s.portals[p]) s.portals[p] .autoManual)
      (s := s.stepped p z) ((Regular.stepped s p z).2 sound) (places_nodup _) placed fun q here same => place_unique once placed here same
    have kind : (s.zones[z]).rampKind = .autoManual := if_neg fired
    have groups : (s.stepped p z).groups[g] = s.groups[g] := congrArg (fun v : Vector Group 48 => v[g]) (stepped_groups s p z)
    have now : (s.stepped p z).now = s.now := now_of_exceptRamp (exceptRamp_stepped s p z)
    unfold State.offeredWhen at offered
    rw [groups, now, asked _ _ (ramped_dTarget _ _)] at offered
    unfold level
    rw [kind]
    have whole := offeredWhen_between (Unoffered.stepped g s p z) offered (.refl g _)
      ((Regular.offerAll _ _ _).2 ((Regular.stepped s p z).2 sound))
    simpa only [ramped_isOn, rampOffers] using whole

theorem group_of_exceptRamp (same : t.exceptRamp = s.exceptRamp) (g : Fin 48) : t.groups[g] = (s.groups[g]).withOffer t.groups[g] := by
  have tables : t.groups.map (fun g => g.withOffer Group.reset) = s.groups.map fun g => g.withOffer Group.reset :=
    (congrArg (fun u : State => u.groups) same :)
  exact (congrArg (fun h : Group => h.withOffer t.groups[g]) (get_of_map_eq (fun g : Group => g.withOffer Group.reset) tables g) :)

/-- The level of a group, its test read as a proposition (R116). -/
theorem levelAt_eq (x : Group) (on : Bool) (d : Nat) : x.levelAt on d = if on = true ∧ x.dmin ≤ d then d else 0 := by
  unfold Group.levelAt
  simp only [Bool.and_eq_true, decide_eq_true_eq]

/-- The ramp expiry of a portal offers the level of a group of one slot as its zone is stepped. -/
theorem rampExpiry_offered {e : Time} (sound : s.configSound) (queues : s.queuesSound) (runs : s.portals[p].rampTimer = some e)
    (used : s.zones[z].used = true) (here : s.zones[z].portal = p) (placed : (place, g) ∈ (s.zones[z]).places) (one : s.slotCount g = 1)
    (part : s.groups[g].owner = .part) (live : (s.zones[z]).dTarget.isSome = true ∨ (s.zones[z]).fired = true) :
    let level := s.groups[g].levelAt ((s.zones[z]).isOn place) ((s.zones[z]).ramped s.portals[p]).dCmd
    s.offeredWhen (s.rampExpiry p) (rampAsks s.zones[z] s.portals[p] s.groups[g] level (max s.now e)) g level (s.zones[z]).rampKind
        (max s.now e)
      ∧ (s.rampExpiry p).groups[g] = (s.groups[g]).withOffer (s.rampExpiry p).groups[g] := by
  have stands := standing_of_places placed
  have final := rampExpiry_eq runs
  obtain ⟨u, wiped, zone, regular, group, before, -, groupAfter, after⟩ := (zoneWork_rampZone p).group_of_fold (s := s.rampBegun p e)
    (nodup_portalZones s p) ((mem_portalZones_of_sound sound).mpr ⟨used, here⟩) (g := g) fun i member standsI =>
      stands_once one used stands (mem_portalZones.mp member).1 (by simpa only [rampBegun_zones] using standsI)
  simp only [rampBegun_zones] at zone
  rw [← final] at groupAfter after
  have begun : Unoffered g s (s.rampBegun p e) := .of_same ((Regular.reach s e).trans (.mapPortal _ _ _)) rfl ⟨rfl, rfl, rfl, rfl⟩
  have group : u.groups[g] = s.groups[g] := group.trans rfl
  have now : u.now = max s.now e := now_of_exceptRamp wiped
  have portals : u.portals = (s.rampBegun p e).portals := portals_of_exceptRamp wiped
  have offered := rampZone_offered (s := u) (p := p) (z := z) (g := g) (place := place) (regular.2 (begun.sound queues))
    (by rw [zone]; exact live) (by rw [zone]; exact standing_count_le one used) (by rw [zone]; exact placed) (by rw [group]; exact part)
  rw [zone, group, now, portals, ramped_rampBegun, rampBegun_portals, updAt_same] at offered
  refine ⟨offeredWhen_between (begun.trans before) offered after ((Regular.rampExpiry s p).2 queues), ?_⟩
  have record := group_of_exceptRamp (exceptRamp_rampZone u p z) g
  rw [groupAfter]
  rw [group] at record
  exact record

end

/-- Settles O37: an offer is made for PART-owned groups alone; one of a ramp expiry is made as its zone is stepped, and nothing else in the
expiry is offered for a group of one slot. -/
theorem rampOffersLevels : Obligations.RampOffersLevels := by
  unfold Obligations.RampOffersLevels
  refine ⟨fun g level kind s t line answers queued => step_silent line answers level kind queued, ?_⟩
  intro p e z place g s live sound queues runs used here placed one part aims
  have zone := rampExpiry_zone sound runs z
  rw [if_pos ⟨used, here⟩] at zone
  obtain ⟨offered, record⟩ := rampExpiry_offered sound queues runs used here placed one part (aims.imp_right fired_iff.mpr)
  rw [← zone] at offered
  simp only [levelAt_eq] at offered
  refine ⟨_, whenLive_of_live live (·.rampExpiry p), fun quiet => ?_, fun asked => ?_⟩
  · exact record_of_noLevelOffered record (offered.2 quiet)
  · have came := record_of_levelOffered record (offered.1 asked)
    rw [rampKind_fire_iff] at came
    exact came

end Sys2Proof.Machine

/-! SUPPORT. What a pass reports, and what it takes from the luminances: O30, O31 (R80 to R86, R162). -/

namespace Sys2Proof.Machine

set_option Elab.async false

/-! ### Events of the ALERTs that joined the C queue -/

/-- The C queue has grown by frames whose first byte, the event of an ALERT, is one of those given. -/
def Said (ok : Byte → Prop) (q q' : List CEntry) : Prop :=
  ∃ added, q' = q ++ added ∧ ∀ x ∈ added, ∃ e, ok e ∧ x.frame.payload.head? = some e

section
variable {ok : Byte → Prop} {q q' q'' : List CEntry}

theorem Said.refl (ok : Byte → Prop) (q : List CEntry) : Said ok q q := ⟨[], by simp, fun _ none => absurd none List.not_mem_nil⟩

theorem Said.of_eq (same : q' = q) : Said ok q q' := same ▸ .refl ok q

theorem Said.trans (h : Said ok q q') (h' : Said ok q' q'') : Said ok q q'' := by
  obtain ⟨a, rfl, first⟩ := h
  obtain ⟨b, rfl, second⟩ := h'
  exact ⟨a ++ b, List.append_assoc _ _ _, fun x member => (List.mem_append.mp member).elim (first x) (second x)⟩

theorem Said.mono {ok' : Byte → Prop} (h : Said ok q q') (wider : ∀ e, ok e → ok' e) : Said ok' q q' := by
  obtain ⟨a, rfl, first⟩ := h
  exact ⟨a, rfl, fun x member => (first x member).imp fun e both => ⟨wider e both.1, both.2⟩⟩

/-- No ALERT of another event joined. -/
theorem Said.not_event (h : Said ok q q') {event object : Byte} (other : ¬ ok event) {x : CEntry} (joined : x ∈ q'.drop q.length) :
    x.frame.payload.take 2 ≠ [event, object] := by
  obtain ⟨a, rfl, first⟩ := h
  rw [List.drop_left] at joined
  obtain ⟨e, fine, head⟩ := first x joined
  intro same
  cases payload : x.frame.payload with
  | nil =>
    rw [payload] at head
    cases head
  | cons b rest =>
    rw [payload] at head same
    rw [List.take_succ_cons] at same
    obtain ⟨is, -⟩ := List.cons.inj same
    exact other (is ▸ Option.some.inj head ▸ fine)

theorem Said.foldl {σ α : Type} (queue : σ → List CEntry) (f : σ → α → σ) (l : List α) (rounds : ∀ t, ∀ a ∈ l, Said ok (queue t) (queue (f t a)))
    (s : σ) : Said ok (queue s) (queue (l.foldl f s)) :=
  (foldl_related (R := fun t u => Said ok (queue t) (queue u)) (I := fun _ => True) (fun t => .refl ok (queue t)) Said.trans l
    (fun t _ a member => rounds t a member) (fun _ _ _ _ => trivial) trivial).1

theorem Report.offerAlert_said (cfg : ReportCfg) (en : Bool) (e o : Byte) (v : Nat) (r : Report) :
    Said (· = e) r.cQueue (r.offerAlert cfg en e o v).cQueue := by
  unfold Report.offerAlert
  split
  · split
    · exact ⟨[_], rfl, fun x member => ⟨e, rfl, by rw [List.mem_singleton.mp member]; rfl⟩⟩
    · rw [Report.countDropped_cQueue]
      exact .refl _ _
  · exact .refl _ _

theorem Report.count_said (cfg : ReportCfg) (c : Fin 16) (a : CounterScope → Nat) (r : Report) :
    Said (· = 5) r.cQueue (r.count cfg c a).cQueue := by
  unfold Report.count
  refine Said.foldl Report.cQueue _ _ (fun t i _ => ?_) r
  dsimp only
  split
  · split
    · exact (Report.offerAlert_said cfg _ _ _ _ (Report.latch { t with counters := _ } .cntOvf) :)
    · exact .refl _ _
  · exact .refl _ _

variable (s : State)

theorem portalAlert_said (p : Fin 4) (e o : Byte) (v : Nat) : Said (· = e) s.cQueue (s.portalAlert p e o v).cQueue :=
  Report.offerAlert_said _ _ e o v s.report

theorem portalEvent_said (p : Fin 4) (f : PortalFlag) (o : Byte) (v : Nat) : Said (· = f.event) s.cQueue (s.portalEvent p f o v).cQueue :=
  portalAlert_said (s.latchPortal p f) p f.event o v

theorem portalReport_said (p : Fin 4) (x : PortalReport) : Said (· = x.event) s.cQueue (s.portalReport p x).cQueue := by
  unfold State.portalReport
  split
  · exact portalAlert_said (s.latchPortal p _) p _ _ _
  · exact portalAlert_said s p _ _ _

theorem offerLevel_said (g : Fin 48) (l : Nat) (k : LevelKind) : Said (· = 5) s.cQueue (s.offerLevel g l k).cQueue := by
  unfold State.offerLevel
  split
  · exact .refl _ _
  · split
    · exact .refl _ _
    · exact Report.count_said _ _ _ (State.report { s with groups := updAt s.groups g fun r => { r with due := true } })

theorem offerAll_said (o : Offers) (places : List (Place × Fin 48)) : Said (· = 5) s.cQueue (s.offerAll o places).cQueue := by
  refine Said.foldl State.cQueue _ places (fun t q _ => ?_) s
  unfold State.offerIf
  split
  · exact offerLevel_said t _ _ _
  · exact .refl _ _

/-- The events of the ALERTs that step 4 may offer: a deficit's onset, its end, and a counter that wrapped. -/
def stagingEvents : List Byte := [5, 20, 21]

theorem deficitReport_said (i : Fin 32) (p : Fin 4) (held : Bool) (lz sAll : Nat) :
    Said (· ∈ stagingEvents) s.cQueue (s.deficitReport i p held lz sAll).cQueue := by
  unfold State.deficitReport
  split
  · exact (portalEvent_said s p .deficit _ _).mono fun e same => by rw [same]; decide
  · split
    · exact (portalAlert_said s p _ _ _).mono fun e same => by rw [same]; decide
    · exact .refl _ _

theorem tested_said (i : Fin 32) : Said (· ∈ stagingEvents) s.cQueue (s.tested i).cQueue := by
  have queue : (s.figured i).cQueue = s.cQueue := (congrArg (fun u : State => u.cQueue) (exceptGroups_figured s i) :)
  have reported := deficitReport_said ({ s.figured i with zones := updAt s.zones i fun _ => s.staged i } : State) i s.zones[i].portal
    s.zones[i].deficit (s.aim i) (s.reachable_output i)
  exact (Said.of_eq queue).trans reported

theorem stageZone_said (i : Fin 32) (b : Bool) : Said (· ∈ stagingEvents) s.cQueue (s.stageZone i b).cQueue := by
  obtain ⟨places, -, offers⟩ := stageZone_offers s i b
  rw [offers]
  exact (tested_said s i).trans ((offerAll_said _ _ _).mono fun e same => by rw [same]; decide)

end

/-! ### Portal flags -/

/-- The flags of one portal with the given bits latched, but for DEFICIT, which may be latched besides; the other portals' as before. -/
structure Latched (p : Fin 4) (bits : List Nat) (s t : State) : Prop where
  other : ∀ o : Fin 4, o ≠ p → t.portalFlags[o] = s.portalFlags[o]
  kept : ∀ k, k ∈ bits ∨ s.portalFlags[p].getLsbD k = true → t.portalFlags[p].getLsbD k = true
  only : ∀ k, k ≠ 4 → t.portalFlags[p].getLsbD k = true → k ∈ bits ∨ s.portalFlags[p].getLsbD k = true

section
variable {p : Fin 4} {bits bits' : List Nat} {s t u : State}

theorem Latched.of_same (same : t.portalFlags = s.portalFlags) : Latched p [] s t := by
  refine ⟨fun o _ => by rw [same], fun k held => ?_, fun k _ held => ?_⟩
  · rw [same]
    exact held.resolve_left List.not_mem_nil
  · rw [same] at held
    exact .inr held

theorem Latched.trans (h : Latched p bits s t) (h' : Latched p bits' t u) : Latched p (bits ++ bits') s u where
  other o differs := (h'.other o differs).trans (h.other o differs)
  kept k held := h'.kept k (by
    rcases held with bit | old
    · rcases List.mem_append.mp bit with first | second
      · exact .inr (h.kept k (.inl first))
      · exact .inl second
    · exact .inr (h.kept k (.inr old)))
  only k differs held := by
    rcases h'.only k differs held with second | old
    · exact .inl (List.mem_append_right _ second)
    · exact (h.only k differs old).imp_left (List.mem_append_left _)

theorem getLsbD_bit (f : PortalFlag) (k : Nat) : (BitVec.ofNat 6 (2 ^ f.bit)).getLsbD k = decide (k = f.bit) := by
  have bits : ∀ f : PortalFlag, ∀ k < 6, (BitVec.ofNat 6 (2 ^ f.bit)).getLsbD k = decide (k = f.bit) := by
    intro f
    cases f <;> decide
  by_cases inside : k < 6
  · exact bits f k inside
  · rw [BitVec.getLsbD_of_ge _ _ (by omega)]
    have : f.bit < 6 := by cases f <;> decide
    exact (decide_eq_false (by omega)).symm

theorem Latched.latchPortal (s : State) (p : Fin 4) (f : PortalFlag) : Latched p [f.bit] s (s.latchPortal p f) where
  other o differs := by
    rw [State.latchPortal_portalFlags]
    exact updAt_other _ _ _ _ differs.symm
  kept k held := by
    rw [State.latchPortal_portalFlags, updAt_same, BitVec.getLsbD_or, getLsbD_bit, Bool.or_eq_true, decide_eq_true_eq]
    exact held.symm.imp_right List.mem_singleton.mp
  only k _ held := by
    rw [State.latchPortal_portalFlags, updAt_same, BitVec.getLsbD_or, getLsbD_bit, Bool.or_eq_true, decide_eq_true_eq] at held
    exact held.symm.imp_left List.mem_singleton.mpr

/-- The bits of the flags that reports latch. -/
def reportBits (l : List PortalReport) : List Nat := l.filterMap fun x => x.flag.map PortalFlag.bit

/-- The events and values of reports. -/
def reportAlerts (l : List PortalReport) : List (Byte × Nat) := l.map fun x => (x.event, x.value)

theorem Latched.portalReport (s : State) (p : Fin 4) (x : PortalReport) : Latched p (reportBits [x]) s (s.portalReport p x) := by
  unfold State.portalReport reportBits
  cases latches : x.flag with
  | none =>
    simp only [List.filterMap_cons, latches, Option.map_none, List.filterMap_nil]
    exact .of_same (State.portalAlert_portalFlags _ _ _ _ _)
  | some f =>
    simp only [List.filterMap_cons, latches, Option.map_some, List.filterMap_nil]
    have alerted : Latched p [] (s.latchPortal p f) ((s.latchPortal p f).portalAlert p x.event (BitVec.ofNat 8 p.val) x.value) :=
      .of_same (State.portalAlert_portalFlags _ _ _ _ _)
    have whole := (Latched.latchPortal s p f).trans alerted
    rwa [List.append_nil] at whole

theorem Latched.portalReports (p : Fin 4) (l : List PortalReport) :
    ∀ s : State, Latched p (reportBits l) s (l.foldl (fun t x => t.portalReport p x) s) := by
  induction l with
  | nil => exact fun s => .of_same rfl
  | cons x l ih =>
    intro s
    have split : reportBits (x :: l) = reportBits [x] ++ reportBits l := List.filterMap_append (l := [x]) (l' := l) (f := _)
    rw [split, List.foldl_cons]
    exact (Latched.portalReport s p x).trans (ih _)

/-- DEFICIT latched is within what `Latched` allows. -/
theorem Latched.deficit (s : State) (p : Fin 4) (o : Byte) (v : Nat) : Latched p [] s (s.portalEvent p .deficit o v) := by
  have latched := Latched.latchPortal s p .deficit
  have same : (s.portalEvent p .deficit o v).portalFlags = (s.latchPortal p .deficit).portalFlags := State.portalAlert_portalFlags _ _ _ _ _
  refine ⟨fun o differs => by rw [same]; exact latched.other o differs, fun k held => ?_, fun k differs held => ?_⟩
  · rw [same]
    exact latched.kept k (held.imp_left fun none => absurd none List.not_mem_nil)
  · rw [same] at held
    exact (latched.only k differs held).imp_left fun bit => absurd (List.mem_singleton.mp bit) differs

theorem Latched.deficitReport (s : State) (i : Fin 32) (p : Fin 4) (held : Bool) (lz sAll : Nat) :
    Latched p [] s (s.deficitReport i p held lz sAll) := by
  unfold State.deficitReport
  split
  · exact .deficit s p _ _
  · split
    · exact .of_same (State.portalAlert_portalFlags _ _ _ _ _)
    · exact .of_same rfl

theorem portalFlags_of_exceptOffers (same : t.exceptOffers = s.exceptOffers) : t.portalFlags = s.portalFlags :=
  (congrArg (fun u : State => u.portalFlags) same :)

theorem Latched.stageZone (s : State) (i : Fin 32) (b : Bool) : Latched s.zones[i].portal [] s (s.stageZone i b) := by
  obtain ⟨places, -, offers⟩ := stageZone_offers s i b
  have figured : (s.figured i).portalFlags = s.portalFlags := (congrArg (fun u : State => u.portalFlags) (exceptGroups_figured s i) :)
  have tested : Latched s.zones[i].portal [] s (s.tested i) :=
    (Latched.of_same (t := ({ s.figured i with zones := updAt s.zones i fun _ => s.staged i } : State)) figured).trans (.deficitReport _ i _ _ _ _)
  rw [offers]
  exact tested.trans (.of_same (portalFlags_of_exceptOffers (exceptOffers_offerAll _ _ _)))

end

end Sys2Proof.Machine

/-! SUPPORT. A pass read off: O30, O31 (R80 to R86, R162). -/

namespace Sys2Proof.Machine

set_option Elab.async false

/-! ### Steps 1 to 3 -/

section
variable (s : State) (p : Fin 4) (atHold : Bool)

/-- What step 1 of a pass reports now. -/
def State.passReports : List PortalReport :=
  (s.portals[p]).step1Reports (s.validMedian s.portals[p].mainSensor) (s.portals[p].reserveSensor.bind s.validMedian) atHold

/-- The state after steps 1 to 3 of a pass. -/
def State.aimedZones : State := ((s.passStep1 p atHold).passStep2 p).passStep3 p

theorem pass_eq (immediate : Bool) : s.pass p atHold immediate
    = ((s.aimedZones p atHold).portalZones p).foldl (fun u z => u.stageZone z immediate) (s.aimedZones p atHold) := rfl

theorem exceptLuminance_passSteps : ((s.passStep1 p atHold).passStep2 p).exceptLuminance = s.exceptLuminance := by
  rw [exceptLuminance_passStep2, exceptLuminance_passStep1]

theorem passSteps_zones : ((s.passStep1 p atHold).passStep2 p).zones = s.zones :=
  (congrArg (fun u : State => u.zones) (exceptLuminance_passSteps s p atHold) :)

theorem aimedZones_groups : (s.aimedZones p atHold).groups = s.groups :=
  (congrArg (fun u : State => u.groups) (exceptLuminance_passSteps s p atHold) :)

theorem passSteps_portals : ((s.passStep1 p atHold).passStep2 p).portals = updAt s.portals p fun r => s.passed p r atHold := by
  have kTable : (s.passStep1 p atHold).kTable = s.kTable :=
    (congrArg (fun u : State => u.kTable) (exceptRegulation_passStep1 s p atHold) :)
  rw [passStep2_portals, passStep1_portals, updAt_updAt, kTable]
  rfl

theorem aimedZones_zone (z : Fin 32) : (s.aimedZones p atHold).zones[z] =
    if s.zones[z].used = true ∧ s.zones[z].portal = p then
      { s.zones[z] with lz := some (targetOf (((s.passed p s.portals[p] atHold).lth).getD 0) s.zones[z].ratio
          (s.passed p s.portals[p] atHold).ceiling (s.passed p s.portals[p] atHold).interior) }
    else s.zones[z] := by
  have record : ((s.passStep1 p atHold).passStep2 p).portals[p] = s.passed p s.portals[p] atHold := by
    rw [passSteps_portals]
    exact updAt_same _ _ _
  unfold State.aimedZones State.passStep3
  dsimp only
  rw [updAll_get, record, passSteps_zones]
  simp only [Bool.and_eq_true, beq_iff_eq]

theorem aimedZones_kept (z : Fin 32) : ((s.aimedZones p atHold).zones[z]).used = (s.zones[z]).used
    ∧ ((s.aimedZones p atHold).zones[z]).portal = (s.zones[z]).portal ∧ ((s.aimedZones p atHold).zones[z]).standing = (s.zones[z]).standing := by
  rw [aimedZones_zone]
  split <;> exact ⟨rfl, rfl, rfl⟩

/-- Steps 1 to 3 report what step 1 reports. -/
theorem aimedZones_reports : (s.aimedZones p atHold).cQueue
      = ((s.passReports p atHold).foldl (fun t x => t.portalReport p x)
          (s.mapPortal p fun _ => s.portals[p].afterStep1 (s.validMedian s.portals[p].mainSensor)
            (s.portals[p].reserveSensor.bind s.validMedian) atHold s.now)).cQueue
    ∧ (s.aimedZones p atHold).portalFlags
      = ((s.passReports p atHold).foldl (fun t x => t.portalReport p x)
          (s.mapPortal p fun _ => s.portals[p].afterStep1 (s.validMedian s.portals[p].mainSensor)
            (s.portals[p].reserveSensor.bind s.validMedian) atHold s.now)).portalFlags := by
  unfold State.passReports
  rw [← passStep1_eq]
  exact ⟨rfl, rfl⟩

theorem portalReports_said (l : List PortalReport) :
    Said (· ∈ (reportAlerts l).map (·.1)) s.cQueue (l.foldl (fun t x => t.portalReport p x) s).cQueue :=
  Said.foldl State.cQueue _ l (fun t x member => (portalReport_said t p x).mono fun e same => by
    rw [same]
    exact List.mem_map.mpr ⟨(x.event, x.value), List.mem_map.mpr ⟨x, member, rfl⟩, rfl⟩) s

theorem Grown.portalReport (x : PortalReport) : Grown s (s.portalReport p x) := by
  have latched (f : PortalFlag) : Grown s (s.latchPortal p f) := ⟨List.prefix_rfl, rfl, rfl⟩
  unfold State.portalReport
  split
  · exact (latched _).trans (.portalAlert _ _ _ _ _)
  · exact .portalAlert _ _ _ _ _

theorem alerted_portalReport (x : PortalReport) :
    s.alerted (s.portalReport p x) s.device.portalAlert[p] x.event (BitVec.ofNat 8 p.val) x.value := by
  unfold State.portalReport
  split
  · next f _ =>
    have latched : Grown s (s.latchPortal p f) := ⟨List.prefix_rfl, rfl, rfl⟩
    exact alerted_of_later latched (alerted_portalAlert (s.latchPortal p f) p x.event _ x.value)
  · exact alerted_portalAlert s p x.event _ x.value

theorem alerted_portalReports (l : List PortalReport) : ∀ s : State, ∀ x ∈ l,
    s.alerted (l.foldl (fun t x => t.portalReport p x) s) s.device.portalAlert[p] x.event (BitVec.ofNat 8 p.val) x.value := by
  induction l with
  | nil => exact fun s x none => absurd none List.not_mem_nil
  | cons y l ih =>
    intro s x member
    rw [List.foldl_cons]
    have first : Grown s (s.portalReport p y) := .portalReport s p y
    rcases List.mem_cons.mp member with rfl | later
    · exact alerted_of_grown (alerted_portalReport s p x) (Grown.foldl _ (fun t x => .portalReport t p x) l _)
    · have said := ih (s.portalReport p y) x later
      rw [first.device] at said
      exact alerted_of_later first said

end

/-! ### The whole pass -/

section
variable {s t : State} {p : Fin 4} {atHold immediate : Bool} {z : Fin 32} {g : Fin 48}

theorem alerted_congr {s' t' : State} {en : Bool} {e o : Byte} {v : Nat} (queue : s'.cQueue = s.cQueue) (device : s'.device = s.device)
    (address : s'.addrPins = s.addrPins) (queue' : t'.cQueue = t.cQueue) (h : s.alerted t en e o v) : s'.alerted t' en e o v := by
  have entry : s'.alertEntry e o v = s.alertEntry e o v := by
    unfold State.alertEntry State.ownAddress
    rw [device, address]
  unfold State.alerted
  rw [entry, queue, queue']
  exact h

theorem device_of_exceptStaging (same : t.exceptStaging = s.exceptStaging) : t.device = s.device ∧ t.addrPins = s.addrPins :=
  ⟨(congrArg (fun u : State => u.device) same :), (congrArg (fun u : State => u.addrPins) same :)⟩

theorem Grown.stageZone (s : State) (i : Fin 32) (b : Bool) : Grown s (s.stageZone i b) :=
  ⟨(Regular.stageZone s i b).1.leads, (device_of_exceptStaging (exceptStaging_stageZone s i b)).1,
    (device_of_exceptStaging (exceptStaging_stageZone s i b)).2⟩

theorem stageZone_zone_kept (s : State) (i : Fin 32) (b : Bool) (j : Fin 32) :
    ((s.stageZone i b).zones[j]).lz = (s.zones[j]).lz ∧ ((s.stageZone i b).zones[j]).portal = (s.zones[j]).portal := by
  rw [stageZone_zones, updAt_get]
  split
  · next same =>
    subst same
    rw [staged_kept]
    exact ⟨rfl, rfl⟩
  · exact ⟨rfl, rfl⟩

theorem stageZones_lz (l : List (Fin 32)) (s : State) (b : Bool) (j : Fin 32) :
    ((l.foldl (fun u z => u.stageZone z b) s).zones[j]).lz = (s.zones[j]).lz :=
  foldl_keeps (fun t : State => (t.zones[j]).lz) _ (fun t i => (stageZone_zone_kept t i b j).1) l s

theorem stageZones_latched {l : List (Fin 32)} (b : Bool) (within : ∀ i ∈ l, (s.zones[i]).portal = p) :
    Latched p [] s (l.foldl (fun u z => u.stageZone z b) s) := by
  refine (foldl_related (R := Latched p []) (I := fun t : State => ∀ i ∈ l, (t.zones[i]).portal = p) (fun t => .of_same rfl)
    (fun first second => first.trans second) l (fun t here i member => ?_) (fun t here i member j inside => ?_) within).1
  · exact here i member ▸ Latched.stageZone t i b
  · exact (stageZone_zone_kept t i b j).2.trans (here j inside)

/-- A pass leaves the zones of other portals. -/
theorem pass_zone_other (away : ¬ (s.zones[z].used = true ∧ s.zones[z].portal = p)) :
    (s.pass p atHold immediate).zones[z] = s.zones[z] := by
  obtain ⟨used, portal, -⟩ := aimedZones_kept s p atHold z
  have absent : ∀ i ∈ (s.aimedZones p atHold).portalZones p, i ≠ z := by
    rintro i member rfl
    obtain ⟨usedI, here, -⟩ := mem_portalZones.mp member
    exact away ⟨used.symm.trans usedI, portal.symm.trans here⟩
  rw [pass_eq, (zoneWork_stageZone immediate).zone_fold absent, aimedZones_zone, if_neg away]

/-- The target a pass gives a zone of its portal (R84). -/
theorem pass_zone_lz (here : s.zones[z].used = true ∧ s.zones[z].portal = p) :
    ((s.pass p atHold immediate).zones[z]).lz = some (targetOf (((s.passed p s.portals[p] atHold).lth).getD 0) s.zones[z].ratio
      (s.passed p s.portals[p] atHold).ceiling (s.passed p s.portals[p] atHold).interior) := by
  rw [pass_eq, stageZones_lz, aimedZones_zone, if_pos here]

/-- A pass leaves the groups that stand in no zone of its portal. -/
theorem pass_group_other (absent : ∀ z : Fin 32, s.zones[z].used = true → s.zones[z].portal = p → g ∉ (s.zones[z]).standing) :
    (s.pass p atHold immediate).groups[g] = s.groups[g] := by
  rw [pass_eq]
  refine ((zoneWork_stageZone immediate).group_fold fun i member => ?_).1.trans ?_
  · obtain ⟨used, portal, standing⟩ := aimedZones_kept s p atHold i
    obtain ⟨usedI, here, -⟩ := mem_portalZones.mp member
    rw [standing]
    exact absent i (used.symm.trans usedI) (portal.symm.trans here)
  · exact congrArg (fun v : Vector Group 48 => v[g]) (aimedZones_groups s p atHold)

theorem pass_latched : Latched p (reportBits (s.passReports p atHold)) s (s.pass p atHold immediate) := by
  obtain ⟨-, flags⟩ := aimedZones_reports s p atHold
  have mapped : Latched p [] s (s.mapPortal p fun _ => s.portals[p].afterStep1 (s.validMedian s.portals[p].mainSensor)
    (s.portals[p].reserveSensor.bind s.validMedian) atHold s.now) := .of_same (State.mapPortal_portalFlags _ _ _)
  have reported := (mapped.trans (.portalReports p (s.passReports p atHold) _)).trans (.of_same flags)
  rw [List.nil_append, List.append_nil] at reported
  have staged := stageZones_latched (s := s.aimedZones p atHold) (p := p) immediate (l := (s.aimedZones p atHold).portalZones p)
    fun i member => (mem_portalZones.mp member).2.1
  have whole := reported.trans staged
  rw [List.append_nil, ← pass_eq] at whole
  exact whole

theorem pass_portalAlerts : s.portalAlerts (s.pass p atHold immediate) p (reportAlerts (s.passReports p atHold)) := by
  obtain ⟨queue, -⟩ := aimedZones_reports s p atHold
  have begun : (s.mapPortal p fun _ => s.portals[p].afterStep1 (s.validMedian s.portals[p].mainSensor)
    (s.portals[p].reserveSensor.bind s.validMedian) atHold s.now).cQueue = s.cQueue := State.mapPortal_cQueue _ _ _
  have device : (s.aimedZones p atHold).device = s.device ∧ (s.aimedZones p atHold).addrPins = s.addrPins :=
    ⟨(congrArg (fun u : State => u.device) (exceptLuminance_passSteps s p atHold) :),
      (congrArg (fun u : State => u.addrPins) (exceptLuminance_passSteps s p atHold) :)⟩
  have staged : Grown (s.aimedZones p atHold) (s.pass p atHold immediate) := by
    rw [pass_eq]
    exact Grown.foldl _ (fun t i => .stageZone t i immediate) _ _
  have steps : Said (· ∈ (reportAlerts (s.passReports p atHold)).map (·.1)) s.cQueue (s.aimedZones p atHold).cQueue := by
    rw [queue, ← begun]
    exact portalReports_said _ p _
  have stages : Said (· ∈ stagingEvents) (s.aimedZones p atHold).cQueue (s.pass p atHold immediate).cQueue := by
    rw [pass_eq]
    exact Said.foldl State.cQueue _ _ (fun t i _ => stageZone_said t i immediate) _
  refine ⟨(Regular.pass s p atHold immediate).1.leads, fun a member => ?_, fun event watched absent x joined => ?_⟩
  · obtain ⟨x, inside, rfl⟩ := List.mem_map.mp member
    have said := alerted_portalReports p (s.passReports p atHold) (s.mapPortal p fun _ => s.portals[p].afterStep1
      (s.validMedian s.portals[p].mainSensor) (s.portals[p].reserveSensor.bind s.validMedian) atHold s.now) x inside
    have moved : s.alerted (s.aimedZones p atHold) s.device.portalAlert[p] x.event (BitVec.ofNat 8 p.val) x.value :=
      alerted_congr begun.symm (State.mapPortal_device _ _ _).symm (State.mapPortal_addrPins _ _ _).symm queue said
    exact alerted_of_grown moved staged
  · have both : Said (fun e => e ∈ (reportAlerts (s.passReports p atHold)).map (·.1) ∨ e ∈ stagingEvents) s.cQueue
        (s.pass p atHold immediate).cQueue := (steps.mono fun _ h => .inl h).trans (stages.mono fun _ h => .inr h)
    refine both.not_event ?_ joined
    rintro (reported | staging)
    · obtain ⟨a, inside, same⟩ := List.mem_map.mp reported
      exact absent a inside same
    · have apart : ∀ e ∈ [(16 : Byte), 17, 18, 22], e ∉ stagingEvents := by decide
      exact apart event watched staging

end

end Sys2Proof.Machine

/-! SUPPORT. The pass of a pass timer and of a hold timer: O30, O31 (R80 to R86, R162). -/

namespace Sys2Proof.Machine

set_option Elab.async false

/-- What a timer's pass of a portal comes to: the record `q` with its luminances, the zones' targets, the flags latched, the ALERTs. -/
structure State.PassedTo (s : State) (p : Fin 4) (e : Time) (row : Fin 128) (q : Portal) (la : Nat) (latched : List Nat)
    (alerts : List (Byte × Nat)) (t : State) : Prop where
  portals : t.portals = updAt s.portals p fun _ =>
    { q with la := some la, lth := some (min s.portals[p].ceiling (ceilDiv (la * s.kTable[row]) 1000)) }
  target : ∀ z : Fin 32, s.zones[z].used = true ∧ s.zones[z].portal = p → t.zones[z].lz
    = some (max s.portals[p].interior (min s.portals[p].ceiling
        (ceilDiv (min s.portals[p].ceiling (ceilDiv (la * s.kTable[row]) 1000) * s.zones[z].ratio) 1000)))
  zone : ∀ z : Fin 32, ¬ (s.zones[z].used = true ∧ s.zones[z].portal = p) → t.zones[z] = s.zones[z]
  group : ∀ g : Fin 48, (∀ z : Fin 32, s.zones[z].used = true → s.zones[z].portal = p → g ∉ s.zones[z].standing) → t.groups[g] = s.groups[g]
  flags : Latched p latched s t
  alerts : s.portalAlerts t p alerts
  rest : t.exceptRegulation = (s.reach e).exceptRegulation

section
variable {s : State} {p : Fin 4} {e : Time} {row : Fin 128} {atHold : Bool} {f : Portal → Portal} {q : Portal} {la : Nat}
  {latched : List Nat} {alerts : List (Byte × Nat)}

/-- The state of a timer's pass before its steps: the time reached and the portal's timer written. -/
def State.timedOut (s : State) (p : Fin 4) (e : Time) (f : Portal → Portal) : State := (s.reach e).mapPortal p f

theorem timedOut_portals : (s.timedOut p e f).portals = updAt s.portals p f := by
  unfold State.timedOut
  rw [State.mapPortal_portals, State.reach_portals]

theorem timedOut_portal : (s.timedOut p e f).portals[p] = f s.portals[p] := by
  rw [timedOut_portals]
  exact updAt_same _ _ _

/-- Step 2 of a pass on the record of its portal (R83). -/
def Portal.withThreshold (q : Portal) (kTable : Vector Nat 128) (p : Fin 4) : Portal :=
  { q with lth := some (thresholdOf (q.la.getD 0) kTable[kRow p q.speed q.traffic] q.ceiling) }

theorem passed_eq (s : State) (p : Fin 4) (r : Portal) (atHold : Bool) : s.passed p r atHold
    = (r.afterStep1 (s.validMedian r.mainSensor) (r.reserveSensor.bind s.validMedian) atHold s.now).withThreshold s.kTable p := rfl

/-- What a pass makes of its portal's record, when step 1 gave it the luminance `la`. -/
theorem passed_timedOut (rowIs : row.val = p.val * 32 + s.portals[p].speed.val * 4 + s.portals[p].traffic.val)
    (keeps : (f s.portals[p]).ceiling = s.portals[p].ceiling ∧ (f s.portals[p]).speed = s.portals[p].speed
      ∧ (f s.portals[p]).traffic = s.portals[p].traffic)
    (step1 : (f s.portals[p]).afterStep1 (s.validMedian (f s.portals[p]).mainSensor) ((f s.portals[p]).reserveSensor.bind s.validMedian) atHold
      (max s.now e) = { q with la := some la }) :
    (s.timedOut p e f).passed p (f s.portals[p]) atHold
      = { q with la := some la, lth := some (min s.portals[p].ceiling (ceilDiv (la * s.kTable[row]) 1000)) } := by
  obtain ⟨config, speed, traffic, -⟩ := (f s.portals[p]).afterStep1_kept (s.validMedian (f s.portals[p]).mainSensor)
    ((f s.portals[p]).reserveSensor.bind s.validMedian) atHold (max s.now e)
  rw [step1] at config speed traffic
  have ceiling : q.ceiling = s.portals[p].ceiling := (congrArg Portal.ceiling config :).trans keeps.1
  have rows : kRow p q.speed q.traffic = row := by
    refine Fin.ext ?_
    have isSpeed : q.speed = s.portals[p].speed := speed.trans keeps.2.1
    have isTraffic : q.traffic = s.portals[p].traffic := traffic.trans keeps.2.2
    rw [rowIs, isSpeed, isTraffic]
    rfl
  have step1' : (f s.portals[p]).afterStep1 ((s.timedOut p e f).validMedian (f s.portals[p]).mainSensor)
      ((f s.portals[p]).reserveSensor.bind (s.timedOut p e f).validMedian) atHold (s.timedOut p e f).now = { q with la := some la } := step1
  have table : (s.timedOut p e f).kTable = s.kTable := rfl
  rw [passed_eq, step1', table]
  unfold Portal.withThreshold
  rw [congrArg (fun i : Fin 128 => s.kTable[i]) rows, ceiling]
  rfl

theorem passedTo_of_pass (rowIs : row.val = p.val * 32 + s.portals[p].speed.val * 4 + s.portals[p].traffic.val)
    (keeps : (f s.portals[p]).config = s.portals[p].config ∧ (f s.portals[p]).speed = s.portals[p].speed
      ∧ (f s.portals[p]).traffic = s.portals[p].traffic)
    (step1 : (f s.portals[p]).afterStep1 (s.validMedian (f s.portals[p]).mainSensor) ((f s.portals[p]).reserveSensor.bind s.validMedian) atHold
      (max s.now e) = { q with la := some la })
    (bits : reportBits ((f s.portals[p]).step1Reports (s.validMedian (f s.portals[p]).mainSensor)
      ((f s.portals[p]).reserveSensor.bind s.validMedian) atHold) = latched)
    (said : reportAlerts ((f s.portals[p]).step1Reports (s.validMedian (f s.portals[p]).mainSensor)
      ((f s.portals[p]).reserveSensor.bind s.validMedian) atHold) = alerts) :
    s.PassedTo p e row q la latched alerts ((s.timedOut p e f).pass p atHold false) := by
  have ceiling : (f s.portals[p]).ceiling = s.portals[p].ceiling := (congrArg Portal.ceiling keeps.1 :)
  have interior : (f s.portals[p]).interior = s.portals[p].interior := (congrArg Portal.interior keeps.1 :)
  have passed := passed_timedOut (atHold := atHold) rowIs ⟨ceiling, keeps.2⟩ step1
  have reports : (s.timedOut p e f).passReports p atHold = (f s.portals[p]).step1Reports (s.validMedian (f s.portals[p]).mainSensor)
      ((f s.portals[p]).reserveSensor.bind s.validMedian) atHold := by
    unfold State.passReports
    rw [timedOut_portal]
    rfl
  obtain ⟨config, -⟩ := (f s.portals[p]).afterStep1_kept (s.validMedian (f s.portals[p]).mainSensor)
    ((f s.portals[p]).reserveSensor.bind s.validMedian) atHold (max s.now e)
  rw [step1] at config
  have ceilingQ : q.ceiling = s.portals[p].ceiling := (congrArg Portal.ceiling config :).trans ceiling
  have interiorQ : q.interior = s.portals[p].interior := (congrArg Portal.interior config :).trans interior
  refine ⟨?_, fun z here => ?_, fun z away => ?_, fun g absent => ?_, ?_, ?_, ?_⟩
  · rw [pass_portals, timedOut_portals, updAt_updAt]
    exact updAt_congr s.portals p passed
  · have lz := pass_zone_lz (s := s.timedOut p e f) (p := p) (atHold := atHold) (immediate := false) (z := z) here
    rw [timedOut_portal, passed] at lz
    dsimp only at lz
    rw [ceilingQ, interiorQ] at lz
    exact lz
  · exact pass_zone_other (s := s.timedOut p e f) away
  · exact pass_group_other (s := s.timedOut p e f) absent
  · have flags := pass_latched (s := s.timedOut p e f) (p := p) (atHold := atHold) (immediate := false)
    rw [reports, bits] at flags
    exact ⟨flags.other, flags.kept, flags.only⟩
  · have alerts := pass_portalAlerts (s := s.timedOut p e f) (p := p) (atHold := atHold) (immediate := false)
    rw [reports, said] at alerts
    exact alerts
  · exact (exceptRegulation_pass _ p atHold false).trans rfl

end

/-! ### What the two sensors give -/

section
variable {r : Portal} {main reserve : Option Nat} {atHold : Bool} {now : Time} {a : Nat}

/-- Exactly one of the two medians is there. -/
theorem step1_of_one (one : (main = some a ∧ reserve = none) ∨ (main = none ∧ reserve = some a)) :
    r.afterStep1 main reserve atHold now
        = { r with la := some a, lastGoodLa := some a, state := .tracking, holdTimer := none, disagree := false }
      ∧ r.step1Reports main reserve atHold = r.trackingReports a := by
  rcases one with ⟨rfl, rfl⟩ | ⟨rfl, rfl⟩ <;> exact ⟨rfl, rfl⟩

theorem trackingReports_bits (r : Portal) (a : Nat) : reportBits (r.trackingReports a) = [] := by
  unfold Portal.trackingReports
  split <;> rfl

theorem trackingReports_alerts (r : Portal) (a : Nat) :
    reportAlerts (r.trackingReports a) = if r.state = .tracking then [] else [((22 : Byte), a)] := by
  unfold Portal.trackingReports
  split <;> rfl

/-- Two medians are there; they disagree or not (R81). -/
theorem step1_of_two {a b : Nat} (two : main = some a ∧ reserve = some b) :
    r.afterStep1 main reserve atHold now = { r with
        la := some (max a b), lastGoodLa := some (max a b), state := .tracking, holdTimer := none, disagree := disagrees a b r.tolerance }
      ∧ reportBits (r.step1Reports main reserve atHold)
        = (if min a b * 1000 < max a b * (1000 - r.tolerance) ∧ r.disagree = false then [2] else [])
      ∧ reportAlerts (r.step1Reports main reserve atHold)
        = (if r.state = .tracking then [] else [((22 : Byte), max a b)])
          ++ if min a b * 1000 < max a b * (1000 - r.tolerance) ∧ r.disagree = false then [((18 : Byte), min a b)] else [] := by
  obtain ⟨rfl, rfl⟩ := two
  have said : r.step1Reports (some a) (some b) atHold = r.trackingReports (max a b)
      ++ if min a b * 1000 < max a b * (1000 - r.tolerance) ∧ r.disagree = false then [PortalFlag.disagree.report (min a b)] else [] := by
    unfold Portal.step1Reports disagrees
    simp only [Bool.and_eq_true, decide_eq_true_eq, Bool.not_eq_true']
  have bits (l l' : List PortalReport) : reportBits (l ++ l') = reportBits l ++ reportBits l' := List.filterMap_append
  have alerts (l l' : List PortalReport) : reportAlerts (l ++ l') = reportAlerts l ++ reportAlerts l' := List.map_append
  refine ⟨rfl, ?_, ?_⟩
  · rw [said, bits, trackingReports_bits, List.nil_append]
    split <;> rfl
  · rw [said, alerts, trackingReports_alerts]
    congr 1
    split <;> rfl

/-- No median: the luminance is held for the hold time (R82). -/
theorem step1_holds {g : Nat} (lost : main = none ∧ reserve = none) (tracking : r.state = .tracking) (holds : 1 ≤ r.holdTime) (good : r.lastGoodLa = some g) :
    r.afterStep1 main reserve atHold now
        = { r with state := .hold, la := some g, holdTimer := some (now + r.holdTime * secTicks), disagree := false }
      ∧ reportBits (r.step1Reports main reserve atHold) = [0] ∧ reportAlerts (r.step1Reports main reserve atHold) = [(16, g)] := by
  have some : ¬ r.holdTime = 0 := by omega
  obtain ⟨rfl, rfl⟩ := lost
  unfold Portal.afterStep1 Portal.step1Reports
  simp only [tracking, if_neg some, good]
  exact ⟨trivial, rfl, rfl⟩

theorem step1_loses {g : Nat} (lost : main = .none ∧ reserve = .none) (tracking : r.state = .tracking) (none : r.holdTime = 0) (good : r.lastGoodLa = some g) :
    r.afterStep1 main reserve atHold now
        = { r with state := .fallback, la := some r.fallbackLuminance, holdTimer := .none, disagree := false }
      ∧ reportBits (r.step1Reports main reserve atHold) = [0, 1]
      ∧ reportAlerts (r.step1Reports main reserve atHold) = [(16, g), (17, r.fallbackLuminance)] := by
  obtain ⟨rfl, rfl⟩ := lost
  unfold Portal.afterStep1 Portal.step1Reports
  simp only [tracking, if_pos none, good]
  exact ⟨trivial, rfl, rfl⟩

theorem step1_keeps_holding {g : Nat} (lost : main = none ∧ reserve = none) (holds : r.state = .hold) (good : r.lastGoodLa = some g) :
    r.afterStep1 main reserve false now = { r with la := some g, disagree := false } ∧ r.step1Reports main reserve false = [] := by
  obtain ⟨rfl, rfl⟩ := lost
  unfold Portal.afterStep1 Portal.step1Reports
  simp only [holds, good, Bool.false_eq_true, if_false, and_self]

theorem step1_ends_hold (lost : main = none ∧ reserve = none) (holds : r.state = .hold) :
    r.afterStep1 main reserve true now = { r with state := .fallback, la := some r.fallbackLuminance, holdTimer := none, disagree := false }
      ∧ reportBits (r.step1Reports main reserve true) = [1] ∧ reportAlerts (r.step1Reports main reserve true) = [(17, r.fallbackLuminance)] := by
  obtain ⟨rfl, rfl⟩ := lost
  unfold Portal.afterStep1 Portal.step1Reports
  simp only [holds, if_true]
  exact ⟨trivial, rfl, rfl⟩

theorem step1_keeps_fallback (lost : main = none ∧ reserve = none) (fallen : r.state = .fallback) :
    r.afterStep1 main reserve atHold now = { r with la := some r.fallbackLuminance, disagree := false } ∧ r.step1Reports main reserve atHold = [] := by
  obtain ⟨rfl, rfl⟩ := lost
  unfold Portal.afterStep1 Portal.step1Reports
  simp only [fallen, and_self]

end

/-! ### The obligations -/

/-- Settles O30: a VALID sensor's median is the one of its history; each case of step 1 is one record and one list of reports. -/
theorem passTakesLuminance : Obligations.PassTakesLuminance := by
  unfold Obligations.PassTakesLuminance
  refine ⟨fun i s => ⟨fun valid => if_pos valid, fun other => if_neg other⟩, ?_⟩
  intro p e row s live sound runs rowIs r now main reserve base entered result
  have done {q : Portal} {la : Nat} {latched : List Nat} {alerts : List (Byte × Nat)}
      (step1 : ({ r with passTimer := some (now + r.passPeriod * secTicks) } : Portal).afterStep1 main reserve false now = { q with la := some la })
      (bits : reportBits (({ r with passTimer := some (now + r.passPeriod * secTicks) } : Portal).step1Reports main reserve false) = latched)
      (said : reportAlerts (({ r with passTimer := some (now + r.passPeriod * secTicks) } : Portal).step1Reports main reserve false) = alerts) :
      result q la latched alerts := by
    have run : s.passExpiry p = (s.timedOut p e fun r => { r with passTimer := some (now + r.passPeriod * secTicks) }).pass p false false := by
      unfold State.passExpiry
      rw [runs]
      rfl
    have passed := passedTo_of_pass (s := s) (e := e) (row := row) (f := fun r => { r with passTimer := some (now + r.passPeriod * secTicks) })
      rowIs ⟨rfl, rfl, rfl⟩ step1 bits said
    obtain ⟨portals, target, zone, group, flags, said, rest⟩ := passed
    refine ⟨_, whenLive_of_live live (·.passExpiry p), ?_⟩
    rw [run]
    refine ⟨portals, fun z => ?_, zone, group, flags.kept, flags.only, flags.other, said, rest⟩
    split
    · next here => exact target z here
    · next away => exact congrArg Zone.lz (zone z away)
  refine ⟨fun a b isMain isReserve => ?_, fun a one => ?_, fun noMain noReserve => ⟨?_, ?_, ?_, ?_⟩⟩
  · obtain ⟨record, bits, said⟩ := step1_of_two (r := { r with passTimer := some (now + r.passPeriod * secTicks) }) (atHold := false) (now := now)
      ⟨isMain, isReserve⟩
    exact done record bits said
  · obtain ⟨record, reports⟩ := step1_of_one (r := { r with passTimer := some (now + r.passPeriod * secTicks) }) (atHold := false) (now := now) one
    exact done record (reports ▸ trackingReports_bits _ a) (reports ▸ trackingReports_alerts _ a)
  · intro g tracking holds good
    obtain ⟨record, bits, said⟩ := step1_holds (r := { r with passTimer := some (now + r.passPeriod * secTicks) }) (atHold := false) (now := now)
      ⟨noMain, noReserve⟩ tracking holds good
    exact done record bits said
  · intro g tracking none good
    obtain ⟨record, bits, said⟩ := step1_loses (r := { r with passTimer := some (now + r.passPeriod * secTicks) }) (atHold := false) (now := now)
      ⟨noMain, noReserve⟩ tracking none good
    exact done record bits said
  · intro g holds good
    obtain ⟨record, reports⟩ := step1_keeps_holding (r := { r with passTimer := some (now + r.passPeriod * secTicks) }) (now := now)
      ⟨noMain, noReserve⟩ holds good
    exact done record (by rw [reports]; rfl) (by rw [reports]; rfl)
  · intro fallen
    obtain ⟨record, reports⟩ := step1_keeps_fallback (r := { r with passTimer := some (now + r.passPeriod * secTicks) }) (atHold := false)
      (now := now) ⟨noMain, noReserve⟩ fallen
    exact done record (by rw [reports]; rfl) (by rw [reports]; rfl)

/-- Settles O31: the pass of the hold timer's expiry leaves HOLD, for TRACKING if a sensor is VALID and for FALLBACK if none is. -/
theorem holdExpiryEndsHold : Obligations.HoldExpiryEndsHold := by
  unfold Obligations.HoldExpiryEndsHold
  intro p e row s live sound runs rowIs r main reserve base result
  have holds : r.state = .hold := by
    obtain ⟨-, -, -, hold, -⟩ := sound.1 p
    exact hold.mp (runs ▸ rfl)
  have away : ¬ r.state = .tracking := by
    rw [holds]
    decide
  have done {q : Portal} {la : Nat} {latched : List Nat} {alerts : List (Byte × Nat)}
      (step1 : ({ r with holdTimer := none } : Portal).afterStep1 main reserve true (max s.now e) = { q with la := some la })
      (bits : reportBits (({ r with holdTimer := none } : Portal).step1Reports main reserve true) = latched)
      (said : reportAlerts (({ r with holdTimer := none } : Portal).step1Reports main reserve true) = alerts) :
      result q la latched alerts := by
    have run : s.holdExpiry p = (s.timedOut p e fun r => { r with holdTimer := none }).pass p true false := by
      unfold State.holdExpiry
      rw [runs]
      rfl
    have passed := passedTo_of_pass (s := s) (e := e) (row := row) (f := fun r => { r with holdTimer := none })
      rowIs ⟨rfl, rfl, rfl⟩ step1 bits said
    obtain ⟨portals, target, zone, group, flags, said, rest⟩ := passed
    refine ⟨_, whenLive_of_live live (·.holdExpiry p), ?_⟩
    rw [run]
    exact ⟨portals, fun z used here => target z ⟨used, here⟩, zone, flags.kept, flags.only, flags.other, said, rest⟩
  refine ⟨fun a b isMain isReserve => ?_, fun a one => ?_, fun noMain noReserve => ?_⟩
  · obtain ⟨record, bits, said⟩ := step1_of_two (r := { r with holdTimer := none }) (atHold := true) (now := max s.now e) ⟨isMain, isReserve⟩
    rw [if_neg away] at said
    exact done record bits said
  · obtain ⟨record, reports⟩ := step1_of_one (r := { r with holdTimer := none }) (atHold := true) (now := max s.now e) one
    have said := trackingReports_alerts { r with holdTimer := none } a
    rw [if_neg away] at said
    exact done record (reports ▸ trackingReports_bits _ a) (reports ▸ said)
  · obtain ⟨record, bits, said⟩ := step1_ends_hold (r := { r with holdTimer := none }) (now := max s.now e) ⟨noMain, noReserve⟩ holds
    exact done record bits said

end Sys2Proof.Machine

/-! SUPPORT. Each zone of a portal after a pass: its record, its groups' figures, its deficit and its offers, whatever the order of the
zones (R85, R98 to R111). -/

namespace Sys2Proof.Machine

set_option Elab.async false

/-! ### Step 4 reads its own zone and what staging leaves -/

section
variable {s t u : State} {i z : Fin 32} {b : Bool} {g : Fin 48}

theorem drivers_of_exceptStaging (same : t.exceptStaging = s.exceptStaging) : t.drivers = s.drivers := (congrArg (fun u : State => u.drivers) same :)

theorem figures_of_exceptStaging (same : t.exceptStaging = s.exceptStaging) : t.figure = s.figure := funext (figure_of_exceptStaging same)

theorem aimed_congr (same : t.exceptStaging = s.exceptStaging) (zone : t.zones[z] = s.zones[z]) : t.aimed z = s.aimed z := by
  unfold State.aimed
  rw [zone, reserveEligible_congr (drivers_of_exceptStaging same)]

theorem chosen_congr (same : t.exceptStaging = s.exceptStaging) (zone : t.zones[z] = s.zones[z]) : t.chosen z = s.chosen z := by
  have minima : (s.aimed z).sameMinima t.groups s.groups := sameMinima_of_unstaged (unstaged_of_exceptStaging same)
  unfold State.chosen State.aim
  rw [aimed_congr same zone, zone, reserveEligible_congr (drivers_of_exceptStaging same), figures_of_exceptStaging same,
    selectAuto_congr (fun _ _ => rfl) minima]

theorem staged_congr (same : t.exceptStaging = s.exceptStaging) (zone : t.zones[z] = s.zones[z]) : t.staged z = s.staged z := by
  unfold State.staged State.reachable_output State.aim
  rw [chosen_congr same zone, zone, reserveEligible_congr (drivers_of_exceptStaging same), figures_of_exceptStaging same]

/-! ### Figures stay -/

/-- The group keeps the figures that a pass computes now. -/
def State.keepsFigures (s : State) (g : Fin 48) : Prop := s.groups[g].mf = some s.groups[g].maintenance ∧ s.groups[g].sg = some (s.figure g)

theorem keepsFigures_stageZone (h : g ∈ (s.zones[i]).standing ∨ s.keepsFigures g) : (s.stageZone i b).keepsFigures g := by
  have same := exceptStaging_stageZone s i b
  have maintenance : (s.stageZone i b).groups[g].maintenance = s.groups[g].maintenance :=
    (congrArg Group.maintenance (unstaged_of_exceptStaging same g) :)
  have record := stageZone_group s i b g
  have mf : (s.stageZone i b).groups[g].mf = (s.figured i).groups[g].mf := (congrArg Group.mf record :)
  have sg : (s.stageZone i b).groups[g].sg = (s.figured i).groups[g].sg := (congrArg Group.sg record :)
  unfold State.keepsFigures
  rw [mf, sg, maintenance, figure_of_exceptStaging same, figured_groups]
  split
  · exact ⟨rfl, rfl⟩
  · next absent => exact h.resolve_left absent

theorem keepsFigures_fold (l : List (Fin 32)) (h : s.keepsFigures g) : (l.foldl (fun t i => t.stageZone i b) s).keepsFigures g :=
  foldl_inv (P := fun t : State => t.keepsFigures g) _ (fun _ _ kept => keepsFigures_stageZone (.inr kept)) l s h

theorem sg_of_keepsFigures (kept : s.keepsFigures g) : s.sg g = s.figure g := by
  unfold State.sg
  rw [kept.2]
  rfl

end

/-! ### The offers of one zone -/

section
variable {s : State} {z : Fin 32} {b : Bool} {g : Fin 48} {place : Place}

/-- Step 4 of one zone offers what the handover asks, under AUTO alone (R108, R111). -/
theorem stageZone_offered (sound : s.queuesSound) (once : (s.zones[z]).standing.count g ≤ 1) (placed : (place, g) ∈ (s.zones[z]).places) :
    s.offeredWhen (s.stageZone z b) ((s.zones[z]).override = none ∧ (handoverOffers (s.aimed z) (s.chosen z) b).test place s.now s.groups[g] = true)
      g ((handoverOffers (s.aimed z) (s.chosen z) b).level place s.groups[g]) .autoManual s.now := by
  have static : ∀ r r' : Group, r.unstaged = r'.unstaged →
      (handoverOffers (s.aimed z) (s.chosen z) b).test place s.now r = (handoverOffers (s.aimed z) (s.chosen z) b).test place s.now r'
        ∧ (handoverOffers (s.aimed z) (s.chosen z) b).level place r = (handoverOffers (s.aimed z) (s.chosen z) b).level place r' := by
    intro r r' same
    have owner : r.owner = r'.owner := (congrArg Group.owner same :)
    have dmin : r.dmin = r'.dmin := (congrArg Group.dmin same :)
    unfold handoverOffers Group.levelAt
    dsimp only
    rw [owner, dmin]
    exact ⟨rfl, rfl⟩
  have tested := Unoffered.tested g s z
  rw [stageZone_eq]
  cases override : (s.zones[z]).override with
  | some o =>
    simp only [Option.isNone_some, Bool.false_eq_true, if_false, reduceCtorEq, false_and]
    exact ⟨fun never => never.elim, fun _ => tested.group⟩
  | none =>
    simp only [Option.isNone_none, if_true, true_and]
    have offered := offeredWhen_offerAll (handoverOffers (s.aimed z) (s.chosen z) b) (tested.sound sound) (places_nodup _) placed
      fun q here same => place_unique once placed here same
    have unstaged := unstaged_of_exceptStaging (exceptStaging_tested s z) g
    rw [tested_now, (static _ _ unstaged).1, (static _ _ unstaged).2] at offered
    exact offeredWhen_between tested offered (.refl g _) ((Regular.offerAll _ _ _).2 (tested.sound sound))

end

/-! ### The deficit of one zone -/

section
variable {s t u : State} {i : Fin 32} {b : Bool} {p : Fin 4}

/-- The state with the zone staged, before the report on its deficit. -/
def State.restaged (s : State) (i : Fin 32) : State := { s.figured i with zones := updAt s.zones i fun _ => s.staged i }

/-- An onset of a deficit latches DEFICIT and is alerted; an end is alerted (R110, R162). -/
theorem stageZone_deficit (s : State) (i : Fin 32) (b : Bool) :
    ((s.staged i).deficit = true → (s.zones[i]).deficit = false →
        (s.stageZone i b).portalFlags[s.zones[i].portal].getLsbD 4 = true
          ∧ s.alerted (s.stageZone i b) s.device.portalAlert[s.zones[i].portal] 20 (BitVec.ofNat 8 i.val) (s.aim i - s.reachable_output i))
      ∧ ((s.staged i).deficit = false → (s.zones[i]).deficit = true →
        s.alerted (s.stageZone i b) s.device.portalAlert[s.zones[i].portal] 21 (BitVec.ofNat 8 i.val) 0) := by
  obtain ⟨places, -, offers⟩ := stageZone_offers s i b
  have begun : Grown s (s.restaged i) := ⟨⟨[], by
      rw [List.append_nil]
      exact (congrArg (fun u : State => u.cQueue) (exceptGroups_figured s i) :).symm⟩,
    (congrArg (fun u : State => u.device) (exceptGroups_figured s i) :), (congrArg (fun u : State => u.addrPins) (exceptGroups_figured s i) :)⟩
  have tested : s.tested i = (s.restaged i).deficitReport i s.zones[i].portal s.zones[i].deficit (s.aim i) (s.reachable_output i) := rfl
  have later : Grown (s.tested i) (s.stageZone i b) := by
    rw [offers]
    have same := exceptOffers_offerAll (handoverOffers (s.aimed i) (s.chosen i) b) (s.tested i) places
    exact ⟨(Regular.offerAll _ _ _).1.leads, (congrArg (fun u : State => u.device) same :), (congrArg (fun u : State => u.addrPins) same :)⟩
  have flags : (s.stageZone i b).portalFlags = (s.tested i).portalFlags := by
    rw [offers]
    exact portalFlags_of_exceptOffers (exceptOffers_offerAll _ _ _)
  have isDeficit : (s.staged i).deficit = decide (s.reachable_output i < s.aim i) := rfl
  rw [isDeficit]
  constructor
  · intro onset before
    have reported : s.tested i = (s.restaged i).portalEvent s.zones[i].portal .deficit (BitVec.ofNat 8 i.val) (s.aim i - s.reachable_output i) := by
      rw [tested]
      unfold State.deficitReport
      rw [if_pos]
      rw [onset, before]
      rfl
    refine ⟨?_, ?_⟩
    · rw [flags, reported, State.portalEvent_portalFlags, updAt_same, BitVec.getLsbD_or, getLsbD_bit, Bool.or_eq_true, decide_eq_true_eq]
      exact .inr rfl
    · have said := alerted_portalEvent (s.restaged i) s.zones[i].portal .deficit (BitVec.ofNat 8 i.val) (s.aim i - s.reachable_output i)
      rw [← reported, begun.device] at said
      exact alerted_of_grown (alerted_of_later begun said) later
  · intro ended before
    have reported : s.tested i = (s.restaged i).portalAlert s.zones[i].portal evDeficitEnd (BitVec.ofNat 8 i.val) 0 := by
      rw [tested]
      unfold State.deficitReport
      rw [if_neg, if_pos]
      · rw [ended, before]
        rfl
      · rw [ended, Bool.false_and]
        exact Bool.false_ne_true
    have said := alerted_portalAlert (s.restaged i) s.zones[i].portal evDeficitEnd (BitVec.ofNat 8 i.val) 0
    rw [← reported, begun.device] at said
    exact alerted_of_grown (alerted_of_later begun said) later

end

end Sys2Proof.Machine

/-! SUPPORT. Step 4 over a list of zones, and the selection's outcome (R102 to R111, Table 6-4). -/

namespace Sys2Proof.Machine

set_option Elab.async false

/-! ### One zone of many -/

/-- What step 4 over a list of zones of portal `p` came to for one of them, on the way from `s` to `t`. -/
structure StagedIn (s t : State) (p : Fin 4) (z : Fin 32) : Prop where
  wiped : t.exceptStaging = s.exceptStaging
  zone : t.zones[z] = s.staged z
  figures : ∀ g ∈ (s.zones[z]).standing, t.keepsFigures g
  onset : (s.staged z).deficit = true → (s.zones[z]).deficit = false → t.portalFlags[p].getLsbD 4 = true
    ∧ s.alerted t s.device.portalAlert[p] 20 (BitVec.ofNat 8 z.val) (s.aim z - s.reachable_output z)
  ended : (s.staged z).deficit = false → (s.zones[z]).deficit = true →
    s.alerted t s.device.portalAlert[p] 21 (BitVec.ofNat 8 z.val) 0

section
variable {s t : State} {z : Fin 32} {b : Bool} {l : List (Fin 32)} {p : Fin 4}

theorem aim_congr (zone : t.zones[z] = s.zones[z]) : t.aim z = s.aim z := by
  unfold State.aim
  rw [zone]

theorem reachable_output_congr (same : t.exceptStaging = s.exceptStaging) (zone : t.zones[z] = s.zones[z]) :
    t.reachable_output z = s.reachable_output z := by
  unfold State.reachable_output
  rw [chosen_congr same zone, zone, reserveEligible_congr (drivers_of_exceptStaging same), figures_of_exceptStaging same]

/-- Step 4 of one zone of `p`, read from the state before the zones that came first. -/
theorem stageZone_deficit_at {u : State} (b : Bool) (wiped : u.exceptStaging = s.exceptStaging) (grown : Grown s u)
    (zone : u.zones[z] = s.zones[z]) (here : (s.zones[z]).portal = p) :
    ((s.staged z).deficit = true → (s.zones[z]).deficit = false → (u.stageZone z b).portalFlags[p].getLsbD 4 = true
        ∧ s.alerted (u.stageZone z b) s.device.portalAlert[p] 20 (BitVec.ofNat 8 z.val) (s.aim z - s.reachable_output z))
      ∧ ((s.staged z).deficit = false → (s.zones[z]).deficit = true →
        s.alerted (u.stageZone z b) s.device.portalAlert[p] 21 (BitVec.ofNat 8 z.val) 0) := by
  have portal : (u.zones[z]).portal = p := (congrArg Zone.portal zone).trans here
  have deficit : (u.zones[z]).deficit = (s.zones[z]).deficit := congrArg Zone.deficit zone
  obtain ⟨onset, ended⟩ := stageZone_deficit u z b
  simp only [portal] at onset ended
  rw [deficit, staged_congr wiped zone, aim_congr zone, reachable_output_congr wiped zone, grown.device] at onset
  rw [deficit, staged_congr wiped zone, grown.device] at ended
  exact ⟨fun now before => ⟨(onset now before).1, alerted_of_later grown (onset now before).2⟩,
    fun now before => alerted_of_later grown (ended now before)⟩

theorem stagedIn_fold (nodup : l.Nodup) (member : z ∈ l) (portals : ∀ i ∈ l, (s.zones[i]).portal = p) :
    StagedIn s (l.foldl (fun t i => t.stageZone i b) s) p z := by
  have does := zoneWork_stageZone b
  obtain ⟨front, back, split, before, behind⟩ := ZoneWork.fold_split (work := fun t i => t.stageZone i b) nodup member s
  have wiped : (front.foldl (fun t i => t.stageZone i b) s).exceptStaging = s.exceptStaging := does.wiped_fold front s
  have zone : (front.foldl (fun t i => t.stageZone i b) s).zones[z] = s.zones[z] := does.zone_fold fun i here => (before i here).2
  have grown : Grown s (front.foldl (fun t i => t.stageZone i b) s) := Grown.foldl _ (fun t i => .stageZone t i b) front s
  have portal (j : Fin 32) : ((front.foldl (fun t i => t.stageZone i b) s).zones[j]).portal = (s.zones[j]).portal :=
    foldl_keeps (fun t : State => (t.zones[j]).portal) _ (fun t i => (stageZone_zone_kept t i b j).2) front s
  obtain ⟨onset, ended⟩ := stageZone_deficit_at b wiped grown zone (portals z member)
  have staged := staged_congr wiped zone
  have rest : Grown ((front.foldl (fun t i => t.stageZone i b) s).stageZone z b) (l.foldl (fun t i => t.stageZone i b) s) := by
    rw [split]
    exact Grown.foldl _ (fun t i => .stageZone t i b) back _
  have flags : Latched p [] ((front.foldl (fun t i => t.stageZone i b) s).stageZone z b) (l.foldl (fun t i => t.stageZone i b) s) := by
    rw [split]
    refine stageZones_latched b fun i here => ?_
    rw [(stageZone_zone_kept _ z b i).2, portal i, portals i (behind i here).1]
  refine ⟨does.wiped_fold l s, ?_, fun g stands => ?_, fun now before => ?_, fun now before => ?_⟩
  · rw [split, does.zone_fold fun i here => (behind i here).2, stageZone_zones, updAt_same, staged]
  · rw [split]
    refine keepsFigures_fold back (keepsFigures_stageZone (.inl ?_))
    rw [zone]
    exact stands
  · obtain ⟨flag, said⟩ := onset now before
    exact ⟨flags.kept 4 (.inr flag), alerted_of_grown said rest⟩
  · exact alerted_of_grown (ended now before) rest

/-- What step 4 over a list of used zones offers for a group of one slot. -/
theorem stagedIn_offered {g : Fin 48} {place : Place} (nodup : l.Nodup) (member : z ∈ l) (used : ∀ i ∈ l, (s.zones[i]).used = true)
    (sound : s.queuesSound) (one : s.slotCount g = 1) (placed : (place, g) ∈ (s.zones[z]).places) :
    s.offeredWhen (l.foldl (fun t i => t.stageZone i b) s)
      ((s.zones[z]).override = none ∧ (handoverOffers (s.aimed z) (s.chosen z) b).test place s.now s.groups[g] = true)
      g ((handoverOffers (s.aimed z) (s.chosen z) b).level place s.groups[g]) .autoManual s.now := by
  have stands := standing_of_places placed
  obtain ⟨u, wiped, zone, regular, group, before, -, -, after⟩ := (zoneWork_stageZone b).group_of_fold (s := s) nodup member (g := g)
    fun i inside standsI => stands_once one (used z member) stands (used i inside) standsI
  have offered := stageZone_offered (s := u) (z := z) (b := b) (g := g) (place := place) (regular.2 sound)
    (by rw [zone]; exact standing_count_le one (used z member)) (by rw [zone]; exact placed)
  have now : u.now = s.now := (congrArg (fun u : State => u.now) wiped :)
  rw [zone, aimed_congr wiped zone, chosen_congr wiped zone, group, now] at offered
  exact offeredWhen_between before offered after ((Regular.foldl _ (fun t i => .stageZone t i b) l s).2 sound)

end

/-! ### What the selection comes to -/

section
variable {z : Zone} {sg : Fin 48 → Nat} {groups : Vector Group 48} {eligible : Bool} {lz : Nat}

/-- A zone with what the selection reads of `z`, and all else of `w`. -/
def Zone.amid (z w : Zone) : Zone :=
  { w with stages := z.stages, reserve := z.reserve, hysteresis := z.hysteresis, onStages := z.onStages, onReserve := z.onReserve, dCmd := z.dCmd }

variable {w : Zone}

theorem switchOn_amid : (z.amid w).switchOn sg groups eligible lz = (z.switchOn sg groups eligible lz).amid w := by
  have stages : (z.amid w).addStages sg eligible lz = (z.addStages sg eligible lz).amid w := by
    rw [addStages_spec, addStages_spec]
    rfl
  unfold Zone.switchOn
  dsimp only
  rw [stages]
  have same : ((z.addStages sg eligible lz).amid w).sameOnSet (z.amid w) = (z.addStages sg eligible lz).sameOnSet z := rfl
  rw [same]
  split <;> rfl

theorem switchOff_amid : (z.amid w).switchOff sg lz = (z.switchOff sg lz).amid w := by
  have candidate : (z.amid w).offCandidate = z.offCandidate := rfl
  cases is : z.offCandidate with
  | none => rw [switchOff_of_none is, switchOff_of_none (candidate.trans is)]
  | some q =>
    have taken : (z.amid w).setOn q false = (z.setOn q false).amid w := by cases q <;> rfl
    rw [switchOff_of_some is, switchOff_of_some (candidate.trans is), taken]
    have sOn : ((z.setOn q false).amid w).sOn sg = (z.setOn q false).sOn sg := rfl
    rw [sOn, apply_ite (fun y : Zone => y.amid w)]
    rfl

theorem shed_amid : (z.amid w).shed sg eligible = (z.shed sg eligible).amid w := by
  unfold Zone.shed
  have same : (z.amid w).onReserve = z.onReserve := rfl
  rw [same]
  split <;> rfl

/-- The selection reads the stages, the hysteresis, the on set and the commanded level alone. -/
theorem selected_amid : (z.amid w).selected sg groups eligible lz = (z.selected sg groups eligible lz).amid w := by
  unfold Zone.selected
  dsimp only
  rw [shed_amid, switchOn_amid]
  have onReserve : (z.amid w).onReserve = z.onReserve := rfl
  have same : (((z.shed sg eligible).switchOn sg groups eligible lz).amid w).sameOnSet ((z.shed sg eligible).amid w)
      = ((z.shed sg eligible).switchOn sg groups eligible lz).sameOnSet (z.shed sg eligible) := rfl
  rw [onReserve, same, switchOff_amid]
  split <;> rfl

/-- The zone with another target and eligibility. -/
def Zone.retargeted (z : Zone) (target : Option Nat) (el : Bool) : Zone := { z with lz := target, reserveEligible := el }

theorem selected_retargeted {target : Option Nat} {el : Bool} :
    (z.retargeted target el).selected sg groups eligible lz = (z.selected sg groups eligible lz).retargeted target el := by
  have amid : z.retargeted target el = z.amid { z with lz := target, reserveEligible := el } := rfl
  rw [amid, selected_amid, selected_kept]
  rfl

/-- The selection is that of the manual's table: shed, else grown, else one stage off (Table 6-4). -/
theorem selected_cases :
    (z.onReserve = true ∧ eligible = false → z.selected sg groups eligible lz = (z.shedReserve sg).switchOn sg groups eligible lz)
      ∧ (¬ (z.onReserve = true ∧ eligible = false) → (z.switchOn sg groups eligible lz).sameOnSet z = true →
        z.selected sg groups eligible lz = z.switchOff sg lz)
      ∧ (¬ (z.onReserve = true ∧ eligible = false) → ¬ (z.switchOn sg groups eligible lz).sameOnSet z = true →
        z.selected sg groups eligible lz = z.switchOn sg groups eligible lz) := by
  have sheds : (z.onReserve && !eligible) = true ↔ z.onReserve = true ∧ eligible = false := by
    rw [Bool.and_eq_true, Bool.not_eq_true']
  unfold Zone.selected Zone.shed
  dsimp only
  refine ⟨fun shed => ?_, fun keeps same => ?_, fun keeps grew => ?_⟩
  · rw [sheds.mpr shed, if_pos rfl, Bool.true_or, if_pos rfl]
  · have off : (z.onReserve && !eligible) = false := Bool.eq_false_iff.mpr fun on => keeps (sheds.mp on)
    rw [off]
    simp only [Bool.false_eq_true, if_false, Bool.false_or, same, Bool.not_true]
    rw [switchOn_unchanged same]
  · have off : (z.onReserve && !eligible) = false := Bool.eq_false_iff.mpr fun on => keeps (sheds.mp on)
    rw [off]
    simp only [Bool.false_eq_true, if_false, Bool.false_or, Bool.not_eq_true', grew, if_true]

/-- A zone with the on set and commanded level of the selection is selected as the manual says. -/
theorem selectedFrom_of_selected {y : Zone} (eligibleIs : y.reserveEligible = eligible)
    (stages : y.onStages = (z.selected sg groups eligible lz).onStages) (reserve : y.onReserve = (z.selected sg groups eligible lz).onReserve)
    (level : y.dCmd = (z.selected sg groups eligible lz).dCmd) : y.selectedFrom z sg groups lz := by
  obtain ⟨shed, off, grown⟩ := selected_cases (z := z) (sg := sg) (groups := groups) (eligible := eligible) (lz := lz)
  unfold Zone.selectedFrom
  dsimp only
  rw [eligibleIs]
  split
  · next sheds =>
    rw [shed sheds] at stages reserve level
    exact ⟨stages, reserve, level⟩
  · next keeps =>
    split
    · next same =>
      rw [off keeps same] at stages reserve level
      exact ⟨stages, reserve, level⟩
    · next grew =>
      rw [grown keeps grew] at stages reserve level
      exact ⟨stages, reserve, level⟩

/-! ### What stays on, and what is on below the target -/

theorem addListed_growsTo : (z.addListed sg lz).GrowsTo (z.addStages sg eligible lz) := by
  rw [addStages_eq]
  refine foldl_inv (P := (z.addListed sg lz).GrowsTo) _ (fun y p grows => ?_) _ _ (.refl _)
  unfold Zone.addPlace
  split
  · exact grows.trans (y.growsTo_setOn p.1)
  · exact grows

/-- If the target is not reached, everything is on that may be (R104). -/
theorem addStages_short (short : (z.addStages sg eligible lz).sOn sg < lz) {q : Place × Fin 48} (placed : q ∈ z.places)
    (may : q.1 = .reserve → eligible = true) : (z.addStages sg eligible lz).isOn q.1 = true := by
  obtain ⟨j, -, grown, -, stop⟩ := grownTo_addListed (z := z) (sg := sg) (lz := lz)
  have listed : (z.addListed sg lz).sOn sg < lz := Nat.lt_of_le_of_lt (addListed_growsTo.sOn_le sg) short
  rw [grown] at listed
  obtain rfl : j = 4 := stop.resolve_right (Nat.not_le.mpr listed)
  rw [addStages_spec]
  rcases mem_places.mp (show (q.1, q.2) ∈ z.places from placed) with ⟨n, is, found⟩ | ⟨is, reserve⟩
  · have less : (z.upTo n.val).sOn sg < lz := Nat.lt_of_le_of_lt ((upTo_grows (Nat.le_of_lt n.isLt)).sOn_le sg) listed
    rw [is]
    simp [Zone.isOn, (List.getElem?_eq_some_iff.mp found).1, less]
  · rw [is]
    simp [Zone.isOn, reserve, may is, listed]

theorem isOn_of_onSet {x y : Zone} (stages : x.onStages = y.onStages) (reserve : x.onReserve = y.onReserve) (q : Place) : x.isOn q = y.isOn q := by
  cases q with
  | stage n => exact congrArg (fun v : Vector Bool 4 => v[n]) stages
  | reserve => exact reserve

theorem sOn_of_onSet {x y : Zone} (stages : x.onStages = y.onStages) (reserve : x.onReserve = y.onReserve) (places : x.places = y.places) :
    x.sOn sg = y.sOn sg := by
  unfold Zone.sOn
  rw [places]
  simp only [isOn_of_onSet stages reserve]

theorem switchOn_short (short : (z.switchOn sg groups eligible lz).sOn sg < lz) {q : Place × Fin 48} (placed : q ∈ z.places)
    (may : q.1 = .reserve → eligible = true) : (z.switchOn sg groups eligible lz).isOn q.1 = true := by
  obtain ⟨stages, reserve⟩ := switchOn_onSet (z := z) (sg := sg) (groups := groups) (eligible := eligible) (lz := lz)
  have places := (switchOn_places (z := z) (sg := sg) (groups := groups) eligible lz).trans (addStages_places (sg := sg) eligible lz).symm
  rw [sOn_of_onSet stages reserve places] at short
  rw [isOn_of_onSet stages reserve]
  exact addStages_short short placed may

/-- A stage goes off only if enough luminance stays (R106). -/
theorem switchOff_cases : z.switchOff sg lz = z ∨ ∃ q, z.offCandidate = some q ∧ lz < (z.switchOff sg lz).sOn sg
    ∧ z.switchOff sg lz = { z.setOn q false with dCmd := (z.switchOff sg lz).dCmd } := by
  cases candidate : z.offCandidate with
  | none => exact .inl (switchOff_of_none candidate)
  | some q =>
    rw [switchOff_of_some candidate]
    split
    · next allowed =>
      have less : (z.setOn q false).sOn sg * (1000 - z.hysteresis) / 1000 ≤ (z.setOn q false).sOn sg :=
        Nat.div_le_of_le_mul (Nat.mul_comm 1000 _ ▸ Nat.mul_le_mul_left _ (Nat.sub_le _ _))
      exact .inr ⟨q, rfl, Nat.lt_of_lt_of_le allowed.1 less, rfl⟩
    · exact .inl rfl

/-- The first stage is never the one to go off (R106). -/
theorem offCandidate_ne_base {q : Place} (candidate : z.offCandidate = some q) : q ≠ .stage 0 := by
  unfold Zone.offCandidate at candidate
  split at candidate
  · cases candidate
  · cases candidate
  · next notBase _ =>
    cases candidate
    exact notBase

theorem switchOff_isOn (q : Place) : (z.switchOff sg lz).isOn q = z.isOn q ∨ z.offCandidate = some q ∧ (z.switchOff sg lz).isOn q = false := by
  rcases switchOff_cases (z := z) (sg := sg) (lz := lz) with same | ⟨p, candidate, -, taken⟩
  · rw [same]
    exact .inl rfl
  · have set : (z.switchOff sg lz).isOn q = (z.setOn p false).isOn q := by
      rw [taken]
      cases q <;> rfl
    rw [set, Zone.isOn_setOn]
    split
    · next same => exact .inr ⟨same ▸ candidate, rfl⟩
    · exact .inl rfl

theorem switchOn_reserve (ineligible : eligible = false) : (z.switchOn sg groups eligible lz).onReserve = z.onReserve := by
  rw [switchOn_onSet.2, addStages_spec, ineligible]
  simp

/-- A reserve on after the selection is eligible (R103). -/
theorem selected_reserve (on : (z.selected sg groups eligible lz).onReserve = true) : eligible = true := by
  refine Classical.byContradiction fun off => ?_
  rw [Bool.not_eq_true] at off
  obtain ⟨shed, same, grown⟩ := selected_cases (z := z) (sg := sg) (groups := groups) (eligible := eligible) (lz := lz)
  by_cases sheds : z.onReserve = true ∧ eligible = false
  · rw [shed sheds, switchOn_reserve off] at on
    cases on
  · have dark : z.onReserve = false := Bool.eq_false_iff.mpr fun on => sheds ⟨on, off⟩
    by_cases stays : (z.switchOn sg groups eligible lz).sameOnSet z = true
    · rw [same sheds stays] at on
      rcases switchOff_isOn (z := z) (sg := sg) (lz := lz) .reserve with kept | ⟨-, taken⟩
      · exact absurd (on.symm.trans (kept.trans dark)) (by decide)
      · exact absurd (on.symm.trans taken) (by decide)
    · rw [grown sheds stays, switchOn_reserve off, dark] at on
      cases on

/-- Below the target everything is on that may be (R104, R106). -/
theorem selected_short (short : (z.selected sg groups eligible lz).sOn sg < lz) {q : Place × Fin 48} (placed : q ∈ z.places)
    (may : q.1 = .reserve → eligible = true) : (z.selected sg groups eligible lz).isOn q.1 = true := by
  obtain ⟨shed, same, grown⟩ := selected_cases (z := z) (sg := sg) (groups := groups) (eligible := eligible) (lz := lz)
  by_cases sheds : z.onReserve = true ∧ eligible = false
  · rw [shed sheds] at short ⊢
    exact switchOn_short short (by rwa [shedReserve_places]) may
  · by_cases stays : (z.switchOn sg groups eligible lz).sameOnSet z = true
    · rw [same sheds stays] at short ⊢
      rcases switchOff_cases (z := z) (sg := sg) (lz := lz) with kept | ⟨p, -, reached, -⟩
      · have unchanged := switchOn_unchanged stays
        rw [kept, ← unchanged] at short
        rw [kept, ← unchanged]
        exact switchOn_short short placed may
      · exact absurd short (Nat.not_lt.mpr (Nat.le_of_lt reached))
    · rw [grown sheds stays] at short ⊢
      exact switchOn_short short placed may

/-- What the selection takes off: an ineligible reserve, or else the candidate (R103, R106). -/
theorem selected_off {q : Place} (before : z.isOn q = true) (after : (z.selected sg groups eligible lz).isOn q = false) :
    (q = .reserve ∧ z.onReserve = true ∧ eligible = false) ∨ (z.offCandidate = some q ∧ ¬ (z.onReserve = true ∧ eligible = false)) := by
  obtain ⟨shed, same, grown⟩ := selected_cases (z := z) (sg := sg) (groups := groups) (eligible := eligible) (lz := lz)
  have grows (y : Zone) (on : y.isOn q = true) : (y.switchOn sg groups eligible lz).isOn q = true := growsTo_switchOn.on q on
  by_cases sheds : z.onReserve = true ∧ eligible = false
  · cases q with
    | reserve => exact .inl ⟨rfl, sheds⟩
    | stage n =>
      rw [shed sheds, grows (z.shedReserve sg) before] at after
      cases after
  · by_cases stays : (z.switchOn sg groups eligible lz).sameOnSet z = true
    · rw [same sheds stays] at after
      rcases switchOff_isOn (z := z) (sg := sg) (lz := lz) q with kept | ⟨candidate, -⟩
      · exact absurd (after.symm.trans (kept.trans before)) (by decide)
      · exact .inr ⟨candidate, sheds⟩
    · rw [grown sheds stays, grows z before] at after
      cases after

/-- At most one stage goes off in a selection (R107). -/
theorem selected_off_once {q o : Place} (onQ : z.isOn q = true) (offQ : (z.selected sg groups eligible lz).isOn q = false)
    (onO : z.isOn o = true) (offO : (z.selected sg groups eligible lz).isOn o = false) : q = o := by
  rcases selected_off onQ offQ with ⟨rfl, sheds⟩ | ⟨isQ, keeps⟩ <;> rcases selected_off onO offO with ⟨rfl, sheds'⟩ | ⟨isO, keeps'⟩
  · rfl
  · exact absurd sheds keeps'
  · exact absurd sheds' keeps
  · exact Option.some.inj (isQ.symm.trans isO)

/-- The first stage stays on (R106). -/
theorem selected_base (on : z.isOn (.stage 0) = true) : (z.selected sg groups eligible lz).isOn (.stage 0) = true := by
  refine Classical.byContradiction fun off => ?_
  rcases selected_off on (Bool.eq_false_iff.mpr off) with ⟨is, -⟩ | ⟨candidate, -⟩
  · cases is
  · exact offCandidate_ne_base candidate rfl

end

end Sys2Proof.Machine

/-! SUPPORT. A zone of the portal after a pass: its figures, selection, deficit and offers (R98 to R111, Table 6-4). -/

namespace Sys2Proof.Machine

set_option Elab.async false

/-! ### Output and eligibility -/

section
variable {s : State} {z : Zone} {sg : Fin 48 → Nat} {eligible : Bool}

/-- The eligible output of a zone is that of its stages and of an eligible reserve (R102). -/
theorem sAll_eq (few : z.stages.length ≤ 4) :
    z.sAll sg eligible = (z.stages.map sg).sum + (if eligible then (z.reserve.toList.map sg).sum else 0) := by
  unfold Zone.sAll
  rw [eligiblePlaces_eq, List.map_append, List.sum_append]
  refine congr (congrArg HAdd.hAdd (congrArg List.sum ?_)) ?_
  · have slots : (fun n : Fin 4 => Option.map (fun p : Place × Fin 48 => sg p.2) (Option.map (fun g => (Place.stage n, g)) z.stages[n.val]?))
        = fun n : Fin 4 => Option.map sg z.stages[n.val]? := by
      funext n
      cases z.stages[n.val]? <;> rfl
    rw [List.map_filterMap, slots, ← List.map_filterMap, filterMap_getElem?_eq_take, List.take_of_length_le few]
  · cases eligible <;> cases z.reserve <;> rfl

/-- A reserve is eligible while a listed driver of a stage is ailing (R101). -/
theorem reserveEligible_iff : s.reserveEligible z = true ↔ z.reserve.isSome = true ∧ ∃ g ∈ z.stages, ∃ d : Fin 160, s.drivers[d].used = true
    ∧ s.drivers[d].group = g ∧ (s.drivers[d].state = .degraded ∨ s.drivers[d].state = .failed ∨ s.drivers[d].state = .absent) := by
  unfold State.reserveEligible State.listedStates State.listed
  simp only [List.any_map, Bool.and_eq_true, List.any_eq_true, List.mem_filter, List.mem_finRange, true_and, beq_iff_eq,
    Function.comp_apply, DriverState.ailing_iff, and_assoc]

end

/-! ### Selection, target and deficit of one zone -/

/-- What a pass makes of the zone `x`, which becomes `y`, from its target, its figures and its reserve's eligibility (Table 6-4). -/
structure Restaged (x y : Zone) (sg : Fin 48 → Nat) (groups : Vector Group 48) (eligible : Bool) (lz : Nat) : Prop where
  record : y = { x with lz := some lz, reserveEligible := eligible, onStages := y.onStages, onReserve := y.onReserve, dCmd := y.dCmd,
                        dTarget := y.dTarget, deficit := y.deficit, deficitAmount := y.deficitAmount }
  deficit : y.deficit = decide (y.sAll sg eligible < lz)
  amount : y.deficitAmount = if y.sAll sg eligible < lz then lz - y.sAll sg eligible else 0
  onSet : x.override = none → y.onStages = (x.selected sg groups eligible lz).onStages
    ∧ y.onReserve = (x.selected sg groups eligible lz).onReserve ∧ y.dCmd = (x.selected sg groups eligible lz).dCmd
  level : x.override = none → y.dTarget = some (y.levelTarget sg groups lz)
  held : x.override ≠ none → y.onStages = x.onStages ∧ y.onReserve = x.onReserve ∧ y.dCmd = x.dCmd ∧ y.dTarget = x.dTarget

section
variable {x y : Zone} {sg sg' : Fin 48 → Nat} {groups groups' : Vector Group 48} {eligible : Bool} {lz : Nat}

/-- The zone that step 4 chooses, given its target and its reserve's eligibility. -/
def Zone.choice (x : Zone) (sg : Fin 48 → Nat) (groups : Vector Group 48) (eligible : Bool) (lz : Nat) : Zone :=
  if (x.override).isNone then (x.retargeted (some lz) eligible).selectAuto sg groups eligible lz else x.retargeted (some lz) eligible

theorem choice_of_none (free : x.override = none) : x.choice sg groups eligible lz = { (x.selected sg groups eligible lz).retargeted (some lz) eligible with
    dTarget := some (((x.selected sg groups eligible lz).retargeted (some lz) eligible).levelTarget sg groups lz) } := by
  unfold Zone.choice
  rw [if_pos (by rw [free]; rfl), selectAuto_eq, selected_retargeted]

theorem choice_of_some (held : x.override ≠ none) : x.choice sg groups eligible lz = x.retargeted (some lz) eligible :=
  if_neg fun free => held (Option.isNone_iff_eq_none.mp free)

theorem restaged_choice : Restaged x ((x.choice sg groups eligible lz).judged lz ((x.choice sg groups eligible lz).sAll sg eligible))
    sg groups eligible lz where
  record := by
    by_cases free : x.override = none
    · rw [choice_of_none free, selected_kept]
      rfl
    · rw [choice_of_some free]
      rfl
  deficit := rfl
  amount := by
    unfold Zone.judged
    simp only [decide_eq_true_eq]
    rfl
  onSet free := by
    rw [choice_of_none free]
    exact ⟨rfl, rfl, rfl⟩
  level free := by
    rw [choice_of_none free]
    rfl
  held held := by
    rw [choice_of_some held]
    exact ⟨rfl, rfl, rfl, rfl⟩

theorem Restaged.places (h : Restaged x y sg groups eligible lz) : y.places = x.places := by
  rw [h.record]
  exact Zone.places_congr rfl rfl

/-- The figures and minimum levels of the zone's own slots are all that count. -/
theorem Restaged.congr (h : Restaged x y sg groups eligible lz) (figures : x.sameFigures sg sg') (minima : x.sameMinima groups groups') :
    Restaged x y sg' groups' eligible lz := by
  have output := sAll_congr eligible (sameFigures_of_places h.places figures)
  have chosen := selected_congr (eligible := eligible) (lz := lz) figures minima
  have target := levelTarget_congr lz (sameFigures_of_places h.places figures) (sameMinima_of_places h.places minima)
  exact ⟨h.record, output ▸ h.deficit, output ▸ h.amount, chosen ▸ h.onSet, target ▸ h.level, h.held⟩

end

/-! ### Steps 1 to 3 keep what step 4 reads -/

section
variable {s : State} {p : Fin 4} {atHold immediate : Bool} {z : Fin 32} {g : Fin 48} {place : Place}

theorem aimedZones_drivers (s : State) (p : Fin 4) (atHold : Bool) : (s.aimedZones p atHold).drivers = s.drivers :=
  (congrArg (fun u : State => u.drivers) (exceptLuminance_passSteps s p atHold) :)

theorem aimedZones_now (s : State) (p : Fin 4) (atHold : Bool) : (s.aimedZones p atHold).now = s.now :=
  (congrArg (fun u : State => u.now) (exceptLuminance_passSteps s p atHold) :)

theorem aimedZones_figure (s : State) (p : Fin 4) (atHold : Bool) : (s.aimedZones p atHold).figure = s.figure :=
  funext fun g => figure_congr (aimedZones_drivers s p atHold) (by rw [aimedZones_groups])

theorem Regular.aimedZones (s : State) (p : Fin 4) (atHold : Bool) : Regular s (s.aimedZones p atHold) :=
  (Regular.passStep1 s p atHold).trans ((Regular.passStep2 _ p).trans (.passStep3 _ p))

theorem Grown.aimedZones (s : State) (p : Fin 4) (atHold : Bool) : Grown s (s.aimedZones p atHold) :=
  ⟨(Regular.aimedZones s p atHold).1.leads, (congrArg (fun u : State => u.device) (exceptLuminance_passSteps s p atHold) :),
    (congrArg (fun u : State => u.addrPins) (exceptLuminance_passSteps s p atHold) :)⟩

/-- The target step 3 gives a zone of the portal (R84). -/
def State.targetIn (s : State) (p : Fin 4) (atHold : Bool) (z : Fin 32) : Nat :=
  targetOf (((s.passed p s.portals[p] atHold).lth).getD 0) s.zones[z].ratio (s.passed p s.portals[p] atHold).ceiling
    (s.passed p s.portals[p] atHold).interior

theorem aimedZones_in (here : s.zones[z].used = true ∧ s.zones[z].portal = p) :
    (s.aimedZones p atHold).zones[z] = { s.zones[z] with lz := some (s.targetIn p atHold z) } := by
  rw [aimedZones_zone, if_pos here]
  rfl

theorem mem_portalZones_aimedZones : z ∈ (s.aimedZones p atHold).portalZones p ↔ z ∈ s.portalZones p := by
  have position : ((s.aimedZones p atHold).zones[z]).position = (s.zones[z]).position := by
    rw [aimedZones_zone]
    split <;> rfl
  obtain ⟨used, portal, -⟩ := aimedZones_kept s p atHold z
  rw [mem_portalZones, mem_portalZones, used, portal, position]

theorem portal_of_portalZones {t : State} : ∀ i ∈ t.portalZones p, (t.zones[i]).portal = p := fun _ member => (mem_portalZones.mp member).2.1

theorem used_of_portalZones {t : State} : ∀ i ∈ t.portalZones p, (t.zones[i]).used = true := fun _ member => (mem_portalZones.mp member).1

/-! ### One zone after the whole pass -/

theorem chosen_retargeted (here : s.zones[z].used = true ∧ s.zones[z].portal = p) :
    (s.aimedZones p atHold).aimed z = (s.zones[z]).retargeted (some (s.targetIn p atHold z)) (s.reserveEligible s.zones[z]) := by
  unfold State.aimed
  rw [aimedZones_in here, reserveEligible_congr (aimedZones_drivers s p atHold)]
  rfl

theorem aimedZones_eligible (here : s.zones[z].used = true ∧ s.zones[z].portal = p) :
    (s.aimedZones p atHold).reserveEligible ((s.aimedZones p atHold).zones[z]) = s.reserveEligible s.zones[z] := by
  rw [aimedZones_in here, reserveEligible_congr (aimedZones_drivers s p atHold)]
  rfl

theorem aimedZones_aim (here : s.zones[z].used = true ∧ s.zones[z].portal = p) :
    (s.aimedZones p atHold).aim z = s.targetIn p atHold z := by
  unfold State.aim
  rw [aimedZones_in here]
  rfl

/-- The zone that step 4 of the pass chooses, from the zone before the pass. -/
theorem aimedZones_chosen (here : s.zones[z].used = true ∧ s.zones[z].portal = p) : (s.aimedZones p atHold).chosen z
    = (s.zones[z]).choice s.figure s.groups (s.reserveEligible s.zones[z]) (s.targetIn p atHold z) := by
  have override : ((s.aimedZones p atHold).zones[z]).override = (s.zones[z]).override := by rw [aimedZones_in here]
  unfold State.chosen Zone.choice
  rw [chosen_retargeted here, override, aimedZones_eligible here, aimedZones_figure, aimedZones_groups, aimedZones_aim here]

theorem aimedZones_staged (here : s.zones[z].used = true ∧ s.zones[z].portal = p) :
    Restaged s.zones[z] ((s.aimedZones p atHold).staged z) s.figure s.groups (s.reserveEligible s.zones[z]) (s.targetIn p atHold z) := by
  unfold State.staged State.reachable_output
  rw [aimedZones_chosen here, aimedZones_eligible here, aimedZones_figure, aimedZones_aim here]
  exact restaged_choice

/-- What a pass of portal `p` makes of its zone `z` (R98 to R110). -/
structure PassedZone (s t : State) (p : Fin 4) (z : Fin 32) (lz : Nat) : Prop where
  restaged : Restaged s.zones[z] t.zones[z] t.sg t.groups (s.reserveEligible s.zones[z]) lz
  figures : ∀ g ∈ (s.zones[z]).standing, t.groups[g].mf = some s.groups[g].maintenance ∧ t.groups[g].sg = some (s.figure g)
  onset : (t.zones[z]).deficit = true → (s.zones[z]).deficit = false → t.portalFlags[p].getLsbD 4 = true
    ∧ s.alerted t s.device.portalAlert[p] 20 (BitVec.ofNat 8 z.val) (lz - (t.zones[z]).sAll t.sg (s.reserveEligible s.zones[z]))
  ended : (t.zones[z]).deficit = false → (s.zones[z]).deficit = true → s.alerted t s.device.portalAlert[p] 21 (BitVec.ofNat 8 z.val) 0

/-- Step 4 from a state that has the zones' targets already, read from the state before. -/
theorem passedZone_of_staged {w t : State} {lz : Nat} (staged : StagedIn w t p z) (grown : Grown s w) (groups : w.groups = s.groups)
    (figure : w.figure = s.figure) (zone : w.zones[z] = { s.zones[z] with lz := some lz })
    (eligible : w.reserveEligible w.zones[z] = s.reserveEligible s.zones[z])
    (restaged : Restaged s.zones[z] (w.staged z) s.figure s.groups (s.reserveEligible s.zones[z]) lz) : PassedZone s t p z lz := by
  have standing : (w.zones[z]).standing = (s.zones[z]).standing := by rw [zone]; rfl
  have deficit : (w.zones[z]).deficit = (s.zones[z]).deficit := by rw [zone]
  have aim : w.aim z = lz := by
    unfold State.aim
    rw [zone]
    rfl
  have unstaged (g : Fin 48) : t.groups[g].unstaged = s.groups[g].unstaged := by
    rw [unstaged_of_exceptStaging staged.wiped, groups]
  have figure' : t.figure = s.figure := (figures_of_exceptStaging staged.wiped).trans figure
  have kept (g : Fin 48) (stands : g ∈ (s.zones[z]).standing) : t.keepsFigures g := staged.figures g (by rw [standing]; exact stands)
  have same : (s.zones[z]).sameFigures s.figure t.sg := fun q placed => by
    rw [sg_of_keepsFigures (kept q.2 (standing_of_places (q := q.1) placed)), figure']
  have restaged' := restaged.congr same (sameMinima_of_unstaged fun g => (unstaged g).symm)
  have output : w.reachable_output z = (w.staged z).sAll t.sg (s.reserveEligible s.zones[z]) := by
    rw [← sAll_congr _ (sameFigures_of_places restaged.places same)]
    unfold State.reachable_output
    rw [eligible, figure]
    rfl
  constructor
  case restaged =>
    rw [staged.zone]
    exact restaged'
  case figures =>
    intro g stands
    obtain ⟨mf, sg⟩ := kept g stands
    have maintenance : t.groups[g].maintenance = s.groups[g].maintenance := (congrArg Group.maintenance (unstaged g) :)
    rw [maintenance] at mf
    rw [figure'] at sg
    exact ⟨mf, sg⟩
  case onset =>
    intro now before
    rw [staged.zone] at now ⊢
    obtain ⟨flag, said⟩ := staged.onset now (deficit.trans before)
    rw [aim, output, grown.device] at said
    exact ⟨flag, alerted_of_later grown said⟩
  case ended =>
    intro now before
    rw [staged.zone] at now
    have said := staged.ended now (deficit.trans before)
    rw [grown.device] at said
    exact alerted_of_later grown said

theorem pass_stagedIn (listed : z ∈ s.portalZones p) : StagedIn (s.aimedZones p atHold) (s.pass p atHold immediate) p z := by
  rw [pass_eq]
  exact stagedIn_fold (nodup_portalZones _ p) (mem_portalZones_aimedZones.mpr listed) portal_of_portalZones

theorem pass_zone (listed : z ∈ s.portalZones p) : PassedZone s (s.pass p atHold immediate) p z (s.targetIn p atHold z) := by
  obtain ⟨used, portal, -⟩ := mem_portalZones.mp listed
  have here := And.intro used portal
  exact passedZone_of_staged (pass_stagedIn listed) (.aimedZones s p atHold) (aimedZones_groups s p atHold) (aimedZones_figure s p atHold)
    (aimedZones_in here) (aimedZones_eligible here) (aimedZones_staged here)

/-- The offers of a zone's selection, read from the zone before and after the pass. -/
theorem offers_of_staged {w t : State} {lz : Nat} (zone' : t.zones[z] = w.staged z) (groups : w.groups = s.groups) (now : w.now = s.now)
    (zone : w.zones[z] = { s.zones[z] with lz := some lz })
    (offered : s.offeredWhen t ((w.zones[z]).override = none ∧ (handoverOffers (w.aimed z) (w.chosen z) immediate).test place w.now w.groups[g] = true)
      g ((handoverOffers (w.aimed z) (w.chosen z) immediate).level place w.groups[g]) .autoManual w.now) :
    s.offeredWhen t ((s.zones[z]).override = none ∧ s.groups[g].owner = .part ∧ (immediate = true
        ∨ (¬ (t.zones[z]).sameOnSet s.zones[z] = true
          ∧ s.groups[g].levelAt ((t.zones[z]).isOn place) (t.zones[z]).dCmd ≠ s.groups[g].levelAt ((s.zones[z]).isOn place) (s.zones[z]).dCmd)))
      g (s.groups[g].levelAt ((t.zones[z]).isOn place) (t.zones[z]).dCmd) .autoManual s.now := by
  have isOn (q : Place) : (w.staged z).isOn q = (w.chosen z).isOn q := by cases q <;> rfl
  have isOnBefore (q : Place) : (w.aimed z).isOn q = (s.zones[z]).isOn q := by
    unfold State.aimed
    rw [zone]
    cases q <;> rfl
  have dCmd : (w.staged z).dCmd = (w.chosen z).dCmd := rfl
  have before : (w.aimed z).dCmd = (s.zones[z]).dCmd ∧ (w.chosen z).sameOnSet (w.aimed z) = (w.staged z).sameOnSet s.zones[z] := by
    unfold State.aimed
    rw [zone]
    exact ⟨rfl, rfl⟩
  have override : (w.zones[z]).override = (s.zones[z]).override := by rw [zone]
  unfold handoverOffers at offered
  dsimp only at offered
  rw [groups, now, override, decide_eq_true_eq, ← isOn, isOnBefore, ← dCmd, before.1, before.2] at offered
  rw [zone']
  exact offered

/-- What a pass offers for a group of one slot of its portal (R108, R111). -/
theorem pass_offered (listed : z ∈ s.portalZones p) (sound : s.queuesSound) (one : s.slotCount g = 1) (placed : (place, g) ∈ (s.zones[z]).places) :
    s.offeredWhen (s.pass p atHold immediate)
      ((s.zones[z]).override = none ∧ s.groups[g].owner = .part ∧ (immediate = true
        ∨ (¬ ((s.pass p atHold immediate).zones[z]).sameOnSet s.zones[z] = true
          ∧ s.groups[g].levelAt (((s.pass p atHold immediate).zones[z]).isOn place) ((s.pass p atHold immediate).zones[z]).dCmd
            ≠ s.groups[g].levelAt ((s.zones[z]).isOn place) (s.zones[z]).dCmd)))
      g (s.groups[g].levelAt (((s.pass p atHold immediate).zones[z]).isOn place) ((s.pass p atHold immediate).zones[z]).dCmd)
      .autoManual s.now := by
  obtain ⟨used, portal, -⟩ := mem_portalZones.mp listed
  have here := And.intro used portal
  have slots : (s.aimedZones p atHold).slotCount g = 1 := by
    rw [← one]
    unfold State.slotCount
    refine congrArg List.sum (List.map_congr_left fun i _ => ?_)
    obtain ⟨usedI, -, standing⟩ := aimedZones_kept s p atHold i
    rw [usedI, standing]
  have places : ((s.aimedZones p atHold).zones[z]).places = (s.zones[z]).places := by
    rw [aimedZones_in here]
    exact Zone.places_congr rfl rfl
  have offered := stagedIn_offered (s := s.aimedZones p atHold) (b := immediate) (nodup_portalZones _ p)
    (mem_portalZones_aimedZones.mpr listed) used_of_portalZones ((Unoffered.passSteps g s p atHold).sound sound) slots (place := place)
    (by rw [places]; exact placed)
  rw [← pass_eq] at offered
  exact offers_of_staged (pass_stagedIn listed).zone (aimedZones_groups s p atHold) (aimedZones_now s p atHold) (aimedZones_in here)
    (offeredWhen_between (Unoffered.passSteps g s p atHold) offered (.refl g _) ((Regular.pass s p atHold immediate).2 sound))

end

end Sys2Proof.Machine

/-! SUPPORT. The stages of each zone after a pass: O32 (R98 to R111, Table 6-4). -/

namespace Sys2Proof.Machine

set_option Elab.async false

section
variable {x y : Zone} {sg : Fin 48 → Nat} {groups : Vector Group 48} {eligible : Bool} {lz : Nat}

theorem Restaged.eligibleIs (h : Restaged x y sg groups eligible lz) : y.reserveEligible = eligible := by rw [h.record]

theorem Restaged.lzIs (h : Restaged x y sg groups eligible lz) : y.lz = some lz := by rw [h.record]

theorem Restaged.standing (h : Restaged x y sg groups eligible lz) : y.standing = x.standing := by
  rw [h.record]
  rfl

theorem Restaged.selectedFrom (h : Restaged x y sg groups eligible lz) (free : x.override = none) : y.selectedFrom x sg groups lz := by
  obtain ⟨stages, reserve, level⟩ := h.onSet free
  exact selectedFrom_of_selected h.eligibleIs stages reserve level

theorem Restaged.isOn (h : Restaged x y sg groups eligible lz) (free : x.override = none) (q : Place) :
    y.isOn q = (x.selected sg groups eligible lz).isOn q := by
  obtain ⟨stages, reserve, -⟩ := h.onSet free
  exact isOn_of_onSet stages reserve q

theorem Restaged.sOn (h : Restaged x y sg groups eligible lz) (free : x.override = none) : y.sOn sg = (x.selected sg groups eligible lz).sOn sg := by
  obtain ⟨stages, reserve, -⟩ := h.onSet free
  exact sOn_of_onSet stages reserve (h.places.trans selected_places.symm)

/-- The selection of a zone under AUTO: what is on, what went off, and the level aimed at (R102 to R109). -/
theorem Restaged.selection (h : Restaged x y sg groups eligible lz) (free : x.override = none) :
    y.selectedFrom x sg groups lz
      ∧ y.dTarget = some (if y.sOn sg = 0 then 1000 else min 1000 (max (y.dminOn groups) (ceilDiv (lz * 1000) (y.sOn sg))))
      ∧ (y.onReserve = true → y.reserve.isSome = true → y.reserveEligible = true)
      ∧ (y.sOn sg < lz → ∀ q ∈ y.places, (q.1 = .reserve → y.reserveEligible = true) → y.isOn q.1 = true)
      ∧ (∀ q o, x.isOn q = true → y.isOn q = false → x.isOn o = true → y.isOn o = false → q = o)
      ∧ (x.isOn (.stage 0) = true → y.isOn (.stage 0) = true) := by
  have isOn := h.isOn free
  refine ⟨h.selectedFrom free, h.level free, fun on _ => ?_, fun short q placed may => ?_, fun q o onQ offQ onO offO => ?_, fun on => ?_⟩
  · rw [h.eligibleIs]
    exact selected_reserve ((h.onSet free).2.1.symm.trans on)
  · rw [h.sOn free] at short
    rw [h.places] at placed
    rw [h.eligibleIs] at may
    rw [isOn]
    exact selected_short short placed may
  · rw [isOn] at offQ offO
    exact selected_off_once onQ offQ onO offO
  · rw [isOn]
    exact selected_base on

end

/-! ### The pass of a pass timer -/

section
variable {s : State} {p : Fin 4} {e : Time} {z : Fin 32} {f : Portal → Portal}

theorem passExpiry_eq (runs : s.portals[p].passTimer = some e) : s.passExpiry p
    = (s.timedOut p e fun r => { r with passTimer := some (max s.now e + r.passPeriod * secTicks) }).pass p false false := by
  unfold State.passExpiry
  rw [runs]
  rfl

theorem timedOut_zone (listed : z ∈ s.portalZones p) :
    PassedZone s ((s.timedOut p e f).pass p false false) p z ((s.timedOut p e f).targetIn p false z) := by
  have portals : (s.timedOut p e f).portalZones p = s.portalZones p := portalZones_congr rfl p
  obtain ⟨restaged, figures, onset, ended⟩ := pass_zone (s := s.timedOut p e f) (atHold := false) (immediate := false) (portals ▸ listed)
  exact ⟨restaged, figures, onset, ended⟩

/-- The offers of a timer's pass, its conditions in the words of the manual (R108). -/
theorem timedOut_offered {place : Place} {g : Fin 48} (listed : z ∈ s.portalZones p) (sound : s.queuesSound) (one : s.slotCount g = 1)
    (placed : (place, g) ∈ (s.zones[z]).places) : s.offeredWhen ((s.timedOut p e f).pass p false false)
      ((s.zones[z]).override = none ∧ s.groups[g].owner = .part ∧ (false = true
        ∨ (¬ (((s.timedOut p e f).pass p false false).zones[z]).sameOnSet s.zones[z] = true
          ∧ s.groups[g].levelAt ((((s.timedOut p e f).pass p false false).zones[z]).isOn place) (((s.timedOut p e f).pass p false false).zones[z]).dCmd
            ≠ s.groups[g].levelAt ((s.zones[z]).isOn place) (s.zones[z]).dCmd)))
      g (s.groups[g].levelAt ((((s.timedOut p e f).pass p false false).zones[z]).isOn place) (((s.timedOut p e f).pass p false false).zones[z]).dCmd)
      .autoManual (max s.now e) := by
  have portals : (s.timedOut p e f).portalZones p = s.portalZones p := portalZones_congr rfl p
  exact pass_offered (s := s.timedOut p e f) (atHold := false) (immediate := false) (portals ▸ listed) sound one placed

end

/-- Settles O32: step 4 works zone by zone and its figures stay, so each zone of the portal is as its own step made it. -/
theorem passSelectsStages : Obligations.PassSelectsStages := by
  unfold Obligations.PassSelectsStages
  intro p e s live sound runs
  refine ⟨_, whenLive_of_live live (·.passExpiry p), fun z used here => ?_⟩
  have listed := (mem_portalZones_of_sound sound).mpr ⟨used, here⟩
  have passed := timedOut_zone (e := e) (f := fun r => { r with passTimer := some (max s.now e + r.passPeriod * secTicks) }) listed
  have offers (queues : s.queuesSound) (place : Place) (g : Fin 48) (one : s.slotCount g = 1) (placed : (place, g) ∈ (s.zones[z]).places) :=
    timedOut_offered (e := e) (f := fun r => { r with passTimer := some (max s.now e + r.passPeriod * secTicks) }) listed queues one placed
  rw [← passExpiry_eq runs] at passed
  simp only [← passExpiry_eq runs] at offers
  generalize State.targetIn _ p false z = lz at passed
  have restaged := passed.restaged
  have few : ((s.passExpiry p).zones[z]).stages.length ≤ 4 := by
    obtain ⟨-, -, -, -, zones, -⟩ := sound
    rw [restaged.record]
    exact (zones z).2.1
  intro x y lz' sOn sAll
  have isLz : lz' = lz := by
    unfold lz' y
    rw [restaged.lzIs]
    rfl
  have isAll : sAll = y.sAll (s.passExpiry p).sg (s.reserveEligible x) := by
    unfold sAll y
    rw [restaged.eligibleIs, ← sAll_eq few]
  rw [isLz, isAll]
  refine ⟨fun g stands => passed.figures g (by rw [← restaged.standing]; exact stands), ?_, restaged.deficit, restaged.amount, fun short before => ?_,
    fun enough before => ?_, restaged.selection, restaged.held, fun queues place g placed one => ?_⟩
  · unfold y
    rw [restaged.eligibleIs, reserveEligible_iff, restaged.record]
  · exact passed.onset (restaged.deficit.trans (decide_eq_true short)) before
  · exact passed.ended (restaged.deficit.trans (decide_eq_false (Nat.not_lt.mpr enough))) before
  · rw [restaged.places] at placed
    have offered := offers queues place g one placed
    simp only [levelAt_eq, sameOnSet_iff, Bool.false_eq_true, false_or, Classical.not_and_iff_not_or_not] at offered
    exact offered

end Sys2Proof.Machine

/-! SUPPORT. A portal's start: its record, its zones, its offers, and what it leaves alone (R79, R152). -/

namespace Sys2Proof.Machine

set_option Elab.async false

/-! ### The record of a portal that starts -/

/-- The record `q` of a portal that started from `r` at `now`, its sensors' medians as given (R79 to R82). -/
structure Portal.StartedFrom (r q : Portal) (main reserve : Option Nat) (now : Time) : Prop where
  state : q.state = (if main = none ∧ reserve = none then .fallback else .tracking)
  lost : main = none → reserve = none → q.la = some r.fallbackLuminance
  two : ∀ a b, main = some a → reserve = some b → q.la = some (max a b)
  one : ∀ a, (main = some a ∧ reserve = none) ∨ (main = none ∧ reserve = some a) → q.la = some a
  speed : q.speed = r.initialSpeed
  traffic : q.traffic = r.initialTraffic
  override : q.override = none
  holdTimer : q.holdTimer = none
  passTimer : q.passTimer = some (now + r.passPeriod * secTicks)
  rampTimer : q.rampTimer = some (now + r.rampPeriod * msTicks)

/-- The record of a portal that starts at `now`, with its threshold. -/
def Portal.startedWith (r : Portal) (main reserve : Option Nat) (lth : Option Nat) (now : Time) : Portal :=
  ({ r.started.afterStep1 main reserve false now with lth := lth }).timed now

theorem startedFrom_startedWith (r : Portal) (main reserve lth : Option Nat) (now : Time) :
    r.StartedFrom (r.startedWith main reserve lth now) main reserve now := by
  unfold Portal.startedWith
  cases main with
  | none =>
    cases reserve with
    | none => exact ⟨rfl, fun _ _ => rfl, nofun, nofun, rfl, rfl, rfl, rfl, rfl, rfl⟩
    | some b =>
      refine ⟨rfl, nofun, nofun, fun a one => ?_, rfl, rfl, rfl, rfl, rfl, rfl⟩
      rcases one with ⟨is, -⟩ | ⟨-, is⟩
      · cases is
      · cases is
        rfl
  | some a =>
    cases reserve with
    | none =>
      refine ⟨rfl, nofun, nofun, fun a one => ?_, rfl, rfl, rfl, rfl, rfl, rfl⟩
      rcases one with ⟨is, -⟩ | ⟨is, -⟩
      · cases is
        rfl
      · cases is
    | some b =>
      refine ⟨rfl, nofun, fun a b isA isB => ?_, fun a one => ?_, rfl, rfl, rfl, rfl, rfl, rfl⟩
      · cases isA
        cases isB
        rfl
      · exact one.elim (fun both => nomatch both.2) fun both => nomatch both.1

section
variable {s t u : State} {p q : Fin 4} {z : Fin 32} {g : Fin 48}

theorem startPortal_record (s : State) (p : Fin 4) : (s.portals[p]).StartedFrom (s.startPortal p).portals[p]
    (s.validMedian s.portals[p].mainSensor) (s.portals[p].reserveSensor.bind s.validMedian) s.now := by
  rw [startPortal_portals, updAt_same]
  exact startedFrom_startedWith _ _ _ _ _

/-! ### The rest of a start is its pass -/

theorem startPortal_pass (s : State) (p : Fin 4) :
    (s.startPortal p).zones = ((s.begun p).pass p false true).zones ∧ (s.startPortal p).groups = ((s.begun p).pass p false true).groups
      ∧ (s.startPortal p).fQueue = ((s.begun p).pass p false true).fQueue := by
  rw [startPortal_eq]
  exact ⟨State.mapPortal_zones _ _ _, State.mapPortal_groups _ _ _, State.mapPortal_fQueue _ _ _⟩

theorem begun_zone (s : State) (p : Fin 4) (z : Fin 32) :
    (s.begun p).zones[z] = if s.zones[z].used = true ∧ s.zones[z].portal = p then (s.zones[z]).started else s.zones[z] := by
  unfold State.begun
  dsimp only
  rw [updAll_get]
  simp only [Bool.and_eq_true, beq_iff_eq]

theorem begun_kept (s : State) (p : Fin 4) (z : Fin 32) : ((s.begun p).zones[z]).used = (s.zones[z]).used
    ∧ ((s.begun p).zones[z]).portal = (s.zones[z]).portal ∧ ((s.begun p).zones[z]).standing = (s.zones[z]).standing
    ∧ ((s.begun p).zones[z]).position = (s.zones[z]).position := by
  rw [begun_zone]
  split <;> exact ⟨rfl, rfl, rfl, rfl⟩

theorem begun_groups (s : State) (p : Fin 4) : (s.begun p).groups = s.groups := by simp only [State.begun, State.mapPortal_groups]

theorem begun_fQueue (s : State) (p : Fin 4) : (s.begun p).fQueue = s.fQueue := by simp only [State.begun, State.mapPortal_fQueue]

theorem begun_slotCount (s : State) (p : Fin 4) (g : Fin 48) : (s.begun p).slotCount g = s.slotCount g := by
  unfold State.slotCount
  refine congrArg List.sum (List.map_congr_left fun i _ => ?_)
  obtain ⟨used, -, standing, -⟩ := begun_kept s p i
  rw [used, standing]

theorem Regular.begun (s : State) (p : Fin 4) : Regular s (s.begun p) := (Regular.mapPortal s p _).trans (.withZones _ _)

theorem Unoffered.begun (g : Fin 48) (s : State) (p : Fin 4) : Unoffered g s (s.begun p) :=
  .of_same (.begun s p) (begun_fQueue s p) (by
    unfold State.noLevelOffered
    rw [begun_groups]
    exact ⟨rfl, rfl, rfl, rfl⟩)

theorem Unoffered.congr {t' : State} (h : Unoffered g s t) (groups : t'.groups = t.groups) (queue : t'.fQueue = t.fQueue)
    (regular : Regular s t') : Unoffered g s t' := by
  obtain ⟨group, entries, length, -⟩ := h
  refine ⟨?_, ?_, ?_, regular.2⟩
  · unfold State.noLevelOffered
    rw [groups]
    exact group
  · rw [queue]
    exact entries
  · rw [queue]
    exact length

/-! ### What a start leaves alone -/

/-- The group stands in zones of the portal only. -/
def State.onlyIn (s : State) (g : Fin 48) (p : Fin 4) : Prop := ∀ z : Fin 32, s.zones[z].used = true → g ∈ (s.zones[z]).standing → s.zones[z].portal = p

/-- The portal's own affairs are as they were: its record, its zones, the groups that stand there alone. -/
structure Apart (p : Fin 4) (s t : State) : Prop where
  portal : t.portals[p] = s.portals[p]
  zone : ∀ z : Fin 32, s.zones[z].portal = p → t.zones[z] = s.zones[z]
  kept : ∀ z : Fin 32, t.zones[z].used = s.zones[z].used ∧ t.zones[z].portal = s.zones[z].portal ∧ (t.zones[z]).standing = (s.zones[z]).standing
  group : ∀ g, s.onlyIn g p → t.groups[g] = s.groups[g] ∧ Unoffered g s t
  sound : s.queuesSound → t.queuesSound
  rest : t.exceptRegulation = s.exceptRegulation

theorem Apart.refl (p : Fin 4) (s : State) : Apart p s s :=
  ⟨rfl, fun _ _ => rfl, fun _ => ⟨rfl, rfl, rfl⟩, fun g _ => ⟨rfl, .refl g s⟩, id, rfl⟩

theorem Apart.onlyIn (h : Apart p s t) (only : s.onlyIn g p) : t.onlyIn g p := fun z used stands => by
  obtain ⟨isUsed, portal, standing⟩ := h.kept z
  rw [isUsed] at used
  rw [standing] at stands
  rw [portal]
  exact only z used stands

theorem Apart.trans (h : Apart p s t) (h' : Apart p t u) : Apart p s u where
  portal := h'.portal.trans h.portal
  zone z here := (h'.zone z ((h.kept z).2.1.trans here)).trans (h.zone z here)
  kept z := by
    obtain ⟨used, portal, standing⟩ := h.kept z
    obtain ⟨used', portal', standing'⟩ := h'.kept z
    exact ⟨used'.trans used, portal'.trans portal, standing'.trans standing⟩
  group g only := by
    obtain ⟨group, unoffered⟩ := h.group g only
    obtain ⟨group', unoffered'⟩ := h'.group g (h.onlyIn only)
    exact ⟨group'.trans group, unoffered.trans unoffered'⟩
  sound sound := h'.sound (h.sound sound)
  rest := h'.rest.trans h.rest

theorem pass_zone_kept (s : State) (p : Fin 4) (atHold immediate : Bool) (z : Fin 32) :
    ((s.pass p atHold immediate).zones[z]).used = (s.zones[z]).used ∧ ((s.pass p atHold immediate).zones[z]).portal = (s.zones[z]).portal
      ∧ ((s.pass p atHold immediate).zones[z]).standing = (s.zones[z]).standing
      ∧ ((s.pass p atHold immediate).zones[z]).override = (s.zones[z]).override := by
  have staged (t : State) (i : Fin 32) : (((t.stageZone i immediate).zones[z]).used, ((t.stageZone i immediate).zones[z]).portal,
      ((t.stageZone i immediate).zones[z]).standing, ((t.stageZone i immediate).zones[z]).override)
      = ((t.zones[z]).used, (t.zones[z]).portal, (t.zones[z]).standing, (t.zones[z]).override) := by
    rw [stageZone_zones, updAt_get]
    split
    · next same =>
      subst same
      rw [staged_kept]
      rfl
    · rfl
  have whole := foldl_keeps (fun t : State => ((t.zones[z]).used, (t.zones[z]).portal, (t.zones[z]).standing, (t.zones[z]).override)) _ staged
    ((s.aimedZones p atHold).portalZones p) (s.aimedZones p atHold)
  rw [← pass_eq] at whole
  obtain ⟨used, portal, standing⟩ := aimedZones_kept s p atHold z
  have override : ((s.aimedZones p atHold).zones[z]).override = (s.zones[z]).override := by
    rw [aimedZones_zone]
    split <;> rfl
  simp only [Prod.mk.injEq] at whole
  obtain ⟨used', portal', standing', override'⟩ := whole
  exact ⟨used'.trans used, portal'.trans portal, standing'.trans standing, override'.trans override⟩

theorem Unoffered.pass_absent {atHold immediate : Bool} (absent : ∀ z : Fin 32, s.zones[z].used = true → s.zones[z].portal = p → g ∉ (s.zones[z]).standing) :
    Unoffered g s (s.pass p atHold immediate) := by
  rw [pass_eq]
  have steps : Unoffered g s (s.aimedZones p atHold) := .passSteps g s p atHold
  refine steps.trans ((zoneWork_stageZone immediate).group_fold fun i member => ?_).2
  obtain ⟨used, portal, standing⟩ := aimedZones_kept s p atHold i
  obtain ⟨usedI, here, -⟩ := mem_portalZones.mp member
  rw [standing]
  exact absent i (used.symm.trans usedI) (portal.symm.trans here)

theorem startPortal_zone_other (away : ¬ (s.zones[z].used = true ∧ s.zones[z].portal = p)) : (s.startPortal p).zones[z] = s.zones[z] := by
  obtain ⟨used, portal, -⟩ := begun_kept s p z
  rw [(startPortal_pass s p).1, pass_zone_other (by rw [used, portal]; exact away), begun_zone, if_neg away]

theorem startPortal_absent (absent : ∀ z : Fin 32, s.zones[z].used = true → s.zones[z].portal = p → g ∉ (s.zones[z]).standing) :
    (s.startPortal p).groups[g] = s.groups[g] ∧ Unoffered g s (s.startPortal p) := by
  obtain ⟨-, groups, queue⟩ := startPortal_pass s p
  have away (z : Fin 32) (usedZ : (s.begun p).zones[z].used = true) (here : (s.begun p).zones[z].portal = p) :
      g ∉ ((s.begun p).zones[z]).standing := by
    obtain ⟨used, portal, standing, -⟩ := begun_kept s p z
    rw [standing]
    exact absent z (used.symm.trans usedZ) (portal.symm.trans here)
  refine ⟨?_, ((Unoffered.begun g s p).trans (.pass_absent away)).congr groups queue (.startPortal s p)⟩
  rw [groups, pass_group_other away, begun_groups]

/-- The start of another portal leaves a portal's affairs alone. -/
theorem Apart.startPortal (other : p ≠ q) (s : State) : Apart q s (s.startPortal p) where
  portal := by
    rw [startPortal_portals]
    exact updAt_other _ _ _ _ other
  zone z here := startPortal_zone_other fun is => other (is.2.symm.trans here)
  kept z := by
    obtain ⟨used, portal, standing, -⟩ := begun_kept s p z
    obtain ⟨used', portal', standing', -⟩ := pass_zone_kept (s.begun p) p false true z
    rw [(startPortal_pass s p).1]
    exact ⟨used'.trans used, portal'.trans portal, standing'.trans standing⟩
  group g only := startPortal_absent fun z used here stands => other (here.symm.trans (only z used stands))
  sound := (Regular.startPortal s p).2
  rest := exceptRegulation_startPortal s p

end

end Sys2Proof.Machine

/-! SUPPORT. The zones of a portal that started, and a start among others (R79, R102 to R111, R152). -/

namespace Sys2Proof.Machine

set_option Elab.async false

/-! ### The zones of a portal that starts -/

/-- A zone at its portal's start, before the selection: its stages on at full level, its reserve off (R79). -/
def Zone.lit (z : Zone) : Zone :=
  { z with onStages := Vector.ofFn fun n => decide (n.val < z.stages.length), onReserve := false, dCmd := 1000 }

theorem Restaged.selectedFrom_lit {x y : Zone} {sg : Fin 48 → Nat} {groups : Vector Group 48} {eligible : Bool} {lz : Nat}
    (h : Restaged x.started y sg groups eligible lz) : y.selectedFrom x.lit sg groups lz := by
  have amid : x.started = x.lit.amid x.started := rfl
  obtain ⟨stages, reserve, level⟩ := h.onSet rfl
  rw [amid, selected_amid] at stages reserve level
  exact selectedFrom_of_selected h.eligibleIs stages reserve level

section
variable {s t u v : State} {p : Fin 4} {z : Fin 32} {g : Fin 48} {place : Place}

theorem mem_portalZones_begun : z ∈ (s.begun p).portalZones p ↔ z ∈ s.portalZones p := by
  obtain ⟨used, portal, -, position⟩ := begun_kept s p z
  rw [mem_portalZones, mem_portalZones, used, portal, position]

theorem startPortal_released (here : s.zones[z].used = true ∧ s.zones[z].portal = p) :
    (s.startPortal p).zones[z].override = none ∧ ((s.startPortal p).zones[z].lz).isSome = true := by
  obtain ⟨used, portal, -⟩ := begun_kept s p z
  obtain ⟨-, -, -, override⟩ := pass_zone_kept (s.begun p) p false true z
  have target := pass_zone_lz (s := s.begun p) (p := p) (atHold := false) (immediate := true) ⟨used.trans here.1, portal.trans here.2⟩
  rw [(startPortal_pass s p).1, target, override, Option.isSome_some, begun_zone, if_pos here]
  exact ⟨rfl, rfl⟩

/-- A zone of the portal is started and then selected. -/
theorem startPortal_restaged (listed : z ∈ s.portalZones p) :
    ∃ eligible lz, Restaged (s.zones[z]).started (s.startPortal p).zones[z] (s.startPortal p).sg (s.startPortal p).groups eligible lz := by
  obtain ⟨zones, groups, -⟩ := startPortal_pass s p
  obtain ⟨used, portal, -⟩ := mem_portalZones.mp listed
  have passed := pass_zone (atHold := false) (immediate := true) (mem_portalZones_begun.mpr listed)
  have sg : (s.startPortal p).sg = ((s.begun p).pass p false true).sg := by
    funext g
    unfold State.sg
    rw [groups]
  have restaged := passed.restaged
  rw [begun_zone, if_pos ⟨used, portal⟩] at restaged
  rw [sg, groups, zones]
  exact ⟨_, _, restaged⟩

/-- At a start the level of every PART-owned group of one slot is offered (R79, R108). -/
theorem startPortal_offered (listed : z ∈ s.portalZones p) (sound : s.queuesSound) (one : s.slotCount g = 1)
    (placed : (place, g) ∈ (s.zones[z]).places) (part : s.groups[g].owner = .part) :
    s.levelOffered (s.startPortal p) g (s.groups[g].levelAt (((s.startPortal p).zones[z]).isOn place) ((s.startPortal p).zones[z]).dCmd)
      .autoManual s.now := by
  obtain ⟨zones, groups, queue⟩ := startPortal_pass s p
  obtain ⟨used, portal, -⟩ := mem_portalZones.mp listed
  have begun : (s.begun p).zones[z] = (s.zones[z]).started := by rw [begun_zone, if_pos ⟨used, portal⟩]
  have places : ((s.begun p).zones[z]).places = (s.zones[z]).places := by
    rw [begun]
    exact Zone.places_congr rfl rfl
  have override : ((s.begun p).zones[z]).override = none := by
    rw [begun]
    rfl
  have placed' : (place, g) ∈ ((s.begun p).zones[z]).places := by rwa [places]
  have offers := pass_offered (s := s.begun p) (p := p) (atHold := false) (immediate := true) (mem_portalZones_begun.mpr listed)
    ((Unoffered.begun g s p).sound sound) ((begun_slotCount s p g).trans one) placed'
  rw [begun_groups, begun_now, ← zones] at offers
  have offered := offers.1 ⟨override, part, .inl rfl⟩
  refine levelOffered_between (.begun g s p) offered (.of_same ?_ queue ?_) ((Regular.startPortal s p).2 sound)
  · rw [startPortal_eq]
    exact .mapPortal _ _ _
  · unfold State.noLevelOffered
    rw [groups]
    exact ⟨rfl, rfl, rfl, rfl⟩

/-! ### A start among others -/

/-- Portal `p` started on the way from `s` to `t` (R79, R152). -/
structure StartedIn (s t : State) (p : Fin 4) : Prop where
  sound : s.queuesSound → t.queuesSound
  kept : ∀ z : Fin 32, t.zones[z].used = s.zones[z].used ∧ t.zones[z].portal = s.zones[z].portal ∧ (t.zones[z]).standing = (s.zones[z]).standing
  record : (s.portals[p]).StartedFrom t.portals[p] (s.validMedian s.portals[p].mainSensor) (s.portals[p].reserveSensor.bind s.validMedian) s.now
  released : ∀ z : Fin 32, s.zones[z].used = true → s.zones[z].portal = p → t.zones[z].override = none ∧ (t.zones[z].lz).isSome = true
  restaged : ∀ z, z ∈ s.portalZones p → (∀ g ∈ (s.zones[z]).standing, s.slotCount g = 1) →
    ∃ eligible lz, Restaged (s.zones[z]).started t.zones[z] t.sg t.groups eligible lz
  offered : s.queuesSound → ∀ z, z ∈ s.portalZones p → ∀ place g, (place, g) ∈ (s.zones[z]).places → s.slotCount g = 1 →
    s.groups[g].owner = .part → s.levelOffered t g (s.groups[g].levelAt ((t.zones[z]).isOn place) (t.zones[z]).dCmd) .autoManual s.now

theorem startPortal_kept (s : State) (p : Fin 4) (z : Fin 32) : (s.startPortal p).zones[z].used = s.zones[z].used
    ∧ (s.startPortal p).zones[z].portal = s.zones[z].portal ∧ ((s.startPortal p).zones[z]).standing = (s.zones[z]).standing := by
  obtain ⟨used, portal, standing, -⟩ := begun_kept s p z
  obtain ⟨used', portal', standing', -⟩ := pass_zone_kept (s.begun p) p false true z
  rw [(startPortal_pass s p).1]
  exact ⟨used'.trans used, portal'.trans portal, standing'.trans standing⟩

theorem startedIn_startPortal (s : State) (p : Fin 4) : StartedIn s (s.startPortal p) p where
  sound := (Regular.startPortal s p).2
  kept := startPortal_kept s p
  record := startPortal_record s p
  released _ used here := startPortal_released ⟨used, here⟩
  restaged _ listed _ := startPortal_restaged listed
  offered sound _ listed _ _ placed one part := startPortal_offered listed sound one placed part

theorem Restaged.transport {x y y' : Zone} {sg sg' : Fin 48 → Nat} {groups groups' : Vector Group 48} {eligible : Bool} {lz : Nat}
    (h : Restaged x y sg groups eligible lz) (same : y' = y) (figures : x.sameFigures sg sg') (minima : x.sameMinima groups groups') :
    Restaged x y' sg' groups' eligible lz := by
  rw [same]
  exact h.congr figures minima

theorem onlyIn_of_slotCount (one : s.slotCount g = 1) (used : s.zones[z].used = true) (here : s.zones[z].portal = p)
    (stands : g ∈ (s.zones[z]).standing) : s.onlyIn g p := fun i usedI standsI => by
  rw [stands_once one used stands usedI standsI]
  exact here

theorem validMedian_of_exceptRegulation (same : t.exceptRegulation = s.exceptRegulation) : t.validMedian = s.validMedian := by
  have sensors : t.sensors = s.sensors := (congrArg (fun u : State => u.sensors) same :)
  funext i
  unfold State.validMedian
  rw [sensors]

theorem slotCount_of_kept (kept : ∀ z : Fin 32, t.zones[z].used = s.zones[z].used ∧ t.zones[z].portal = s.zones[z].portal
    ∧ (t.zones[z]).standing = (s.zones[z]).standing) (g : Fin 48) : t.slotCount g = s.slotCount g := by
  unfold State.slotCount
  refine congrArg List.sum (List.map_congr_left fun i _ => ?_)
  obtain ⟨used, -, standing⟩ := kept i
  rw [used, standing]

/-- A start is seen the same when the portal's affairs were left alone before and after. -/
theorem StartedIn.around (h : StartedIn u v p) (before : Apart p s u) (after : Apart p v t) : StartedIn s t p := by
  have zoneU {z : Fin 32} (here : s.zones[z].portal = p) : u.zones[z] = s.zones[z] := before.zone z here
  have zoneT {z : Fin 32} (here : s.zones[z].portal = p) : t.zones[z] = v.zones[z] :=
    after.zone z ((h.kept z).2.1.trans ((congrArg Zone.portal (zoneU here)).trans here))
  have listedU {z : Fin 32} (listed : z ∈ s.portalZones p) : z ∈ u.portalZones p := by
    rw [mem_portalZones, zoneU (mem_portalZones.mp listed).2.1]
    exact mem_portalZones.mp listed
  have onlyV {g : Fin 48} (only : s.onlyIn g p) : v.onlyIn g p := fun i used stands => by
    obtain ⟨usedI, portalI, standingI⟩ := h.kept i
    rw [usedI] at used
    rw [standingI] at stands
    rw [portalI]
    exact before.onlyIn only i used stands
  have now := now_of_exceptRegulation before.rest
  constructor
  case sound => exact fun sound => after.sound (h.sound (before.sound sound))
  case kept =>
    intro z
    obtain ⟨used₁, portal₁, standing₁⟩ := before.kept z
    obtain ⟨used₂, portal₂, standing₂⟩ := h.kept z
    obtain ⟨used₃, portal₃, standing₃⟩ := after.kept z
    exact ⟨(used₃.trans used₂).trans used₁, (portal₃.trans portal₂).trans portal₁, (standing₃.trans standing₂).trans standing₁⟩
  case record =>
    have record := h.record
    rw [before.portal, validMedian_of_exceptRegulation before.rest, now] at record
    rw [after.portal]
    exact record
  case released =>
    intro z used here
    rw [zoneT here]
    exact h.released z ((congrArg Zone.used (zoneU here)).trans used) ((congrArg Zone.portal (zoneU here)).trans here)
  case restaged =>
    intro z listed ones
    obtain ⟨used, here, -⟩ := mem_portalZones.mp listed
    obtain ⟨eligible, lz, restaged⟩ := h.restaged z (listedU listed) fun g stands => by
      rw [zoneU here] at stands
      rw [slotCount_of_kept before.kept]
      exact ones g stands
    rw [zoneU here] at restaged
    have group (q : Place × Fin 48) (placed : q ∈ (s.zones[z]).started.places) : t.groups[q.2] = v.groups[q.2] := by
      have stands : q.2 ∈ (s.zones[z]).standing := standing_of_places (z := (s.zones[z]).started) (q := q.1) placed
      exact (after.group q.2 (onlyV (onlyIn_of_slotCount (ones q.2 stands) used here stands))).1
    refine ⟨eligible, lz, restaged.transport (zoneT here) (fun q placed => ?_) fun q placed => ?_⟩
    · unfold State.sg
      rw [group q placed]
    · rw [group q placed]
      exact ⟨rfl, rfl⟩
  case offered =>
    intro sound z listed place g placed one part
    obtain ⟨used, here, -⟩ := mem_portalZones.mp listed
    have only := onlyIn_of_slotCount one used here (standing_of_places placed)
    obtain ⟨group, unoffered⟩ := before.group g only
    have offered := h.offered (unoffered.sound sound) z (listedU listed) place g (by rw [zoneU here]; exact placed)
      ((slotCount_of_kept before.kept g).trans one) (by rw [group]; exact part)
    obtain ⟨-, unoffered'⟩ := after.group g (onlyV only)
    rw [group, now, ← zoneT here] at offered
    exact levelOffered_between unoffered offered unoffered' (after.sound (h.sound (before.sound sound)))

end

end Sys2Proof.Machine

/-! SUPPORT. RESUME: O48 (R79, R102 to R111, R113). -/

namespace Sys2Proof.Machine

set_option Elab.async false

section
variable {s t t' : State} {p : Fin 4} {z : Fin 32} {g : Fin 48} {scope : Option (Fin 4)}

/-- A consistent configuration names each group of an examined zone once (R153). -/
theorem slotCount_of_consistency (sound : s.configSound) (passed : s.consistency scope = none) (sees : s.seesZone scope z) :
    ∀ g ∈ (s.zones[z]).standing, s.slotCount g = 1 := by
  obtain ⟨-, -, -, -, listed, once, -⟩ := (consistency_eq_none sound).mp passed
  obtain ⟨-, used⟩ := listed z sees
  exact fun g stands => once g ⟨used g stands, fun q is => ⟨z, sees.1, sees.2 q is, stands⟩⟩

theorem levelOffered_congr {l : Nat} {k : LevelKind} {now : Time} (groups : t'.groups = t.groups) (queue : t'.fQueue = t.fQueue)
    (offered : s.levelOffered t g l k now) : s.levelOffered t' g l k now := by
  unfold State.levelOffered
  rw [groups, queue]
  exact offered

theorem engine_of_exceptRegulation (same : t.exceptRegulation = s.exceptRegulation) : t.slot0 = s.slot0 ∧ t.ownAddress = s.ownAddress :=
  ⟨(congrArg (fun u : State => u.slot0) same :),
    congrArg (fun x : BitVec 4 => BitVec.ofNat 8 (184 + x.toNat)) (congrArg (fun u : State => u.addrPins) same :)⟩

theorem runResume_refused (barred : ¬ (s.mode = .running ∧ s.portals[p].used = true ∧ s.portals[p].state.regulating = false)) :
    s.runResume p = s.refuse .wrongState := by
  unfold State.runResume
  cases mode : s.mode with
  | transparent => cases s.portals[p].used <;> rfl
  | running =>
    cases used : s.portals[p].used with
    | false => rfl
    | true =>
      have regulating : s.regulating p = true := by
        rw [regulating_iff]
        refine ⟨used, ?_⟩
        refine Classical.byContradiction fun off => ?_
        exact barred ⟨mode, used, Bool.eq_false_iff.mpr off⟩
      exact if_pos regulating

theorem runResume_of_ready (ready : s.mode = .running ∧ s.portals[p].used = true ∧ s.portals[p].state.regulating = false) :
    s.runResume p = (s.consistency (some p)).elim (s.startPortal p).done s.refuseCheck := by
  obtain ⟨mode, used, idle⟩ := ready
  have regulating : ¬ s.regulating p = true := fun on => absurd ((regulating_iff.mp on).2.symm.trans idle) (by decide)
  unfold State.runResume
  rw [mode, used]
  dsimp only
  rw [if_neg regulating]
  cases s.consistency (some p) <;> rfl

end

/-- Settles O48: the portal starts with a pass, which the response alone follows. -/
theorem resumeStartsPortal : Obligations.ResumeStartsPortal := by
  unfold Obligations.ResumeStartsPortal
  intro h p more s free room control command r now ready
  have shape := ofOperands_resume p more
  have checked : (s.placing h.dt h.src (h.tag :: 6 :: BitVec.ofNat 8 p.val :: more)).consistency (some p) = s.consistency (some p) := rfl
  refine ⟨fun barred => ?_, fun f ready fails => ?_, fun ready passes => ?_⟩
  · exact exec_declined free room rfl shape control (by decide) (runResume_refused (s := s.placing h.dt h.src _) barred)
  · refine exec_changed (f := id) free room rfl shape control (by decide) (fun _ _ => rfl) ?_ (fun _ => rfl) fun _ => rfl
    refine (runResume_of_ready (s := s.placing h.dt h.src _) ready).trans ?_
    rw [checked, fails]
    rfl
  · intro main reserve
    have run : (s.placing h.dt h.src (h.tag :: 6 :: BitVec.ofNat 8 p.val :: more)).runRequest (.resume p)
        = ((s.placing h.dt h.src (h.tag :: 6 :: BitVec.ofNat 8 p.val :: more)).startPortal p).done := by
      refine (runResume_of_ready (s := s.placing h.dt h.src _) ready).trans ?_
      rw [checked, passes]
      rfl
    have did := startedIn_startPortal (s.placing h.dt h.src (h.tag :: 6 :: BitVec.ofNat 8 p.val :: more)) p
    have portals := startPortal_portals (s.placing h.dt h.src (h.tag :: 6 :: BitVec.ofNat 8 p.val :: more)) p
    have others (z : Fin 32) := startPortal_zone_other (s := s.placing h.dt h.src (h.tag :: 6 :: BitVec.ofNat 8 p.val :: more)) (p := p) (z := z)
    have wiped := exceptRegulation_startPortal (s.placing h.dt h.src (h.tag :: 6 :: BitVec.ofNat 8 p.val :: more)) p
    obtain ⟨slot, own⟩ := engine_of_exceptRegulation wiped
    obtain ⟨t, answers, responded, rest, -⟩ := exec_responded (i := command) free rfl shape control (by decide) run slot own
    generalize (s.placing h.dt h.src (h.tag :: 6 :: BitVec.ofNat 8 p.val :: more)).startPortal p = st at did portals others wiped rest
    have isPortals : t.portals = st.portals := (congrArg (fun u : State => u.portals) rest :)
    have isZones : t.zones = st.zones := (congrArg (fun u : State => u.zones) rest :)
    have isGroups : t.groups = st.groups := (congrArg (fun u : State => u.groups) rest :)
    have isQueue : t.fQueue = st.fQueue := (congrArg (fun u : State => u.fQueue) rest :)
    have isSg : t.sg = st.sg := by
      funext g
      unfold State.sg
      rw [isGroups]
    have frame : t.exceptRegulation = { st with slot0 := t.slot0 }.exceptRegulation := (congrArg State.exceptRegulation rest :)
    obtain ⟨state, lost, two, one, speed, traffic, override, -, passTimer, rampTimer⟩ := did.record
    rw [← isPortals] at state lost two one speed traffic override passTimer rampTimer portals
    have listed (sound : s.configSound) (z : Fin 32) (used : s.zones[z].used = true) (here : s.zones[z].portal = p) : z ∈ s.portalZones p :=
      (mem_portalZones_of_sound sound).mpr ⟨used, here⟩
    have ones (sound : s.configSound) (z : Fin 32) (used : s.zones[z].used = true) (here : s.zones[z].portal = p) :=
      slotCount_of_consistency sound passes (z := z) ⟨used, fun q is => here.trans (Option.some.inj is)⟩
    refine ⟨t, answers, responded, state, lost, two, one, speed, traffic, override, passTimer, rampTimer, fun o differs => ?_, fun z away => ?_,
      fun z used here => ?_, fun sound queues z used here => ⟨?_, fun place g placed part => ?_⟩, ?_⟩
    · rw [portals]
      exact updAt_other _ _ _ _ differs.symm
    · rw [isZones]
      exact others z away
    · rw [isZones]
      exact did.released z used here
    · obtain ⟨eligible, lz, restaged⟩ := did.restaged z (listed sound z used here) (ones sound z used here)
      rw [isZones, isSg, isGroups, restaged.lzIs]
      exact restaged.selectedFrom_lit
    · have places : (t.zones[z]).places = (s.zones[z]).places := by
        obtain ⟨eligible, lz, restaged⟩ := did.restaged z (listed sound z used here) (ones sound z used here)
        rw [isZones, restaged.places]
        exact Zone.places_congr rfl rfl
      rw [places] at placed
      have offered := did.offered queues z (listed sound z used here) place g placed (ones sound z used here g (standing_of_places placed)) part
      rw [← isZones, levelAt_eq] at offered
      exact levelOffered_congr isGroups isQueue offered
    · rw [frame]
      exact (congrArg (fun u : State => { u with slot0 := t.slot0 }) wiped :)

end Sys2Proof.Machine

/-! SUPPORT. The entry into RUNNING: polling, the starts of the used portals in turn, the rescan (R79, R141, R152). -/

namespace Sys2Proof.Machine

set_option Elab.async false

section
variable {s t u : State} {p : Fin 4} {z : Fin 32} {g : Fin 48} {scope : Option (Fin 4)}

/-- A consistent configuration has every used zone on a used portal (R153). -/
theorem portal_used_of_consistency (passed : s.consistency none = none) (used : s.zones[z].used = true) :
    s.portals[s.zones[z].portal].used = true := by
  rw [consistency_eq] at passed
  simp only [Option.or_eq_none_iff] at passed
  obtain ⟨-, -, check3, -⟩ := passed
  unfold State.check3 firstRow at check3
  rw [Option.map_eq_none_iff, List.findSome?_eq_none_iff] at check3
  have quiet := check3 z (List.mem_finRange z)
  rw [if_pos ((examinesZone_iff (scope := none) z).mpr ⟨used, fun q is => (Option.some_ne_none q is.symm).elim⟩)] at quiet
  dsimp only at quiet
  rw [Option.or_eq_none_iff] at quiet
  refine Classical.byContradiction fun unused => ?_
  rw [Bool.not_eq_true] at unused
  rw [unused] at quiet
  cases quiet.1

/-! ### The starts in turn -/

/-- The state once every used portal was started in turn. -/
def State.allStarted (s : State) : State := (List.finRange 4).foldl State.startUsed s

theorem startUsed_of_used (used : s.portals[p].used = true) : s.startUsed p = s.startPortal p := if_pos used

theorem startUsed_of_unused (unused : s.portals[p].used = false) : s.startUsed p = s := if_neg (Bool.eq_false_iff.mp unused)

theorem Apart.startUsed {q : Fin 4} (other : p ≠ q) (s : State) : Apart q s (s.startUsed p) := by
  unfold State.startUsed
  split
  · exact .startPortal other s
  · exact .refl q s

/-- Around the turn of one portal the others' leave its affairs alone. -/
theorem allStarted_around (s : State) (p : Fin 4) : ∃ u, Apart p s u ∧ Apart p (u.startUsed p) s.allStarted := by
  obtain ⟨u, -, before, after⟩ := foldl_around (R := Apart p) (I := fun _ => True) (f := State.startUsed) (Apart.refl p) Apart.trans
    (List.nodup_finRange 4) (List.mem_finRange p) (fun t _ q _ other => .startUsed other t) (fun _ _ _ _ => trivial) (s := s) trivial
  exact ⟨u, before, after⟩

theorem allStarted_startedIn (used : s.portals[p].used = true) : StartedIn s s.allStarted p := by
  obtain ⟨u, before, after⟩ := allStarted_around s p
  rw [startUsed_of_used (before.portal ▸ used)] at after
  exact (startedIn_startPortal u p).around before after

theorem allStarted_unused (unused : s.portals[p].used = false) : s.allStarted.portals[p] = s.portals[p] := by
  obtain ⟨u, before, after⟩ := allStarted_around s p
  rw [startUsed_of_unused (before.portal ▸ unused)] at after
  exact after.portal.trans before.portal

theorem exceptRegulation_startUsed (s : State) (p : Fin 4) : (s.startUsed p).exceptRegulation = s.exceptRegulation := by
  unfold State.startUsed
  split
  · exact exceptRegulation_startPortal s p
  · rfl

theorem exceptRegulation_allStarted (s : State) : s.allStarted.exceptRegulation = s.exceptRegulation :=
  foldl_keeps State.exceptRegulation _ exceptRegulation_startUsed _ s

theorem Regular.allStarted (s : State) : Regular s s.allStarted := by
  refine Regular.foldl _ (fun t p => ?_) _ s
  unfold State.startUsed
  split
  · exact .startPortal t p
  · exact .refl t

theorem Unoffered.startUsed_line (p : Fin 4) (line : s.groups[g].owner = .line) : Unoffered g s (s.startUsed p) := by
  unfold State.startUsed
  split
  · obtain ⟨-, groups, queue⟩ := startPortal_pass s p
    have still : (s.begun p).groups[g].owner = .line := by rw [begun_groups]; exact line
    exact ((Unoffered.begun g s p).trans (.pass_line p false true still)).congr groups queue (.startPortal s p)
  · exact .refl g s

theorem Unoffered.allStarted_line (line : s.groups[g].owner = .line) : Unoffered g s s.allStarted :=
  .fold_line (fun t p => configuration_startUsed t p) (fun _ p line => .startUsed_line p line) _ line

/-! ### What regulation leaves of a group -/

theorem unstaged_pass (s : State) (p : Fin 4) (atHold immediate : Bool) (g : Fin 48) :
    (s.pass p atHold immediate).groups[g].unstaged = s.groups[g].unstaged := by
  have staged := foldl_keeps (fun t : State => t.groups[g].unstaged) _
    (fun t i => unstaged_of_exceptStaging (exceptStaging_stageZone t i immediate) g) ((s.aimedZones p atHold).portalZones p) (s.aimedZones p atHold)
  have begun : (s.aimedZones p atHold).groups[g].unstaged = s.groups[g].unstaged :=
    congrArg (fun v : Vector Group 48 => v[g].unstaged) (aimedZones_groups s p atHold)
  rw [pass_eq]
  exact staged.trans begun

theorem unstaged_startUsed (s : State) (p : Fin 4) (g : Fin 48) : (s.startUsed p).groups[g].unstaged = s.groups[g].unstaged := by
  unfold State.startUsed
  split
  · exact (congrArg (fun v : Vector Group 48 => v[g].unstaged) (startPortal_pass s p).2.1).trans ((unstaged_pass (s.begun p) p false true g).trans
      (congrArg (fun v : Vector Group 48 => v[g].unstaged) (begun_groups s p)))
  · rfl

theorem unstaged_allStarted (s : State) (g : Fin 48) : s.allStarted.groups[g].unstaged = s.groups[g].unstaged :=
  foldl_keeps (fun t : State => t.groups[g].unstaged) _ (fun t p => unstaged_startUsed t p g) _ s

theorem burns_of_unstaged {x y : Group} (same : x.unstaged = y.unstaged) :
    x.burnMinutes = y.burnMinutes ∧ x.burnSub = y.burnSub ∧ x.burnKnown = y.burnKnown :=
  ⟨(congrArg Group.burnMinutes same :), (congrArg Group.burnSub same :), (congrArg Group.burnKnown same :)⟩

/-! ### The rescan's start -/

theorem Walked.rescanStart (s : State) : Walked s s.rescanStart :=
  (Walked.place s .awaitWindow 0 s.scanOrphan s.fQueue).trans (.rescanOffer _)

theorem rescanStart_zones (s : State) : s.rescanStart.zones = s.zones := (congrArg (fun u : State => u.zones) (exceptPolling_rescanStart s) :)

theorem rescanStart_portals (s : State) : s.rescanStart.portals = s.portals := (congrArg (fun u : State => u.portals) (exceptPolling_rescanStart s) :)

theorem rescanEnd_fQueue (s : State) : s.rescanEnd.fQueue = s.fQueue := by
  unfold State.rescanEnd
  rw [State.deviceEvent_fQueue]

theorem noLevelOffered_of_groups (same : t.groups = s.groups) : s.noLevelOffered t g := by
  unfold State.noLevelOffered
  rw [same]
  exact ⟨rfl, rfl, rfl, rfl⟩

theorem Unoffered.rescanEnd (g : Fin 48) (s : State) : Unoffered g s s.rescanEnd :=
  .of_same (.rescanEnd s) (rescanEnd_fQueue s) (noLevelOffered_of_groups (Walked.rescanEnd s).groups)

theorem rescanStart_fQueue (s : State) : s.rescanStart.fQueue = s.fQueue ∨ ∃ d, s.rescanStart.fQueue = s.fQueue ++ [.poll d .scan] := by
  unfold State.rescanStart State.rescanOffer
  split
  · exact .inl (rescanEnd_fQueue _)
  · next d _ =>
    split
    · next room =>
      unfold State.offerPoll
      rw [if_pos room]
      exact .inr ⟨d, rfl⟩
    · dsimp only
      split
      · exact .inl rfl
      · exact .inl (rescanEnd_fQueue _)

/-- A rescan's start offers no LEVEL. -/
theorem Unoffered.rescanStart (g : Fin 48) (s : State) : Unoffered g s s.rescanStart := by
  refine ⟨noLevelOffered_of_groups (Walked.rescanStart s).groups, fun l k => ?_, ?_, (Regular.rescanStart s).2⟩
  all_goals rcases rescanStart_fQueue s with same | ⟨d, joined⟩
  · rw [same]
  · rw [joined]
    simp
  · exact Nat.le_of_eq (by rw [same])
  · rw [joined]
    simp

theorem rescanStart_of_last {d : Fin 160} (used : s.drivers[d].used = true) (first : ∀ m : Fin 160, m < d → s.drivers[m].used = false)
    (full : s.fQueue.length = 32) (last : ∀ n : Fin 160, d < n → s.drivers[n].used = false) :
    s.rescanStart = { s with rescan := .awaitTimer, rescanPosition := d.val + 1 }.rescanEnd := by
  have next : ({ s with rescanPosition := 0, rescan := .awaitWindow } : State).nextUsed 0 = some d :=
    nextUsed_of_lowest used (Nat.zero_le _) fun m _ => first m
  have none : s.nextUsed (d.val + 1) = .none := nextUsed_eq_none fun m above => last m above
  unfold State.rescanStart State.rescanOffer
  rw [show ({ s with rescanPosition := 0, rescan := .awaitWindow } : State).rescanPosition = 0 from rfl, next]
  dsimp only
  rw [if_neg (show ¬ s.fQueue.length < 32 by omega)]
  exact if_neg (by
    change ¬ (s.nextUsed (d.val + 1)).isSome = true
    rw [none]
    decide)

end

end Sys2Proof.Machine

/-! SUPPORT. ACTIVATE: O44 (R79, R141, R150, R152, R153). -/

namespace Sys2Proof.Machine

set_option Elab.async false

section
variable {s t u : State} {p : Fin 4} {z : Fin 32} {g : Fin 48}

theorem enterRunning_started (s : State) : s.enterRunning = s.polling.allStarted.rescanStart := rfl

theorem enterRunning_portals (s : State) : s.enterRunning.portals = s.polling.allStarted.portals := by
  rw [enterRunning_started, rescanStart_portals]

theorem enterRunning_zones (s : State) : s.enterRunning.zones = s.polling.allStarted.zones := by
  rw [enterRunning_started, rescanStart_zones]

theorem enterRunning_groups (s : State) : s.enterRunning.groups = s.polling.allStarted.groups := by
  rw [enterRunning_started]
  exact (Walked.rescanStart _).groups

/-- Polling starts with every used driver UNKNOWN (R152). -/
theorem polling_eq (s : State) : s.polling = { s with
    mode := .running
    drivers := updAll s.drivers fun _ r => if r.used then { r with state := .unknown, misses := 0 } else r
    cursor := 0
    pollTimer := some (s.now + s.device.pollInterval * msTicks) } := by
  unfold State.polling State.driversUnknown
  rfl

theorem polls_of_exceptRegulation (same : t.exceptRegulation = s.exceptRegulation) :
    t.drivers = s.drivers ∧ t.mode = s.mode ∧ t.cursor = s.cursor ∧ t.pollTimer = s.pollTimer :=
  ⟨(congrArg (fun u : State => u.drivers) same :), (congrArg (fun u : State => u.mode) same :), (congrArg (fun u : State => u.cursor) same :),
    (congrArg (fun u : State => u.pollTimer) same :)⟩

theorem rescanStart_mode (s : State) : s.rescanStart.mode = s.mode := mode_of_exceptPolling (exceptPolling_rescanStart s)

theorem enterRunning_drivers (s : State) (d : Fin 160) : s.enterRunning.drivers[d]
    = if s.drivers[d].used then { s.drivers[d] with state := .unknown, misses := 0 } else s.drivers[d] := by
  have walked := Walked.rescanStart s.polling.allStarted
  have drivers : s.enterRunning.drivers = s.polling.drivers := walked.drivers.trans (polls_of_exceptRegulation (exceptRegulation_allStarted s.polling)).1
  rw [drivers, polling_eq]
  exact updAll_get _ _ _

theorem enterRunning_polls (s : State) :
    s.enterRunning.mode = .running ∧ s.enterRunning.cursor = 0 ∧ s.enterRunning.pollTimer = some (s.now + s.device.pollInterval * msTicks) := by
  obtain ⟨-, mode, cursor, pollTimer⟩ := polls_of_exceptRegulation (exceptRegulation_allStarted s.polling)
  have walked := Walked.rescanStart s.polling.allStarted
  rw [enterRunning_started, rescanStart_mode, walked.cursor, walked.pollTimer, mode, cursor, pollTimer, polling_eq]
  exact ⟨rfl, rfl, rfl⟩

theorem exceptPolling_exceptRegulation (s : State) : s.exceptRegulation.exceptPolling = s.exceptPolling.exceptRegulation := rfl

theorem frame_rescanStart (s : State) : s.rescanStart.exceptRegulation.exceptPolling = s.exceptRegulation.exceptPolling := by
  rw [exceptPolling_exceptRegulation, exceptPolling_rescanStart, exceptPolling_exceptRegulation]

theorem frame_allStarted (s : State) : s.allStarted.exceptRegulation.exceptPolling = s.exceptRegulation.exceptPolling :=
  congrArg State.exceptPolling (exceptRegulation_allStarted s)

theorem frame_withPolls (s : State) (drivers : Vector Driver 160) (cursor : Fin 160) (pollTimer : Option Time) :
    ({ s with drivers := drivers, cursor := cursor, pollTimer := pollTimer } : State).exceptRegulation.exceptPolling
      = s.exceptRegulation.exceptPolling := rfl

theorem enterRunning_frame (s : State) :
    s.enterRunning.exceptRegulation.exceptPolling = ({ s with mode := .running } : State).exceptRegulation.exceptPolling := by
  rw [enterRunning_started, frame_rescanStart, frame_allStarted, polling_eq]
  exact frame_withPolls { s with mode := .running } _ _ _

theorem polling_groups (s : State) : s.polling.groups = s.groups := by rw [polling_eq]

theorem polling_portals (s : State) : s.polling.portals = s.portals := by rw [polling_eq]

theorem polling_zones (s : State) : s.polling.zones = s.zones := by rw [polling_eq]

theorem polling_fQueue (s : State) : s.polling.fQueue = s.fQueue := by rw [polling_eq]

theorem enterRunning_burns (s : State) (g : Fin 48) : s.enterRunning.groups[g].burnMinutes = s.groups[g].burnMinutes
    ∧ s.enterRunning.groups[g].burnSub = s.groups[g].burnSub ∧ s.enterRunning.groups[g].burnKnown = s.groups[g].burnKnown := by
  have burns := burns_of_unstaged (unstaged_allStarted s.polling g)
  rw [polling_groups] at burns
  rw [enterRunning_groups]
  exact burns

theorem enterRunning_sg (s : State) : s.enterRunning.sg = s.polling.allStarted.sg := by
  funext g
  unfold State.sg
  rw [enterRunning_groups]

theorem enterRunning_line (line : s.groups[g].owner = .line) : s.noLevelOffered s.enterRunning g := by
  have started := (Unoffered.allStarted_line (s := s.polling) (g := g) (by rw [polling_groups]; exact line)).group
  unfold State.noLevelOffered at started ⊢
  rw [polling_groups] at started
  rw [enterRunning_groups]
  exact started

theorem enterRunning_unused (unused : s.portals[p].used = false) : s.enterRunning.portals[p] = s.portals[p] := by
  have kept := allStarted_unused (s := s.polling) (p := p) (by rw [polling_portals]; exact unused)
  rw [polling_portals] at kept
  rw [enterRunning_portals]
  exact kept

/-- Every used portal starts (R152). -/
theorem enterRunning_startedIn (used : s.portals[p].used = true) : StartedIn s.polling s.enterRunning p := by
  obtain ⟨sound, kept, record, released, restaged, offered⟩ := allStarted_startedIn (s := s.polling) (p := p) (by rw [polling_portals]; exact used)
  constructor
  case sound => exact fun before => (Regular.rescanStart s.polling.allStarted).2 (sound before)
  case kept =>
    rw [enterRunning_zones]
    exact kept
  case record =>
    rw [enterRunning_portals]
    exact record
  case released =>
    rw [enterRunning_zones]
    exact released
  case restaged =>
    rw [enterRunning_zones, enterRunning_sg, enterRunning_groups]
    exact restaged
  case offered =>
    rw [enterRunning_zones, enterRunning_started]
    exact fun before z listed place g placed one part => levelOffered_between (.refl g s.polling)
      (offered before z listed place g placed one part) (.rescanStart g s.polling.allStarted) ((Regular.rescanStart s.polling.allStarted).2 (sound before))

/-- What the rescan's start comes to (R141). -/
def State.rescanBegun (s t : State) : Prop :=
  ∀ d : Fin 160, s.drivers[d].used = true → (∀ m : Fin 160, m < d → s.drivers[m].used = false) →
    (t.fQueue.getLast? = some (.poll d .scan) ∧ t.rescan = .awaitWindow ∧ t.rescanPosition = 0)
      ∨ (t.fQueue.length = 32 ∧ ((∃ n : Fin 160, d < n ∧ s.drivers[n].used = true) → t.rescan = .awaitTimer ∧ t.rescanPosition = d.val + 1)
        ∧ ((∀ n : Fin 160, d < n → s.drivers[n].used = false) → t.rescan = .none ∧ t.rescanPosition = 160 ∧ t.deviceFlags.getLsbD 3 = true))

theorem rescanBegun_rescanStart (room : s.fQueue.length ≤ 32) : s.rescanBegun s.rescanStart := by
  intro d used first
  by_cases space : s.fQueue.length < 32
  · rw [rescanStart_of_room used first space]
    exact .inl ⟨List.getLast?_concat, rfl, rfl⟩
  · have full : s.fQueue.length = 32 := by omega
    refine .inr ⟨?_, fun ⟨n, above, more⟩ => ?_, fun last => ?_⟩
    · by_cases more : ∃ n : Fin 160, d < n ∧ s.drivers[n].used = true
      · obtain ⟨n, above, usedN⟩ := more
        rw [rescanStart_of_full used first full above usedN]
        exact full
      · have last (n : Fin 160) (above : d < n) : s.drivers[n].used = false := Bool.eq_false_iff.mpr fun on => more ⟨n, above, on⟩
        rw [rescanStart_of_last used first full last, rescanEnd_fQueue]
        exact full
    · rw [rescanStart_of_full used first full above more]
      exact ⟨rfl, rfl⟩
    · rw [rescanStart_of_last used first full last]
      obtain ⟨ended, position, flag, -⟩ := rescanEnd_reports { s with rescan := .awaitTimer, rescanPosition := d.val + 1 }
      exact ⟨ended, position, flag⟩

end

end Sys2Proof.Machine

/-! SUPPORT. ACTIVATE, settled: O44 (R79, R141, R150, R152, R153). -/

namespace Sys2Proof.Machine

set_option Elab.async false

section
variable {s t : State} {p : Fin 4} {z : Fin 32} {g : Fin 48}

theorem runActivate_of_running (running : s.mode = .running) : s.runActivate = s.refuse .wrongState := by
  unfold State.runActivate
  rw [running]

theorem runActivate_of_transparent (transparent : s.mode = .transparent) :
    s.runActivate = (s.consistency none).elim s.enterRunning.done s.refuseCheck := by
  unfold State.runActivate
  rw [transparent]
  dsimp only
  cases s.consistency none <;> rfl

theorem polling_cQueue (s : State) : s.polling.cQueue = s.cQueue := by rw [polling_eq]

theorem polling_now (s : State) : s.polling.now = s.now := by rw [polling_eq]

theorem started_places (z : Zone) : z.started.places = z.places := Zone.places_congr rfl rfl

theorem levelOffered_of_before {u : State} {l : Nat} {k : LevelKind} {now : Time} (groups : u.groups = s.groups) (queue : u.fQueue = s.fQueue)
    (offered : u.levelOffered t g l k now) : s.levelOffered t g l k now := by
  unfold State.levelOffered at offered
  rw [groups, queue] at offered
  exact offered

/-- The zones of a consistent configuration that went into RUNNING are selected, and their levels offered (R79, R108). -/
theorem enterRunning_selected (sound : s.configSound) (queues : s.queuesSound) (passes : s.consistency none = none) (used : s.zones[z].used = true) :
    (s.enterRunning.zones[z]).selectedFrom (s.zones[z]).lit s.enterRunning.sg s.enterRunning.groups ((s.enterRunning.zones[z]).lz.getD 0)
      ∧ ∀ (place : Place) (g : Fin 48), (place, g) ∈ (s.enterRunning.zones[z]).places → s.groups[g].owner = .part →
        s.levelOffered s.enterRunning g (if (s.enterRunning.zones[z]).isOn place = true ∧ s.groups[g].dmin ≤ (s.enterRunning.zones[z]).dCmd
          then (s.enterRunning.zones[z]).dCmd else 0) .autoManual s.now := by
  have did := enterRunning_startedIn (s := s) (portal_used_of_consistency passes used)
  have ones := slotCount_of_consistency sound passes (z := z) ⟨used, fun q is => (Option.some_ne_none q is.symm).elim⟩
  have listed : z ∈ s.polling.portalZones s.zones[z].portal := by
    rw [portalZones_congr (polling_zones s), mem_portalZones_of_sound sound]
    exact ⟨used, rfl⟩
  have zone : s.polling.zones[z] = s.zones[z] := congrArg (fun v : Vector Zone 32 => v[z]) (polling_zones s)
  have slots (g : Fin 48) : s.polling.slotCount g = s.slotCount g := by
    unfold State.slotCount
    rw [polling_zones]
  obtain ⟨eligible, lz, restaged⟩ := did.restaged z listed fun g stands => by
    rw [zone] at stands
    rw [slots]
    exact ones g stands
  rw [zone] at restaged
  refine ⟨?_, fun place g placed part => ?_⟩
  · rw [restaged.lzIs]
    exact restaged.selectedFrom_lit
  · rw [restaged.places, started_places] at placed
    have sound' : s.polling.queuesSound := by
      unfold State.queuesSound
      rw [polling_groups, polling_fQueue, polling_cQueue]
      exact queues
    have offered := did.offered sound' z listed place g (by rw [zone]; exact placed) ((slots g).trans (ones g (standing_of_places placed)))
      (by rw [polling_groups]; exact part)
    rw [polling_groups, polling_now, levelAt_eq] at offered
    exact levelOffered_of_before (polling_groups s) (polling_fQueue s) offered

/-! ### The rescan -/

theorem polling_used (s : State) (d : Fin 160) : s.polling.allStarted.drivers[d].used = s.drivers[d].used := by
  rw [(polls_of_exceptRegulation (exceptRegulation_allStarted s.polling)).1, polling_eq]
  dsimp only
  rw [updAll_get]
  split <;> rfl

theorem enterRunning_rescanBegun (queues : s.queuesSound) : s.rescanBegun s.enterRunning := by
  have sound' : s.polling.queuesSound := by
    unfold State.queuesSound
    rw [polling_groups, polling_fQueue, polling_cQueue]
    exact queues
  have begun := rescanBegun_rescanStart ((Regular.allStarted s.polling).2 sound').1
  unfold State.rescanBegun at begun
  simp only [polling_used] at begun
  exact begun

theorem enterRunning_idle (unused : ∀ d : Fin 160, s.drivers[d].used = false) :
    s.enterRunning.rescan = .none ∧ s.enterRunning.rescanPosition = 160 ∧ s.enterRunning.deviceFlags.getLsbD 3 = true := by
  rw [enterRunning_started, rescanStart_of_none fun d => (polling_used s d).trans (unused d)]
  obtain ⟨ended, position, flag, -⟩ := rescanEnd_reports { s.polling.allStarted with rescanPosition := 0, rescan := .awaitWindow }
  exact ⟨ended, position, flag⟩

theorem engine_of_frame (same : t.exceptRegulation.exceptPolling = s.exceptRegulation.exceptPolling) :
    t.slot0 = s.slot0 ∧ t.ownAddress = s.ownAddress :=
  ⟨(congrArg (fun u : State => u.slot0) same :),
    congrArg (fun x : BitVec 4 => BitVec.ofNat 8 (184 + x.toNat)) (congrArg (fun u : State => u.addrPins) same :)⟩

end

/-- Settles O44: each used portal's start is run between those of the others, which leave its affairs alone; the rescan's start follows. -/
theorem activateStartsRegulation : Obligations.ActivateStartsRegulation := by
  unfold Obligations.ActivateStartsRegulation
  intro h s free room control now
  have checked : (s.placing h.dt h.src [h.tag, 3]).consistency none = s.consistency none := rfl
  refine ⟨fun running => ?_, fun f transparent fails => ?_, fun transparent passes => ?_⟩
  · exact exec_declined (q := .activate) (code := 3) (ops := []) free room rfl rfl control (by decide)
      (runActivate_of_running (s := s.placing h.dt h.src _) running)
  · refine exec_changed (q := .activate) (code := 3) (ops := []) (f := id) free room rfl rfl control (by decide) (fun _ _ => rfl) ?_
      (fun _ => rfl) fun _ => rfl
    refine (runActivate_of_transparent (s := s.placing h.dt h.src _) transparent).trans ?_
    rw [checked, fails]
    rfl
  · have run : (s.placing h.dt h.src [h.tag, 3]).runRequest .activate = (s.placing h.dt h.src [h.tag, 3]).enterRunning.done := by
      refine (runActivate_of_transparent (s := s.placing h.dt h.src _) transparent).trans ?_
      rw [checked, passes]
      rfl
    have frame := enterRunning_frame (s.placing h.dt h.src [h.tag, 3])
    obtain ⟨slot, own⟩ := engine_of_frame frame
    obtain ⟨mode, cursor, pollTimer⟩ := enterRunning_polls (s.placing h.dt h.src [h.tag, 3])
    have drivers := enterRunning_drivers (s.placing h.dt h.src [h.tag, 3])
    have unused (p : Fin 4) := enterRunning_unused (s := s.placing h.dt h.src [h.tag, 3]) (p := p)
    have started (p : Fin 4) := enterRunning_startedIn (s := s.placing h.dt h.src [h.tag, 3]) (p := p)
    have selected (sound : s.configSound) (queues : s.queuesSound) (z : Fin 32) :=
      enterRunning_selected (s := s.placing h.dt h.src [h.tag, 3]) (z := z) sound queues passes
    have line (g : Fin 48) := enterRunning_line (s := s.placing h.dt h.src [h.tag, 3]) (g := g)
    have rescan (queues : s.queuesSound) := enterRunning_rescanBegun (s := s.placing h.dt h.src [h.tag, 3]) queues
    have idle := enterRunning_idle (s := s.placing h.dt h.src [h.tag, 3])
    have burns := enterRunning_burns (s.placing h.dt h.src [h.tag, 3])
    obtain ⟨t, answers, responded, rest, -⟩ := exec_responded (q := .activate) (code := 3) (ops := []) (i := .activate h) free rfl rfl control
      (by decide) run slot own
    generalize (s.placing h.dt h.src [h.tag, 3]).enterRunning = st at *
    have isPortals : t.portals = st.portals := (congrArg (fun u : State => u.portals) rest :)
    have isZones : t.zones = st.zones := (congrArg (fun u : State => u.zones) rest :)
    have isGroups : t.groups = st.groups := (congrArg (fun u : State => u.groups) rest :)
    have isQueue : t.fQueue = st.fQueue := (congrArg (fun u : State => u.fQueue) rest :)
    have isDrivers : t.drivers = st.drivers := (congrArg (fun u : State => u.drivers) rest :)
    have isRescan : t.rescan = st.rescan := (congrArg (fun u : State => u.rescan) rest :)
    have isPosition : t.rescanPosition = st.rescanPosition := (congrArg (fun u : State => u.rescanPosition) rest :)
    have isFlags : t.deviceFlags = st.deviceFlags := (congrArg (fun u : State => u.deviceFlags) rest :)
    have isSg : t.sg = st.sg := by
      funext g
      unfold State.sg
      rw [isGroups]
    have framed : t.exceptRegulation.exceptPolling = ({ st with slot0 := t.slot0 } : State).exceptRegulation.exceptPolling :=
      (congrArg (fun u : State => u.exceptRegulation.exceptPolling) rest :)
    refine ⟨t, answers, (congrArg (fun u : State => u.mode) rest :).trans mode, responded, fun d => ?_,
      (congrArg (fun u : State => u.cursor) rest :).trans cursor, (congrArg (fun u : State => u.pollTimer) rest :).trans pollTimer,
      fun p off => ?_, fun p used => ?_, fun z used => ?_, fun sound queues => ⟨fun z used => ?_, fun g owned => ?_, ?_⟩, fun none => ?_, ?_, fun g => ?_⟩
    · rw [isDrivers]
      exact drivers d
    · rw [isPortals]
      exact unused p off
    · intro r main reserve
      obtain ⟨state, lost, two, one, speed, traffic, override, holdTimer, passTimer, rampTimer⟩ := (started p used).record
      rw [← isPortals] at state lost two one speed traffic override holdTimer passTimer rampTimer
      exact ⟨state, lost, two, one, speed, traffic, override, holdTimer, passTimer, rampTimer⟩
    · rw [isZones]
      exact (started _ (portal_used_of_consistency passes used)).released z used rfl
    · intro y
      obtain ⟨selection, offers⟩ := selected sound queues z used
      unfold y
      rw [isZones, isSg, isGroups]
      exact ⟨selection, fun place g placed part => levelOffered_congr isGroups isQueue (offers place g placed part)⟩
    · have quiet := line g owned
      unfold State.noLevelOffered at quiet ⊢
      rw [isGroups]
      exact quiet
    · rw [isQueue, isRescan, isPosition, isFlags]
      exact rescan queues
    · rw [isRescan, isPosition, isFlags]
      exact idle none
    · rw [framed]
      exact (congrArg (fun u : State => { u with slot0 := t.slot0 }) frame :)
    · rw [isGroups]
      exact burns g

end Sys2Proof.Machine

/-! SUPPORT. FORCE: O49 (R122 to R126). -/

namespace Sys2Proof.Machine

set_option Elab.async false

/-! ### A zone under a new override -/

section
variable {s t u : State} {k : OverrideKind} {level : Nat} {scope : OverrideScope} {z : Fin 32} {g : Fin 48} {place : Place} {p : Fin 4}

/-- Force reads the figures and minimum levels of the groups, which offers leave. -/
theorem forced_congr (same : t.exceptRamp = s.exceptRamp) (x : Zone) : t.forced k level scope x = s.forced k level scope x := by
  have group (g : Fin 48) := group_of_exceptRamp same g
  have sg : t.sg = s.sg := by
    funext g
    unfold State.sg
    rw [group]
    rfl
  have dmin (y : Zone) : y.dminOn t.groups = y.dminOn s.groups := dminOn_congr fun q _ => by
    rw [group]
    exact ⟨rfl, rfl⟩
  cases k with
  | manual =>
    unfold State.forced Zone.manual
    dsimp only
    rw [sg, dmin]
  | fire =>
    unfold State.forced Zone.fire
    dsimp only
    rw [dmin]

/-- When FORCE offers a level of a group (R124, R125). -/
def forceAsks (k : OverrideKind) (x : Group) (level : Nat) : Prop := x.owner = .part ∧ (k = .manual → level ≠ x.sent)

/-- The kind of the LEVELs that FORCE offers (R124, R125). -/
def OverrideKind.levelKind (k : OverrideKind) : LevelKind :=
  match k with
  | .manual => .autoManual
  | .fire => .fire

/-- What FORCE makes of a zone on the way from `s` to `t`. -/
structure ForcedZone (s t : State) (z : Fin 32) (k : OverrideKind) (level : Nat) (scope : OverrideScope) : Prop where
  zone : t.zones[z] = s.forced k level scope s.zones[z]
  offered : s.queuesSound → ∀ place g, (place, g) ∈ (s.zones[z]).places → s.slotCount g = 1 →
    s.offeredWhen t (forceAsks k s.groups[g] (s.groups[g].levelAt ((t.zones[z]).isOn place) (t.zones[z]).dCmd)) g
      (s.groups[g].levelAt ((t.zones[z]).isOn place) (t.zones[z]).dCmd) k.levelKind s.now

theorem forceZone_zone (s : State) (z : Fin 32) (k : OverrideKind) (level : Nat) (scope : OverrideScope) :
    (s.forceZone z k level scope).zones[z] = s.forced k level scope s.zones[z] := by
  rw [forceZone_zones, updAt_same]

/-- FORCE on one zone offers the levels it commands (R124, R125). -/
theorem forceZone_offered (sound : s.queuesSound) (once : (s.zones[z]).standing.count g ≤ 1) (placed : (place, g) ∈ (s.zones[z]).places) :
    s.offeredWhen (s.forceZone z k level scope)
      (forceAsks k s.groups[g] (s.groups[g].levelAt (((s.forceZone z k level scope).zones[z]).isOn place) ((s.forceZone z k level scope).zones[z]).dCmd))
      g (s.groups[g].levelAt (((s.forceZone z k level scope).zones[z]).isOn place) ((s.forceZone z k level scope).zones[z]).dCmd) k.levelKind s.now := by
  have mapped := Unoffered.mapZone s z g (s.forced k level scope)
  have offered := offeredWhen_offerAll (s := s.mapZone z (s.forced k level scope)) (forceOffers (s.forced k level scope s.zones[z]) k)
    (mapped.sound sound) (places_nodup _) placed fun q here same => place_unique once placed here same
  have whole := offeredWhen_between mapped offered (.refl g _) ((Regular.offerAll _ _ _).2 (mapped.sound sound))
  rw [← forceZone_eq] at whole
  rw [forceZone_zone]
  have asks : (forceOffers (s.forced k level scope s.zones[z]) k).test place s.now s.groups[g] = true
      ↔ forceAsks k s.groups[g] (s.groups[g].levelAt ((s.forced k level scope s.zones[z]).isOn place) (s.forced k level scope s.zones[z]).dCmd) := by
    unfold forceOffers
    exact decide_eq_true_iff
  unfold State.offeredWhen at whole ⊢
  rw [← asks]
  exact whole

theorem forcedZone_forceZone (used : s.zones[z].used = true) : ForcedZone s (s.forceZone z k level scope) z k level scope where
  zone := forceZone_zone s z k level scope
  offered sound _ _ placed one := forceZone_offered sound (standing_count_le one used) placed

/-- FORCE on zones in turn makes of each what FORCE on it alone would. -/
theorem forcedZone_fold {l : List (Fin 32)} (nodup : l.Nodup) (member : z ∈ l) (used : ∀ i ∈ l, (s.zones[i]).used = true) :
    ForcedZone s (l.foldl (fun t i => t.forceZone i k level scope) s) z k level scope := by
  have does := zoneWork_forceZone k level scope
  have zone : (l.foldl (fun t i => t.forceZone i k level scope) s).zones[z] = s.forced k level scope s.zones[z] := by
    obtain ⟨u, wiped, zone, -, final⟩ := does.zone_of_fold (s := s) nodup member
    rw [final, forceZone_zone, forced_congr wiped, zone]
  refine ⟨zone, fun sound place g placed one => ?_⟩
  have stands := standing_of_places placed
  obtain ⟨u, wiped, zoneU, regular, group, before, final, -, after⟩ := does.group_of_fold (s := s) nodup member (g := g)
    fun i inside standsI => stands_once one (used z member) stands (used i inside) standsI
  have offered := forceZone_offered (s := u) (z := z) (k := k) (level := level) (scope := scope) (g := g) (place := place) (regular.2 sound)
    (by rw [zoneU]; exact standing_count_le one (used z member)) (by rw [zoneU]; exact placed)
  rw [← final, group, now_of_exceptRamp wiped] at offered
  exact offeredWhen_between before offered after ((does.regular_fold l s).2 sound)

end

end Sys2Proof.Machine

/-! SUPPORT. FORCE, settled: O49 (R122 to R126). -/

namespace Sys2Proof.Machine

set_option Elab.async false

section
variable {s t : State} {k : OverrideKind} {kind : Byte} {asked : Nat} {scope : OverrideScope} {z : Fin 32} {g : Fin 48} {place : Place} {p : Fin 4}

/-- The override kind that a request's byte names (11.7). -/
def OverrideKind.named (kind : Byte) (k : OverrideKind) : Prop := (kind = 1 ∧ k = .manual) ∨ (kind = 2 ∧ k = .fire)

theorem ofCode_of_named (named : OverrideKind.named kind k) : OverrideKind.ofCode kind = some k := by
  rcases named with ⟨rfl, rfl⟩ | ⟨rfl, rfl⟩ <;> rfl

theorem ofCode_of_unnamed (manual : kind ≠ 1) (fire : kind ≠ 2) : OverrideKind.ofCode kind = none := by
  unfold OverrideKind.ofCode
  split
  · next is => exact absurd (BitVec.eq_of_toNat_eq is) manual
  · next is => exact absurd (BitVec.eq_of_toNat_eq is) fire
  · rfl

/-- All regular stages of a zone on. -/
def Zone.allOn (z : Zone) : Zone := { z with onStages := Vector.ofFn fun n => z.onStages[n] || decide (n.val < z.stages.length) }

theorem forced_manual (s : State) (asked : Nat) (scope : OverrideScope) (z : Zone) : s.forced .manual asked scope z = { z.allOn with
    dCmd := if z.allOn.onStages = z.onStages then z.dCmd
      else if z.sOn s.sg = 0 then z.allOn.dminOn s.groups else max (z.allOn.dminOn s.groups) (z.dCmd * z.sOn s.sg / z.allOn.sOn s.sg)
    dTarget := some (clampForce asked (z.allOn.dminOn s.groups))
    override := some { kind := .manual, level := clampForce asked (z.allOn.dminOn s.groups), scope := scope } } := by
  have all : z.allStages z.onReserve = z.allOn := rfl
  have same : (z.allOn.sameOnSet z = true) = (z.allOn.onStages = z.onStages) :=
    propext (sameOnSet_iff.trans ⟨And.left, fun stages => ⟨stages, rfl⟩⟩)
  unfold State.forced Zone.manual handoverOn
  dsimp only
  rw [all]
  simp only [same]

theorem forced_fire (s : State) (asked : Nat) (scope : OverrideScope) (z : Zone) : s.forced .fire asked scope z
    = { ({ z.allOn with onReserve := z.reserve.isSome } : Zone) with
        dCmd := clampForce asked (({ z.allOn with onReserve := z.reserve.isSome } : Zone).dminOn s.groups)
        dTarget := some (clampForce asked (({ z.allOn with onReserve := z.reserve.isSome } : Zone).dminOn s.groups))
        override := some { kind := .fire, level := clampForce asked (({ z.allOn with onReserve := z.reserve.isSome } : Zone).dminOn s.groups)
                           scope := scope } } := rfl

theorem runForce_refused {r : Reach} {n : Nat} (unreachable : ¬ s.reachable r = true) : s.runForce r kind n = s.refuse .wrongState := by
  unfold State.runForce
  rw [Bool.eq_false_iff.mpr unreachable]
  rfl

theorem runForce_unnamed {r : Reach} {n : Nat} (reachable : s.reachable r = true) (manual : kind ≠ 1) (fire : kind ≠ 2) :
    s.runForce r kind n = s.refuse .badValue := by
  unfold State.runForce
  rw [reachable, ofCode_of_unnamed manual fire]
  rfl

theorem runForce_zone {n : Nat} (reachable : s.reachable (.zone z) = true) (named : OverrideKind.named kind k) :
    s.runForce (.zone z) kind n = (s.forceZone z k (min 1000 n) .zone).done := by
  unfold State.runForce
  rw [reachable, ofCode_of_named named]
  rfl

theorem runForce_portal {n : Nat} (reachable : s.reachable (.portal p) = true) (named : OverrideKind.named kind k) :
    s.runForce (.portal p) kind n = (s.forcePortal p k (min 1000 n)).done := by
  unfold State.runForce
  rw [reachable, ofCode_of_named named]
  rfl

theorem ofOperands_force {scopeByte index hi lo : Byte} {r : Reach} (more : List Byte) (reached : Reach.resolve scopeByte index = .ok r) :
    Request.ofOperands 7 (scopeByte :: index :: kind :: hi :: lo :: more) = .ok (.force r kind (joinBytes hi lo)) := by
  change (Reach.resolve scopeByte index).map _ = _
  rw [reached]
  rfl

/-! ### What FORCE comes to, by the byte of its kind -/

/-- A zone's record after FORCE (R124, R125). -/
def State.forcedTo (s : State) (kind : Byte) (asked : Nat) (scope : OverrideScope) (z y : Zone) : Prop :=
  (kind = 1 → y = s.forced .manual asked scope z) ∧ (kind = 2 → y = s.forced .fire asked scope z)

theorem forcedTo_of_named (named : OverrideKind.named kind k) (z : Zone) : s.forcedTo kind asked scope z (s.forced k asked scope z) := by
  rcases named with ⟨rfl, rfl⟩ | ⟨rfl, rfl⟩
  · exact ⟨fun _ => rfl, fun fire => absurd fire (by decide)⟩
  · exact ⟨fun manual => absurd manual (by decide), fun _ => rfl⟩

/-- The offers of FORCE for the groups of a zone (R124, R125). -/
def State.forceOffered (s t : State) (kind : Byte) (z : Fin 32) (now : Time) : Prop :=
  ∀ (place : Place) (g : Fin 48), (place, g) ∈ (s.zones[z]).places → s.slotCount g = 1 →
    let level := if (t.zones[z]).isOn place = true ∧ s.groups[g].dmin ≤ (t.zones[z]).dCmd then (t.zones[z]).dCmd else 0
    t.groups[g] = { s.groups[g] with sent := t.groups[g].sent, refreshFrom := t.groups[g].refreshFrom, due := t.groups[g].due,
                                     pendingMark := t.groups[g].pendingMark }
      ∧ (s.groups[g].owner = .line → s.noLevelOffered t g)
      ∧ (s.groups[g].owner = .part → kind = 2 → s.levelOffered t g level .fire now)
      ∧ (s.groups[g].owner = .part → kind = 1 →
        (level ≠ s.groups[g].sent → s.levelOffered t g level .autoManual now) ∧ (level = s.groups[g].sent → s.noLevelOffered t g))

theorem forceOffered_of_forcedZone (named : OverrideKind.named kind k) (forced : ForcedZone s t z k asked scope) (sound : s.queuesSound)
    (record : ∀ g : Fin 48, t.groups[g] = (s.groups[g]).withOffer t.groups[g]) : s.forceOffered t kind z s.now := by
  intro place g placed one level
  have offered := forced.offered sound place g placed one
  rw [levelAt_eq] at offered
  obtain ⟨asks, quiet⟩ := offered
  refine ⟨record g, fun line => quiet fun ask => ?_, fun part isFire => ?_, fun part isManual => ⟨fun differs => ?_, fun equal => ?_⟩⟩
  · exact absurd (ask.1.symm.trans line) (by decide)
  all_goals rcases named with ⟨rfl, rfl⟩ | ⟨rfl, rfl⟩
  · exact absurd isFire (by decide)
  · exact asks ⟨part, fun manual => absurd manual (by decide)⟩
  · exact asks ⟨part, fun _ => differs⟩
  · exact absurd isManual (by decide)
  · exact quiet fun ask => ask.2 rfl equal
  · exact absurd isManual (by decide)

theorem forceOffered_congr {t' : State} {now : Time} (zones : t'.zones = t.zones) (groups : t'.groups = t.groups) (queue : t'.fQueue = t.fQueue)
    (offered : s.forceOffered t kind z now) : s.forceOffered t' kind z now := by
  unfold State.forceOffered State.levelOffered State.noLevelOffered
  rw [zones, groups, queue]
  exact offered

/-! ### FORCE on a portal -/

theorem forcePortal_eq (s : State) (p : Fin 4) (k : OverrideKind) (level : Nat) : s.forcePortal p k level
    = ((s.mapPortal p fun r => { r with override := some { kind := k, level := level } }).portalZones p).foldl
      (fun u z => u.forceZone z k level .portal) (s.mapPortal p fun r => { r with override := some { kind := k, level := level } }) := rfl

theorem exceptRamp_forcePortal (s : State) (p : Fin 4) (k : OverrideKind) (level : Nat) : (s.forcePortal p k level).exceptRamp
    = (s.mapPortal p fun r => { r with override := some { kind := k, level := level } }).exceptRamp := by
  rw [forcePortal_eq]
  exact (zoneWork_forceZone k level .portal).wiped_fold _ _

theorem mapPortal_portalZones (s : State) (p q : Fin 4) (f : Portal → Portal) : (s.mapPortal p f).portalZones q = s.portalZones q :=
  portalZones_congr (State.mapPortal_zones s p f) q

/-- FORCE on a portal forces each of its zones. -/
theorem forcedZone_forcePortal (listed : z ∈ s.portalZones p) : ForcedZone s (s.forcePortal p k asked) z k asked .portal := by
  have forced := forcedZone_fold (s := s.mapPortal p fun r => { r with override := some { kind := k, level := asked } }) (k := k) (level := asked)
    (scope := .portal) (nodup_portalZones _ p) (z := z) (by rw [mapPortal_portalZones]; exact listed) used_of_portalZones
  rw [← forcePortal_eq] at forced
  exact ⟨forced.zone, forced.offered⟩

theorem forcePortal_portals (s : State) (p : Fin 4) (k : OverrideKind) (level : Nat) : (s.forcePortal p k level).portals
    = updAt s.portals p fun r => { r with override := some { kind := k, level := level } } :=
  (portals_of_exceptRamp (exceptRamp_forcePortal s p k level)).trans (State.mapPortal_portals _ _ _)

theorem forcePortal_record (s : State) (p : Fin 4) (k : OverrideKind) (level : Nat) (g : Fin 48) :
    (s.forcePortal p k level).groups[g] = (s.groups[g]).withOffer (s.forcePortal p k level).groups[g] :=
  group_of_exceptRamp (exceptRamp_forcePortal s p k level) g

theorem portalFlags_of_exceptRamp (same : t.exceptRamp = s.exceptRamp) : t.portalFlags = s.portalFlags :=
  (congrArg (fun u : State => u.portalFlags) same :)

theorem forceZone_portalFlags (s : State) (z : Fin 32) (k : OverrideKind) (level : Nat) (scope : OverrideScope) :
    (s.forceZone z k level scope).portalFlags = s.portalFlags := portalFlags_of_exceptRamp (exceptRamp_forceZone s z k level scope)

theorem forcePortal_portalFlags (s : State) (p : Fin 4) (k : OverrideKind) (level : Nat) :
    (s.forcePortal p k level).portalFlags = s.portalFlags :=
  (portalFlags_of_exceptRamp (exceptRamp_forcePortal s p k level)).trans (State.mapPortal_portalFlags _ _ _)

theorem forcePortal_zone_other (away : ¬ (s.zones[z].used = true ∧ s.zones[z].portal = p)) : (s.forcePortal p k asked).zones[z] = s.zones[z] := by
  rw [forcePortal_eq, mapPortal_portalZones]
  refine (zoneWork_forceZone k asked .portal).zone_fold fun i member => ?_
  rintro rfl
  obtain ⟨used, here, -⟩ := mem_portalZones.mp member
  exact away ⟨used, here⟩

theorem forcePortal_group_other (absent : ∀ z : Fin 32, s.zones[z].used = true → s.zones[z].portal = p → g ∉ (s.zones[z]).standing) :
    (s.forcePortal p k asked).groups[g] = s.groups[g] := by
  rw [forcePortal_eq, mapPortal_portalZones]
  refine ((zoneWork_forceZone k asked .portal).group_fold fun i member => ?_).1
  obtain ⟨used, here, -⟩ := mem_portalZones.mp member
  exact absent i used here

end

end Sys2Proof.Machine

/-! SUPPORT. FORCE, the obligation: O49 (R122 to R126). -/

namespace Sys2Proof.Machine

set_option Elab.async false

section
variable {s st t : State} {k : OverrideKind} {kind : Byte} {n : Nat} {z : Fin 32} {p : Fin 4}

/-- The answer to a FORCE that was carried out: the response, and else what FORCE did. -/
structure ForceAnswered (s st t : State) (h : ReqHead) : Prop where
  responded : t.responded (s.responseEntry h .ok [] false)
  portals : t.portals = st.portals
  zones : t.zones = st.zones
  groups : t.groups = st.groups
  fQueue : t.fQueue = st.fQueue
  portalFlags : t.portalFlags = s.portalFlags
  rest : t.exceptRegulation = { s with now := s.now + h.dt, placed := s.placed + 1, slot0 := t.slot0 }.exceptRegulation

theorem exec_force {h : ReqHead} {ops : List Byte} {q : Request} {i : Instr} (free : s.engineFree)
    (asks : requestOf i = some (h.dt, h.src, h.tag :: 7 :: ops)) (shape : Request.ofOperands 7 ops = .ok q) (granted : s.grants h.src q = true)
    (run : (s.placing h.dt h.src (h.tag :: 7 :: ops)).runRequest q = st.done)
    (wiped : st.exceptRegulation = (s.placing h.dt h.src (h.tag :: 7 :: ops)).exceptRegulation)
    (flags : st.portalFlags = s.portalFlags) : ∃ t, exec i s = .next t ∧ ForceAnswered s st t h := by
  obtain ⟨slot, own⟩ := engine_of_exceptRegulation wiped
  obtain ⟨t, answers, responded, rest, -⟩ := exec_responded free asks shape granted (by decide) run slot own
  have framed : t.exceptRegulation = ({ st with slot0 := t.slot0 } : State).exceptRegulation := (congrArg State.exceptRegulation rest :)
  refine ⟨t, answers, responded, (congrArg (fun u : State => u.portals) rest :), (congrArg (fun u : State => u.zones) rest :),
    (congrArg (fun u : State => u.groups) rest :), (congrArg (fun u : State => u.fQueue) rest :),
    (congrArg (fun u : State => u.portalFlags) rest :).trans flags, ?_⟩
  rw [framed]
  exact (congrArg (fun u : State => { u with slot0 := t.slot0 }) wiped :)

end

/-- Settles O49: FORCE works zone by zone, each zone's record read off and its offers made for the groups of one slot. -/
theorem forceOverrides : Obligations.ForceOverrides := by
  unfold Obligations.ForceOverrides
  intro h kind hi lo more s free room control sound queues asked forced offered frame
  have isForced {x y : Zone} {scope : OverrideScope} (became : s.forcedTo kind asked scope x y) : forced x y scope :=
    ⟨fun manual => (became.1 manual).trans (forced_manual s asked scope x), fun fire => (became.2 fire).trans (forced_fire s asked scope x)⟩
  refine ⟨fun z => ?_, fun p => ?_⟩
  · intro command allowed
    have shape := ofOperands_force (kind := kind) (hi := hi) (lo := lo) more (reach_zone z)
    refine ⟨fun barred => ?_, fun ready manual fire => ?_, fun ready names => ?_⟩
    · exact exec_declined free room rfl shape control (by decide)
        (runForce_refused (s := s.placing h.dt h.src _) fun reachable => barred (reachable_zone_iff.mp reachable))
    · exact exec_declined free room rfl shape control (by decide)
        (runForce_unnamed (s := s.placing h.dt h.src _) (reachable_zone_iff.mpr ready) manual fire)
    · obtain ⟨k, named⟩ : ∃ k, OverrideKind.named kind k := names.elim (fun is => ⟨.manual, .inl ⟨is, rfl⟩⟩) fun is => ⟨.fire, .inr ⟨is, rfl⟩⟩
      have run := runForce_zone (s := s.placing h.dt h.src (h.tag :: 7 :: 0 :: BitVec.ofNat 8 z.val :: kind :: hi :: lo :: more)) (z := z)
        (n := joinBytes hi lo) (reachable_zone_iff.mpr ready) named
      obtain ⟨t, answers, did⟩ := exec_force (i := command) free rfl shape control run (exceptRegulation_forceZone _ _ _ _ _)
        (forceZone_portalFlags _ _ _ _ _)
      have zones : t.zones = updAt s.zones z (s.forced k asked .zone) := did.zones.trans (forceZone_zones _ _ _ _ _)
      have offers := forceOffered_of_forcedZone named
        (forcedZone_forceZone (s := s.placing h.dt h.src (h.tag :: 7 :: 0 :: BitVec.ofNat 8 z.val :: kind :: hi :: lo :: more)) (z := z) (k := k)
          (level := asked) (scope := .zone) ready.2.1) queues fun g => group_of_exceptRamp (exceptRamp_forceZone _ _ _ _ _) g
      refine ⟨t, answers, ⟨did.responded, did.portalFlags, did.rest⟩, did.portals.trans (forceZone_portals _ _ _ _ _), isForced ?_,
        fun o differs => ?_, forceOffered_congr did.zones did.groups did.fQueue offers, fun g absent => ?_⟩
      · rw [zones, updAt_same]
        exact forcedTo_of_named named _
      · rw [zones]
        exact updAt_other _ _ _ _ differs.symm
      · rw [did.groups]
        exact (zoneWork_forceZone k asked .zone).group _ z g absent
  · intro command allowed
    have shape := ofOperands_force (kind := kind) (hi := hi) (lo := lo) more (reach_portal p)
    refine ⟨fun barred => ?_, fun ready manual fire => ?_, fun k ready named => ?_⟩
    · exact exec_declined free room rfl shape control (by decide)
        (runForce_refused (s := s.placing h.dt h.src _) fun reachable => barred (reachable_portal_iff.mp reachable))
    · exact exec_declined free room rfl shape control (by decide)
        (runForce_unnamed (s := s.placing h.dt h.src _) (reachable_portal_iff.mpr ready) manual fire)
    · have run := runForce_portal (s := s.placing h.dt h.src (h.tag :: 7 :: 1 :: BitVec.ofNat 8 p.val :: kind :: hi :: lo :: more)) (p := p)
        (n := joinBytes hi lo) (reachable_portal_iff.mpr ready) named
      obtain ⟨t, answers, did⟩ := exec_force (i := command) free rfl shape control run (exceptRegulation_forcePortal _ _ _ _)
        (forcePortal_portalFlags _ _ _ _)
      refine ⟨t, answers, ⟨did.responded, did.portalFlags, did.rest⟩, did.portals.trans (forcePortal_portals _ _ _ _), fun g absent => ?_,
        fun z => ⟨fun used here => ?_, fun away => ?_⟩⟩
      · rw [did.groups]
        exact forcePortal_group_other (s := s.placing h.dt h.src _) absent
      · have listed := (mem_portalZones_of_sound sound).mpr ⟨used, here⟩
        have work := forcedZone_forcePortal (s := s.placing h.dt h.src (h.tag :: 7 :: 1 :: BitVec.ofNat 8 p.val :: kind :: hi :: lo :: more))
          (k := k) (asked := asked) listed
        have offers := forceOffered_of_forcedZone named work queues (forcePortal_record _ p k asked)
        have zone : t.zones[z] = s.forced k asked .portal s.zones[z] := (congrArg (fun v : Vector Zone 32 => v[z]) did.zones).trans work.zone
        refine ⟨isForced ?_, forceOffered_congr did.zones did.groups did.fQueue offers⟩
        rw [zone]
        exact forcedTo_of_named named _
      · rw [did.zones]
        exact forcePortal_zone_other (s := s.placing h.dt h.src _) away

end Sys2Proof.Machine
